-- ==== Sys2Proof/Word.lean ====
section
/-! DEFINITION. The words of the part and the names of its two memory devices. -/

namespace Sys2Proof

/-- A byte of a memory line, of the management map or of a record in memory. -/
abbrev Byte := BitVec 8

/-- A halfword of the host data lines, or a two-byte field. -/
abbrev Half := BitVec 16

/-- A 32-bit number: sequence numbers, generations, change numbers, counters (R1, R185). -/
abbrev Word32 := BitVec 32

/-- A memory device, by its chip select (R120). -/
inductive Dev where
  | d0
  | d1
deriving DecidableEq, Repr

/-- One value for each memory device. -/
structure PerDev (α : Type) where
  d0 : α
  d1 : α
deriving DecidableEq, Repr

/-- The value of one device. -/
def PerDev.get {α : Type} (p : PerDev α) : Dev → α
  | .d0 => p.d0
  | .d1 => p.d1

/-- The pair with one device's value replaced. -/
def PerDev.set {α : Type} (p : PerDev α) (d : Dev) (x : α) : PerDev α :=
  match d with
  | .d0 => { p with d0 := x }
  | .d1 => { p with d1 := x }

end Sys2Proof
end

