-- ==== Sys2Proof/Syntax.lean ====
section
/-! DEFINITION. The commands: one constructor for each row of spec/opcode_table.json, with the operands its rule gives it. -/

namespace Sys2Proof

/-- A status result of READ_STATUS (R123). `invalid` is what a chip select with no device behind it returns. -/
inductive StatusResult where
  | busy
  | suspended
  | readyPass
  | readyFail
  | invalid
deriving DecidableEq, Repr

/-- What a memory device answers at the end of a transfer (R120, R122). The bytes of a READ are what the page holds (R121)
and are no part of the answer. -/
inductive BusAnswer where
  /-- the command returns nothing that the device chooses -/
  | taken
  /-- the answer to READ_STATUS -/
  | status (r : StatusResult)
  /-- the answer to IDENTIFY: whether the presence response is the page NVM's, and the size in pages (R127) -/
  | identity (present : Bool) (pages : Nat)
deriving DecidableEq, Repr

/-- The commands of the part (spec/opcode_table.json, in the table's order). -/
inductive Instr where
  /-- HOST_ACCESS_ARRIVAL (R105): HA1-HA22, /HBL, /HBH, /HRD and /HWR asserted, and HD0-HD15, with /HCS asserted. -/
  | hostAccessArrival (ha : BitVec 22) (hbl hbh hrd hwr : Bool) (hd : Half)
  /-- PENDING_ALLOCATION_FILL (R10) -/
  | pendingAllocationFill
  /-- HOST_STROBE_RELEASE (R106) -/
  | hostStrobeRelease
  /-- STALL_LIMIT_EXPIRY (R110) -/
  | stallLimitExpiry
  /-- SEAL_DEADLINE_EXPIRY (R15): the entry, by its sequence number. -/
  | sealDeadlineExpiry (seq : Word32)
  /-- FENCE_LINE_RISING_EDGE (R70) -/
  | fenceLineRisingEdge
  /-- MARKER_COMPLETION (R73) -/
  | markerCompletion
  /-- WRITE_THROUGH_COMPLETION (R79) -/
  | writeThroughCompletion
  /-- PDONE_PULSE_END (R75) -/
  | pdonePulseEnd
  /-- ARBITER_GRANT (R137) -/
  | arbiterGrant
  /-- MEMORY_TRANSFER_END (R120): the device's answer. -/
  | memoryTransferEnd (answer : BusAnswer)
  /-- STATUS_POLL_DUE (R128) -/
  | statusPollDue (d : Dev)
  /-- SUSPEND_ACK_LIMIT_EXPIRY (R57) -/
  | suspendAckLimitExpiry (d : Dev)
  /-- PROGRAM_TIME_LIMIT_EXPIRY (R60) -/
  | programTimeLimitExpiry (d : Dev)
  /-- METADATA_PROGRAM_TIME_EXPIRY (R130) -/
  | metadataProgramTimeExpiry
  /-- RESET_DEADLINE_EXPIRY (R129) -/
  | resetDeadlineExpiry (d : Dev)
  /-- DRAIN_GATHER (R48) -/
  | drainGather (d : Dev)
  /-- PERSIST_DONE_CONTEXT_END (R94) -/
  | persistDoneContextEnd (d : Dev)
  /-- PERSIST_START (R146) -/
  | persistStart
  /-- WRITE_REQUEST_TAKEN (R153) -/
  | writeRequestTaken
  /-- PFAIL_ASSERT (R156) -/
  | pfailAssert
  /-- HOLDUP_END (R167) -/
  | holdupEnd
  /-- PFAIL_RELEASE (R156) -/
  | pfailRelease
  /-- STOPPED_QUIET_RESET (R165) -/
  | stoppedQuietReset
  /-- RESET_ASSERT (R175) -/
  | resetAssert
  /-- RESET_RELEASE (R175): the level of MADR, sampled at the release (R176). -/
  | resetRelease (madr : Bool)
  /-- POWER_UP (R175): the levels of PFAIL and MADR as the supplies come up. -/
  | powerUp (pfail madr : Bool)
  /-- REPLAY_END (R161) -/
  | replayEnd
  /-- RESTART_END (R163) -/
  | restartEnd
  /-- COMMIT (R116) -/
  | commit
  /-- COMMIT_SWAP (R117) -/
  | commitSwap
  /-- FENCE (R70) -/
  | fence
  /-- RESTART (R163) -/
  | restart
  /-- RETIRE_PAGE (R99) -/
  | retirePage
  /-- POP_FAULT (R183) -/
  | popFault
  /-- SELECT_REMAP (R184) -/
  | selectRemap
  /-- CLEAR_COUNTERS (R185) -/
  | clearCounters
  /-- CLEAR_STATUS (R186) -/
  | clearStatus
  /-- UNKNOWN_REQUEST_CODE (R180): the request code written. -/
  | unknownRequestCode (code : Byte)
  /-- EVENT_FLAGS_WRITE (R187): the byte written at 0x07. -/
  | eventFlagsWrite (b : Byte)
  /-- EVENT_ENABLES_WRITE (R187): the byte written at 0x08. -/
  | eventEnablesWrite (b : Byte)
  /-- REMAP_VIEW_INDEX_WRITE (R189): the byte written at 0x0F. -/
  | remapViewIndexWrite (b : Byte)
  /-- MAP_BYTE_WRITE (R176): the byte written at the current index. -/
  | mapByteWrite (b : Byte)
  /-- INDEX_SET (R176): the first data byte of a write transaction. -/
  | indexSet (b : Byte)
  /-- SNAPSHOT_CAPTURE (R177): one byte is read at the current index, and whether the controller acknowledges it (R176); written
  without its operand it is acknowledged (log 16). -/
  | snapshotCapture (ack : Bool := true)
  /-- TRANSACTION_END (R177) -/
  | transactionEnd
  /-- PDONE_PULSE_START (R75) -/
  | pdonePulseStart
  /-- TRANSACTION_START (R176): the address byte, seven address bits and the direction bit. -/
  | transactionStart (b : Byte)
  /-- POWER_LOSS (R171) -/
  | powerLoss
deriving DecidableEq, Repr

end Sys2Proof
end

