-- ==== Sys2Proof/Config.lean ====
section
/-! DEFINITION. What the part fixes (sizes, limits, page numbers) and the free values: constants with no body, of which
nothing can be proved. -/

namespace Sys2Proof.Config

/-- Entry records of the posted write buffer (R2). -/
def bufferEntries : Nat := 32
/-- Markers of the fence queue (R69). -/
def fenceRecords : Nat := 4
/-- Greatest weight of a marker, and greatest count of PDONE pulses owed (R72, R75). -/
def saturation : Nat := 255
/-- Records of the read-ahead buffer (R31). -/
def readAheadRecords : Nat := 4
/-- Records of the fault queue (R182). -/
def faultRecords : Nat := 8
/-- Greatest starvation count (R138). -/
def starvationLimit : Nat := 8
/-- Greatest number of FAILED entries (R86). -/
def failedLimit : Nat := 8
/-- Spares a retirement may try (R89). -/
def spareAttempts : Nat := 3
/-- Free-spare count at which SPARES_LOW is queued (R91). -/
def sparesLow : Nat := 4

/-- Program time limit in µs (R55, R130). -/
def programLimit : Nat := 4000
/-- Suspend acknowledgement limit in µs (R57). -/
def ackLimit : Nat := 100
/-- Device reset limit in µs (R129). -/
def resetLimit : Nat := 1000
/-- Poll interval in µs (R128). -/
def pollInterval : Nat := 10

/-- First page of the device's spare pool, which is also the number of its user pages (R84). -/
def userPages : Dev → Nat
  | .d0 => 8150
  | .d1 => 8160

/-- Pages of a spare pool (R84). -/
def sparePages : Nat := 32

/-- The page of the dump header and of dump records 1 to 9 (R140). -/
def headerPage : Nat := 8182

/-- What a byte of a memory page that nothing has programmed reads as. DESIGN CHOICE (log 6): the spec speaks of blank
memory and does not say what a blank byte holds. -/
def blankByte : Byte := 0xFF

/-- How many same-event consequences one command may bring before the model stops following them (log 25). -/
def settleBound : Nat := 128

/-- FREE VALUE (log 7): the byte at a position that a failed, reset or cut-off program was writing (R54, R121). The number
tells one such byte from another; the same byte reads the same each time. -/
opaque indeterminateByte : Nat → Byte

/-- FREE VALUE (log 8): the byte address of an access that asserts neither byte enable, by its halfword address (R105 gives
one only where a byte enable is asserted). -/
opaque unnamedByteAddress : BitVec 22 → BitVec 23

/-- FREE VALUE (log 39): whether MADR is high when an internal cold reset samples it (R176), by how many such samples were taken
before. No row of the table carries a change of the line. -/
opaque madrLevel : Nat → Bool

end Sys2Proof.Config
end

