-- ==== Sys2Proof/Machine/State.lean ====
section
/-! DEFINITION. The state of the part, block by block, as plain data, and its values after cold reset. -/

namespace Sys2Proof.Machine

/-! ### Memory locations -/

/-- A line of a home page (00_scope section 3.1). -/
structure Loc where
  dev  : Dev
  page : Nat
  line : Nat
deriving DecidableEq, Repr

/-! ### Window tables (R114, R115, R189) -/

/-- A window record, byte for byte as the map holds it. `flags` has bit 0 enabled and bits 2-1 policy; its other bits are held,
and no check examines them: DESIGN CHOICE (log 18). -/
structure WindowRecord where
  flags    : Byte
  device   : Byte
  hostBase : Half
  size     : Half
  memBase  : Half
deriving DecidableEq, Repr

/-- The five global parameters (R115), as the map holds them. -/
structure Params where
  sealDelay    : Half
  highWater    : Byte
  stallLimit   : Byte
  readAhead    : Byte
  suspendLimit : Byte
deriving DecidableEq, Repr

/-- A window table with its parameters: staged, live, or a commit image. It has 8 windows. -/
structure Table where
  windows : List WindowRecord
  params  : Params
deriving DecidableEq, Repr

/-- Every window disabled and every field 0 (R188). -/
def Table.zero : Table :=
  { windows := List.replicate 8 ⟨0, 0, 0, 0, 0⟩, params := ⟨0, 0, 0, 0, 0⟩ }

/-- What writes through a window do (R114). -/
inductive Policy where
  | posted
  | writeThrough
  | readOnly
deriving DecidableEq, Repr

/-! ### Host port (R104, R113) -/

/-- Direction of an access. -/
inductive Dir where
  | read
  | write
deriving DecidableEq, Repr

/-- Phases of a host access (R104). -/
inductive AccessPhase where
  | heldBuffer
  | heldWt
  | heldRead
  | complete
deriving DecidableEq, Repr

/-- Error causes of the last-host-error record (R113). -/
inductive Cause where
  | notReady
  | noWindow
  | readOnly
  | deviceUnavailable
  | writeRefused
  | failedPage
  | stallTimeout
  | wtIncomplete
  | abandoned
deriving DecidableEq, Repr

/-- The host access record (R104). `err` and `rdata` are what /HERR and HD0-HD15 carry in COMPLETE (R106). -/
structure Access where
  dir        : Dir
  addr       : BitVec 23
  even       : Bool
  odd        : Bool
  wdata      : Option Half
  loc        : Option Loc
  policy     : Option Policy
  phase      : AccessPhase
  stallLimit : Nat
  stallTime  : Nat
  err        : Bool
  rdata      : Half
deriving DecidableEq, Repr

/-- The last-host-error record (R113). -/
structure HostError where
  cause : Cause
  addr  : BitVec 23
  dir   : Dir
deriving DecidableEq, Repr

structure HostPort where
  access  : Option Access
  lastErr : Option HostError
deriving DecidableEq, Repr

/-! ### Window decoder (R114 to R118) -/

/-- CONFIG_PERSIST (R118). -/
inductive PersistStatus where
  | done
  | pending
  | failed
deriving DecidableEq, Repr

structure WindowDecoder where
  live     : Table
  change   : Word32
  image    : Option Table
  persist  : PersistStatus
  reported : Option Word32
deriving DecidableEq, Repr

/-! ### Posted write buffer (R2 to R6, R10) -/

/-- States of an entry that is not FREE (R3). -/
inductive EntryState where
  | opened
  | sealed
  | draining
deriving DecidableEq, Repr

/-- An entry that is not FREE. `bytes` holds 16 positions: a byte where the mask flag is set, and nothing elsewhere, since
the data there has no meaning (R3). -/
structure Entry where
  loc      : Loc
  bytes    : List (Option Byte)
  seq      : Word32
  wt       : Bool
  state    : EntryState
  deadline : Option Nat
deriving DecidableEq, Repr

/-- A decoded write on its way into the buffer, and the pending allocation (R10). -/
structure PendingWrite where
  loc   : Loc
  bytes : List (Option Byte)
  wt    : Bool
deriving DecidableEq, Repr

/-- `entries` is the age list (R5); FREE entries hold nothing and are not listed (R3). -/
structure WriteBuffer where
  entries : List Entry
  counter : Word32
  waiting : Option PendingWrite
deriving DecidableEq, Repr

/-! ### Read path (R28, R31, R40, R44) -/

/-- Phases of a host read that outlive its arrival (R28). -/
inductive ReadPhase where
  | queued
  | suspendAsked
  | suspendHeld
  | transfer
deriving DecidableEq, Repr

/-- The host read record (R28). `asked` is set when a suspend was asked for the program now running (R36). -/
structure HostRead where
  loc       : Loc
  positions : List Nat
  phase     : ReadPhase
  ahead     : Nat
  asked     : Bool
deriving DecidableEq, Repr

/-- The unfinished fetch of an abandoned read, not yet granted (R44). -/
structure Fetch where
  loc   : Loc
  phase : ReadPhase
  ahead : Nat
  asked : Bool
deriving DecidableEq, Repr

/-- A line record of the read-ahead buffer (R31). -/
structure LineRecord where
  loc   : Loc
  bytes : List Byte
deriving DecidableEq, Repr

/-- `lines` is in fill order, the oldest-filled first. -/
structure ReadPath where
  host   : Option HostRead
  fetch  : Option Fetch
  refill : Option Loc
  lines  : List LineRecord
deriving DecidableEq, Repr

/-! ### Fence unit (R69, R75, R78) -/

/-- A fence marker record (R69). -/
structure Marker where
  marker : Word32
  weight : Nat
  lost   : Bool
deriving DecidableEq, Repr

/-- The write-through wait record (R78). -/
structure WaitRecord where
  seq  : Word32
  lost : Bool
deriving DecidableEq, Repr

/-- `high` is the PDONE level and `levelTime` the µs it has had it, counted to 1 (R75). -/
structure FenceUnit where
  queue     : List Marker
  wait      : Option WaitRecord
  owed      : Nat
  high      : Bool
  levelTime : Nat
deriving DecidableEq, Repr

/-! ### Drain engines (R46, R47) -/

inductive CtxKind where
  | drain
  | retireRequest
deriving DecidableEq, Repr

inductive CtxPhase where
  | programming
  | suspended
  | resetting
  | retireRead
  | retireProgram
  | awaitPersist
  | stopped
deriving DecidableEq, Repr

inductive SuspendStep where
  | asked
  | held
  | resuming
deriving DecidableEq, Repr

/-- A program context (R46). `batch` has 256 positions: a byte where the batch mask is set. `suspendSent` says that a
SUSPEND was sent for the program now running (R131); `ackTime` runs from the end of the SUSPEND transfer (R57). -/
structure Ctx where
  home         : Nat
  phys         : Nat
  kind         : CtxKind
  phase        : CtxPhase
  entrySet     : List Word32
  batch        : List (Option Byte)
  started      : Bool
  suspendStep  : Option SuspendStep
  suspendsUsed : Nat
  suspendSent  : Bool
  ackTime      : Option Nat
  programTime  : Nat
  attempts     : Nat
  candidate    : Option Nat
  image        : Option (List Byte)
  awaited      : Option Word32
  before       : Option CtxPhase
deriving DecidableEq, Repr

structure Engine where
  ctx      : Option Ctx
  stopping : Bool
deriving DecidableEq, Repr

/-! ### Remap unit (R84 to R87) -/

/-- An entry of the remap table (R86). -/
inductive RemapEntry where
  | remap (dev : Dev) (home spare : Nat)
  | failed (dev : Dev) (home : Nat)
  | retiredSpare (dev : Dev) (spare : Nat)
deriving DecidableEq, Repr

structure RemapUnit where
  table    : List RemapEntry
  free     : PerDev (List Nat)
  hold     : PerDev (Option Nat)
  change   : Word32
  reported : Option Word32
deriving DecidableEq, Repr

/-! ### Memory port and arbiter (R122, R124, R126, R135) -/

inductive DevState where
  | absent
  | online
  | writeLocked
  | offline
deriving DecidableEq, Repr

inductive Activity where
  | idle
  | programming
  | suspended
  | resetting
deriving DecidableEq, Repr

/-- The block whose work a device is doing (R124). -/
inductive Owner where
  | engine
  | mu
  | probe
deriving DecidableEq, Repr

/-- A device record (R124). -/
structure DevRecord where
  state         : DevState
  activity      : Activity
  owner         : Option Owner
  page          : Option Nat
  poll          : Option Nat
  resetDeadline : Option Nat
  muProgramTime : Option Nat
deriving DecidableEq, Repr

/-- The commands the memory port sends (R122). -/
inductive Cmd where
  | identify
  | read (page firstLine lines : Nat)
  | programMasked (page : Nat) (bytes : List (Option Byte))
  | programPage (page : Nat) (bytes : List Byte)
  | readStatus
  | suspend
  | resume
  | deviceReset
deriving DecidableEq, Repr

/-- Who asked for a transfer (R135). -/
inductive Requester where
  | hostRead
  | fetch
  | refill
  | engine
  | port
  | mu
  | probe
deriving DecidableEq, Repr

/-- A waiting request. A READ of the read path names its home page until it is granted (R33). -/
structure Request where
  requester : Requester
  dev       : Dev
  cmd       : Cmd
deriving DecidableEq, Repr

/-- The transfer on the bus. `home` is the home page of a READ of the read path, and `underSuspend` says that it was
granted under a suspension (R36). -/
structure Transfer where
  req          : Request
  home         : Nat
  underSuspend : Bool
deriving DecidableEq, Repr

/-- `probe` holds, during the probe, each device's reset outcome: ready or not (R126). -/
structure MemoryPort where
  devs   : PerDev DevRecord
  probe  : Option (PerDev (Option Bool))
  bus    : Option Transfer
  reqs   : List Request
  starve : Nat
deriving DecidableEq, Repr

/-! ### Metadata unit (R142, R146, R153) -/

inductive Kind where
  | config
  | remap
deriving DecidableEq, Repr

inductive Slot where
  | a
  | b
deriving DecidableEq, Repr

/-- A slot status record (R142). -/
structure SlotStatus where
  newestGen  : Word32
  newestSlot : Option Slot
  badA       : Bool
  badB       : Bool
  pending    : Bool
  fault      : Bool
deriving DecidableEq, Repr

/-- What a persist writes: the owning block's table as it stood at the start (R146). -/
inductive Snapshot where
  | config (t : Table)
  | remap (l : List RemapEntry)
deriving DecidableEq, Repr

/-- A persist in hand (R142). `part` is the page of the slot being programmed, 0 or 1. -/
structure Persist where
  snapshot : Snapshot
  change   : Word32
  gen      : Word32
  target   : Slot
  attempt  : Nat
  part     : Nat
  stopping : Bool
deriving DecidableEq, Repr

/-- The writes the state controller asks for (R153). The dump page is one of 0-3 for pages 8182-8185. -/
inductive ScWrite where
  | dumpPage (k : Nat)
  | toValid
  | toClean
deriving DecidableEq, Repr

/-- The operation in hand (R142). A load holds the slot pages read so far; a record read holds the header's count and CRC
and the record bytes read so far, with the next dump page to read. -/
inductive MuOp where
  | load (pages : List (List Byte))
  | persist (p : Persist)
  | headerRead
  | recordRead (n : Nat) (crc : Word32) (bytes : List Byte) (k : Nat)
  | write (w : ScWrite) (attempt : Nat)
deriving DecidableEq, Repr

structure MetadataUnit where
  config  : SlotStatus
  remap   : SlotStatus
  op      : Option MuOp
  waiting : Option ScWrite
deriving DecidableEq, Repr

/-! ### State controller (R155) -/

inductive OpState where
  | boot
  | replay
  | run
  | restarting
  | holdup
  | dumping
  | dumped
  | stopped
  | halted
deriving DecidableEq, Repr

inductive BootStep where
  | probe
  | load
  | headerRead
  | headerWrite
deriving DecidableEq, Repr

inductive HeaderView where
  | clean
  | openDump
  | valid
  | unknown
deriving DecidableEq, Repr

/-- A dump record (R168, R190); positions whose mask flag is clear hold nothing. -/
structure DumpRecord where
  ordinal : Nat
  loc     : Loc
  wt      : Bool
  bytes   : List (Option Byte)
deriving DecidableEq, Repr

/-- The dump plan and the write reached (R155). -/
structure DumpPlan where
  records : List DumpRecord
  reached : ScWrite
deriving DecidableEq, Repr

structure StateController where
  state       : OpState
  step        : Option BootStep
  pfail       : Bool
  header      : Option HeaderView
  plan        : Option DumpPlan
  returnWrite : Bool
  noDevice0   : Bool
deriving DecidableEq, Repr

/-! ### Management port (R176 to R188) -/

inductive FaultKind where
  | programFail
  | programTimeout
  | retireFail
  | retiredOnRequest
  | sparesLow
  | deviceWriteLocked
  | deviceOffline
  | metadataWrite
  | metaDefaulted
  | stallDiscard
  | dumpIncomplete
  | dumpCrc
  | dumpFailed
  | dumpImpossible
deriving DecidableEq, Repr

/-- A fault record (R182). -/
structure FaultRecord where
  kind   : FaultKind
  dev    : Option Dev
  page   : Option Nat
  count  : Option Nat
  number : Half
deriving DecidableEq, Repr

/-- The eight counters (R185). -/
structure Counters where
  writesAccepted    : Word32
  writesMerged      : Word32
  programsCompleted : Word32
  retirements       : Word32
  entriesLost       : Word32
  stallTimeouts     : Word32
  errCompletions    : Word32
  fencesCompleted   : Word32
deriving DecidableEq, Repr

/-- Names of the counters. -/
inductive Counter where
  | writesAccepted
  | writesMerged
  | programsCompleted
  | retirements
  | entriesLost
  | stallTimeouts
  | errCompletions
  | fencesCompleted
deriving DecidableEq, Repr

/-- The transaction under way (R176). `ended` is a read transaction whose last byte the controller has left unacknowledged:
it has no further byte, and its stop or repeated start is still to come. -/
inductive Transaction where
  | idle
  | writeIndex
  | writing
  | reading
  | ended
deriving DecidableEq, Repr

/-- Request results (R180). -/
inductive ReqResult where
  | none
  | done
  | accepted
  | busy
  | refusedState
  | invalidArgument
  | hostRange
  | memoryRange
  | deviceAbsent
  | hostOverlap
  | memoryOverlap
deriving DecidableEq, Repr

/-- A capture of a multi-byte field: the index of its first byte, and its bytes (R177). -/
structure Capture where
  first : Nat
  bytes : List Byte
deriving DecidableEq, Repr

structure ManagementPort where
  target          : BitVec 7
  index           : Byte
  tx              : Transaction
  captures        : List Capture
  acked           : Bool
  readByte        : Option Byte
  staged          : Table
  code            : Byte
  arg1            : Byte
  arg2            : Half
  inHand          : Bool
  result          : ReqResult
  faults          : List FaultRecord
  faultNumber     : Half
  view            : Option FaultRecord
  remapIndex      : Nat
  counters        : Counters
  fenceLoss       : Bool
  overflow        : Bool
  fenceDone       : Bool
  commitPersisted : Bool
  restored        : Bool
  enables         : BitVec 4
deriving DecidableEq, Repr

/-! ### The memory devices (R121) -/

/-- A byte of a memory device: a value, or what a failed or cut-off program left there (log 7). -/
inductive NvmByte where
  | val (b : Byte)
  | indet (n : Nat)
deriving DecidableEq, Repr

/-- A program running in a device: its page, and a byte at each position it writes. -/
structure NvmProgram where
  page  : Nat
  bytes : List (Option Byte)
deriving DecidableEq, Repr

/-- A page of a memory device that is not blank. -/
structure NvmPage where
  page  : Nat
  bytes : List NvmByte
deriving DecidableEq, Repr

/-- `pages` has its page numbers strictly rising and lists no blank page; a page not listed is blank. -/
structure Nvm where
  pages   : List NvmPage
  running : Option NvmProgram
deriving DecidableEq, Repr

/-! ### Pins and the whole part -/

/-- Levels of the inputs that are levels to the part (R156, R175, R176). `madr` is the level of MADR when it was last sampled. -/
structure Pins where
  powered : Bool
  reset   : Bool
  pfail   : Bool
  madr    : Bool
deriving DecidableEq, Repr

/-- The state of the part, with the queue of commands that wait. `indet` and `samples` are the model's counters of the free
values taken so far (log 7, log 39). -/
structure State where
  pending : List Instr
  pins    : Pins
  hp      : HostPort
  wd      : WindowDecoder
  pwb     : WriteBuffer
  rp      : ReadPath
  fu      : FenceUnit
  de      : PerDev Engine
  ru      : RemapUnit
  mp      : MemoryPort
  mu      : MetadataUnit
  sc      : StateController
  mgp     : ManagementPort
  nvm     : PerDev Nvm
  indet   : Nat
  samples : Nat
deriving DecidableEq, Repr

/-- Why a command stops the machine: no command of this block does, so there is no such reason. -/
inductive Fault where
deriving DecidableEq, Repr

/-- Why a command has no meaning. -/
inductive Refusal where
  /-- Raised for a command whose meaning is not written yet; safe: nothing is claimed of it. No command of this model
  raises it. -/
  | notModelled (mnemonic : String)
deriving DecidableEq, Repr

/-! ### One update for each block -/

def State.setPending (s : State) (x : List Instr) : State := { s with pending := x }
def State.setPins (s : State) (x : Pins) : State := { s with pins := x }
def State.setHp (s : State) (x : HostPort) : State := { s with hp := x }
def State.setWd (s : State) (x : WindowDecoder) : State := { s with wd := x }
def State.setPwb (s : State) (x : WriteBuffer) : State := { s with pwb := x }
def State.setRp (s : State) (x : ReadPath) : State := { s with rp := x }
def State.setFu (s : State) (x : FenceUnit) : State := { s with fu := x }
def State.setDe (s : State) (x : PerDev Engine) : State := { s with de := x }
def State.setRu (s : State) (x : RemapUnit) : State := { s with ru := x }
def State.setMp (s : State) (x : MemoryPort) : State := { s with mp := x }
def State.setMu (s : State) (x : MetadataUnit) : State := { s with mu := x }
def State.setSc (s : State) (x : StateController) : State := { s with sc := x }
def State.setMgp (s : State) (x : ManagementPort) : State := { s with mgp := x }
def State.setNvm (s : State) (x : PerDev Nvm) : State := { s with nvm := x }
def State.setIndet (s : State) (x : Nat) : State := { s with indet := x }
def State.setSamples (s : State) (x : Nat) : State := { s with samples := x }

/-! ### Values after cold reset -/

/-- R119: no record, and no last host error. -/
def HostPort.reset : HostPort := { access := none, lastErr := none }

/-- R119, R118, R186. -/
def WindowDecoder.reset : WindowDecoder :=
  { live := Table.zero, change := 0, image := none, persist := .done, reported := none }

/-- R27. -/
def WriteBuffer.reset : WriteBuffer := { entries := [], counter := 0, waiting := none }

/-- R45. -/
def ReadPath.reset : ReadPath := { host := none, fetch := none, refill := none, lines := [] }

/-- R83. The level time is a DESIGN CHOICE (log 23). -/
def FenceUnit.reset : FenceUnit := { queue := [], wait := none, owed := 0, high := false, levelTime := 1 }

/-- R68. -/
def Engine.reset : Engine := { ctx := none, stopping := false }

/-- R103. The free-spare lists before the load are a DESIGN CHOICE (log 13). -/
def RemapUnit.reset : RemapUnit :=
  { table := [], free := ⟨[], []⟩, hold := ⟨none, none⟩, change := 0, reported := none }

/-- R124. -/
def DevRecord.reset : DevRecord :=
  { state := .absent, activity := .idle, owner := none, page := none, poll := none, resetDeadline := none,
    muProgramTime := none }

/-- R139. -/
def MemoryPort.reset : MemoryPort :=
  { devs := ⟨DevRecord.reset, DevRecord.reset⟩, probe := none, bus := none, reqs := [], starve := 0 }

/-- R154. -/
def SlotStatus.reset : SlotStatus :=
  { newestGen := 0, newestSlot := none, badA := false, badB := false, pending := false, fault := false }

/-- R154. -/
def MetadataUnit.reset : MetadataUnit :=
  { config := SlotStatus.reset, remap := SlotStatus.reset, op := none, waiting := none }

/-- R175. -/
def StateController.reset : StateController :=
  { state := .boot, step := none, pfail := false, header := none, plan := none, returnWrite := false,
    noDevice0 := false }

/-- R185. -/
def Counters.zero : Counters := ⟨0, 0, 0, 0, 0, 0, 0, 0⟩

/-- R188. `acked` and `readByte` are the model's own (log 26). -/
def ManagementPort.reset : ManagementPort :=
  { target := 0x3A, index := 0, tx := .idle, captures := [], acked := false, readByte := none, staged := Table.zero,
    code := 0, arg1 := 0, arg2 := 0, inHand := false, result := .none, faults := [], faultNumber := 0, view := none,
    remapIndex := 0, counters := Counters.zero, fenceLoss := false, overflow := false, fenceDone := false,
    commitPersisted := false, restored := false, enables := 0 }

/-- Blank memory devices (log 6). -/
def Nvm.blank : Nvm := { pages := [], running := none }

/-- The part with its supplies up and /RESET released, every block at its value after cold reset, and boot about to begin
(R175; log 3). -/
def State.reset : State :=
  { pending := []
    pins := { powered := true, reset := false, pfail := false, madr := false }
    hp := HostPort.reset
    wd := WindowDecoder.reset
    pwb := WriteBuffer.reset
    rp := ReadPath.reset
    fu := FenceUnit.reset
    de := ⟨Engine.reset, Engine.reset⟩
    ru := RemapUnit.reset
    mp := MemoryPort.reset
    mu := MetadataUnit.reset
    sc := StateController.reset
    mgp := ManagementPort.reset
    nvm := ⟨Nvm.blank, Nvm.blank⟩
    indet := 0
    samples := 0 }

end Sys2Proof.Machine
end

