-- ==== Sys2Proof/Machine/Operands.lean ====
section
/-! DEFINITION. Operand forms: comparison of numbers modulo 2^32, the address and lanes of an access, the fields of a window
record, and bytes laid over a line or a page. -/

namespace Sys2Proof.Machine

/-! ### Numbers compared modulo 2^32 (R1) -/

/-- "a at or below b" (R1). -/
def atOrBelow (a b : Word32) : Bool := decide ((b - a).toNat < 2 ^ 31)

/-- "a above b" (R1). -/
def isAbove (a b : Word32) : Bool := !atOrBelow a b

/-- The number after `c`, with 1 taken in place of 0 (R4 for sequence numbers, R146 for generations). -/
def nextNonzero (c : Word32) : Word32 := if c + 1 = 0 then 1 else c + 1

/-! ### Bytes laid over a line or a page -/

/-- `new` laid over `old`, position by position (R8, R50). -/
def overlay (old new : List (Option Byte)) : List (Option Byte) :=
  List.zipWith (fun o n => n.orElse (fun _ => o)) old new

/-- `new` laid over bytes that are all present (R90). -/
def overlayBytes (old : List Byte) (new : List (Option Byte)) : List Byte :=
  List.zipWith (fun o n => n.getD o) old new

/-- Sixteen positions, none of which holds a byte. -/
def emptyLine : List (Option Byte) := List.replicate 16 none

/-- The byte at a position, if there is one. -/
def byteAt (bytes : List (Option Byte)) (pos : Nat) : Option Byte := (bytes[pos]?).join

/-- Whether every position holds a byte: the mask is full (R14). -/
def isFull (bytes : List (Option Byte)) : Bool := bytes.all Option.isSome

/-! ### The access (R105, R107) -/

/-- Direction of an arrival: with both strobes asserted it is a read (R105). -/
def arrivalDir (hrd : Bool) : Dir := if hrd then .read else .write

/-- The byte address of an arrival (R105). It is a free value when no lane is named (log 8). -/
def arrivalAddr (ha : BitVec 22) (even odd : Bool) : BitVec 23 :=
  if even then ha.setWidth 23 <<< 1
  else if odd then (ha.setWidth 23 <<< 1) + 1
  else Config.unnamedByteAddress ha

/-- Host page of a byte address (R107). -/
def hostPage (addr : BitVec 23) : Nat := addr.toNat / 256

/-- Line of a byte address (R107). -/
def lineOf (addr : BitVec 23) : Nat := addr.toNat % 256 / 16

/-- Position in its line of the even byte of the halfword a byte address belongs to. -/
def evenPosition (addr : BitVec 23) : Nat := addr.toNat % 16 / 2 * 2

/-- The byte positions an access names (R107). -/
def lanePositions (addr : BitVec 23) (even odd : Bool) : List Nat :=
  (if even then [evenPosition addr] else []) ++ (if odd then [evenPosition addr + 1] else [])

/-- The bytes of a write at their positions in the line: the even byte travels on HD0-HD7 (R104). -/
def laneBytes (addr : BitVec 23) (even odd : Bool) (hd : Half) : List (Option Byte) :=
  let line := if even then emptyLine.set (evenPosition addr) (some (hd.setWidth 8)) else emptyLine
  if odd then line.set (evenPosition addr + 1) (some ((hd >>> 8).setWidth 8)) else line

/-- The halfword of a read: each requested byte on its lane, 0xFF on a lane that was not named (R28). `value` gives the byte
of a position. -/
def readHalf (positions : List Nat) (value : Nat → Byte) : Half :=
  let lane (odd : Bool) : Byte :=
    match positions.find? (fun p => p % 2 == (if odd then 1 else 0)) with
    | some p => value p
    | none => 0xFF
  (lane true) ++ (lane false)

/-! ### Window records (R114, R189) -/

def WindowRecord.enabled (w : WindowRecord) : Bool := w.flags.getLsbD 0

/-- The policy code, bits 2-1 of the first byte; 3 names no policy (R189). -/
def WindowRecord.policy? (w : WindowRecord) : Option Policy :=
  match w.flags.toNat / 2 % 4 with
  | 0 => some .posted
  | 1 => some .writeThrough
  | 2 => some .readOnly
  | _ => none

/-- The device of a device byte; only 0 and 1 name one (R189). -/
def devOfNat : Nat → Option Dev
  | 0 => some .d0
  | 1 => some .d1
  | _ => none

/-- The device byte (R189). -/
def devByte : Dev → Byte
  | .d0 => 0
  | .d1 => 1

def WindowRecord.device? (w : WindowRecord) : Option Dev := devOfNat w.device.toNat

/-- Whether a host page lies in the window's host range (R107). -/
def WindowRecord.covers (w : WindowRecord) (hp : Nat) : Bool :=
  decide (w.hostBase.toNat ≤ hp) && decide (hp < w.hostBase.toNat + w.size.toNat)

/-- What the decode of an access gives (R107). -/
structure Decoded where
  loc    : Loc
  policy : Policy
deriving DecidableEq, Repr

/-- The decode by one window: it matches when it is enabled and covers the host page (R107). A record whose policy or device
code names nothing matches nothing (log 30). -/
def WindowRecord.decode (w : WindowRecord) (addr : BitVec 23) : Option Decoded :=
  if w.enabled && w.covers (hostPage addr) then
    match w.policy?, w.device? with
    | some p, some d =>
      some { loc := { dev := d, page := w.memBase.toNat + (hostPage addr - w.hostBase.toNat), line := lineOf addr }
             policy := p }
    | _, _ => none
  else none

/-- The decode by the live table: at most one window matches (R107). -/
def Table.decode (t : Table) (addr : BitVec 23) : Option Decoded := t.windows.findSome? (fun w => w.decode addr)

/-! ### Parameters in force (R115) -/

def State.sealDelay (s : State) : Nat := s.wd.live.params.sealDelay.toNat
def State.highWater (s : State) : Nat := s.wd.live.params.highWater.toNat
/-- The stall limit in µs (R110). -/
def State.stallLimit (s : State) : Nat := s.wd.live.params.stallLimit.toNat * 100
def State.readAhead (s : State) : Nat := s.wd.live.params.readAhead.toNat
def State.suspendLimit (s : State) : Nat := s.wd.live.params.suspendLimit.toNat

/-! ### Views of one state that several blocks read -/

/-- Occupancy (R6). -/
def State.occupancy (s : State) : Nat := s.pwb.entries.length

/-- The device record of a device. -/
def State.dev (s : State) (d : Dev) : DevRecord := s.mp.devs.get d

/-- The program context of a device. -/
def State.ctx (s : State) (d : Dev) : Option Ctx := (s.de.get d).ctx

/-- Replace a device record. -/
def State.setDev (s : State) (d : Dev) (r : DevRecord) : State := s.setMp { s.mp with devs := s.mp.devs.set d r }

/-- Replace a program context. -/
def State.setCtx (s : State) (d : Dev) (c : Option Ctx) : State :=
  s.setDe (s.de.set d { s.de.get d with ctx := c })

/-- Whether the device takes transfers: it is ONLINE or WRITE_LOCKED (R124). -/
def DevRecord.takes (r : DevRecord) : Bool := r.state = .online || r.state = .writeLocked

/-- Whether a metadata fault of either kind holds (R148). -/
def State.metadataFault (s : State) : Bool := s.mu.config.fault || s.mu.remap.fault

end Sys2Proof.Machine
end

