-- ==== Sys2Proof/Machine/Flags.lean ====
section
/-! DEFINITION. Counters, fault records, event flags and status flags, and the levels of the output pins. -/

namespace Sys2Proof.Machine

/-! ### Counters (R185) -/

/-- A counter raised by `n`, staying at 2^32-1 once it reaches it (R185). -/
def satAdd (c : Word32) (n : Nat) : Word32 :=
  if c.toNat + n < 2 ^ 32 then c + BitVec.ofNat 32 n else BitVec.allOnes 32

/-- The counters with one of them raised. -/
def Counters.raise (c : Counters) (which : Counter) (n : Nat) : Counters :=
  match which with
  | .writesAccepted => { c with writesAccepted := satAdd c.writesAccepted n }
  | .writesMerged => { c with writesMerged := satAdd c.writesMerged n }
  | .programsCompleted => { c with programsCompleted := satAdd c.programsCompleted n }
  | .retirements => { c with retirements := satAdd c.retirements n }
  | .entriesLost => { c with entriesLost := satAdd c.entriesLost n }
  | .stallTimeouts => { c with stallTimeouts := satAdd c.stallTimeouts n }
  | .errCompletions => { c with errCompletions := satAdd c.errCompletions n }
  | .fencesCompleted => { c with fencesCompleted := satAdd c.fencesCompleted n }

/-- An increment posted to the management port (R185). -/
def State.count (s : State) (which : Counter) (n : Nat) : State :=
  s.setMgp { s.mgp with counters := s.mgp.counters.raise which n }

/-! ### The fault queue (R182) -/

/-- A fault record posted: it takes the next fault number; with 8 records queued it is dropped and FAULT_OVERFLOW is set
(R182). -/
def State.postFault (s : State) (kind : FaultKind) (dev : Option Dev) (page count : Option Nat) : State :=
  let number := s.mgp.faultNumber + 1
  if s.mgp.faults.length < Config.faultRecords then
    s.setMgp { s.mgp with
      faultNumber := number
      faults := s.mgp.faults ++ [{ kind := kind, dev := dev, page := page, count := count, number := number }] }
  else s.setMgp { s.mgp with faultNumber := number, overflow := true }

/-! ### Event flags and /INT (R187) -/

/-- FAULT_PENDING is set while the fault queue holds a record (R182). -/
def ManagementPort.faultPending (m : ManagementPort) : Bool := !m.faults.isEmpty

/-- The event flags byte (R189): bit 0 FENCE_DONE, bit 1 COMMIT_PERSISTED, bit 2 RESTORED, bit 3 FAULT_PENDING. -/
def ManagementPort.eventFlags (m : ManagementPort) : BitVec 4 :=
  BitVec.ofBool m.faultPending ++ BitVec.ofBool m.restored ++ BitVec.ofBool m.commitPersisted ++
    BitVec.ofBool m.fenceDone

/-- A byte written to the event flags: 1 clears FENCE_DONE, COMMIT_PERSISTED or RESTORED; FAULT_PENDING is ignored (R187). -/
def ManagementPort.writeEventFlags (m : ManagementPort) (b : Byte) : ManagementPort :=
  { m with
    fenceDone := m.fenceDone && !b.getLsbD 0
    commitPersisted := m.commitPersisted && !b.getLsbD 1
    restored := m.restored && !b.getLsbD 2 }

/-- /INT is driven low while a flag is set whose enable is set (R187); it is released while /RESET is asserted. -/
def State.intAsserted (s : State) : Bool :=
  s.pins.powered && !s.pins.reset && (s.mgp.eventFlags &&& s.mgp.enables) != 0

/-! ### Status flags (R186, R189) -/

def PersistStatus.code : PersistStatus → Byte
  | .done => 0
  | .pending => 1
  | .failed => 2

/-- The status flags byte (R189). -/
def State.statusByte (s : State) : Byte :=
  (if s.mu.config.fault then 1 else 0) ||| (if s.mu.remap.fault then 2 else 0) ||| (s.wd.persist.code <<< 2) |||
    (if s.mgp.fenceLoss then 16 else 0) ||| (if s.mgp.overflow then 32 else 0) ||| (if s.sc.noDevice0 then 64 else 0)

/-! ### Output pins -/

/-- /HWAIT is asserted from the arrival to the completion (R105, R106). -/
def State.hwait (s : State) : Bool :=
  match s.hp.access with
  | some a => a.phase != .complete
  | none => false

/-- /HERR is asserted in COMPLETE after an ERR completion (R106). -/
def State.herr (s : State) : Bool :=
  match s.hp.access with
  | some a => a.phase == .complete && a.err
  | none => false

/-- HD0-HD15 are driven for a read in COMPLETE (R106). -/
def State.hd (s : State) : Option Half :=
  match s.hp.access with
  | some a => if a.phase = .complete ∧ a.dir = .read then some a.rdata else none
  | none => none

/-- READY is asserted exactly while the operating state is RUN (R155). -/
def State.ready (s : State) : Bool := s.sc.state = .run

/-- PDONE (R75). -/
def State.pdone (s : State) : Bool := s.fu.high

/-- /MCS0 and /MCS1: asserted for the device of the transfer on the bus (R120). -/
def State.chipSelect (s : State) (d : Dev) : Bool :=
  match s.mp.bus with
  | some t => t.req.dev = d
  | none => false

/-- The part takes events of its pins and of its time measures: its supplies are up and /RESET is not asserted (R175, R191). -/
def State.alive (s : State) : Bool := s.pins.powered && !s.pins.reset

/-- What the part puts on MSDA (R176): nothing, an acknowledge, or a byte. -/
inductive MsdaDrive where
  | released
  | acknowledge
  | byte (b : Byte)
deriving DecidableEq, Repr

/-- What the part last put on MSDA in the transaction under way: the acknowledge of a byte it took, or the byte it drove; MSDA
is released outside a transaction and while /RESET is asserted (R176, R191). -/
def State.msda (s : State) : MsdaDrive :=
  if s.alive then
    match s.mgp.tx with
    | .idle | .ended => .released
    | .writeIndex | .writing => if s.mgp.acked then .acknowledge else .released
    | .reading =>
      match s.mgp.readByte with
      | some b => .byte b
      | none => .acknowledge
  else .released

/-- What MCK and MIO0-MIO3 do: MCK low and the data lines not driven, as R191 has them while /RESET is asserted; clocking a
transfer (R120); or standing between transfers, of which no rule gives a level. -/
inductive MemoryLines where
  | held
  | transfer (r : Request)
  | between
deriving DecidableEq, Repr

/-- MCK and MIO0-MIO3 (R120, R191). -/
def State.memoryLines (s : State) : MemoryLines :=
  if s.alive then
    match s.mp.bus with
    | some t => .transfer t.req
    | none => .between
  else .held

end Sys2Proof.Machine
end

