-- ==== Sys2Proof/Machine/Ops.lean ====
section
/-! DEFINITION. Operations shared by the blocks: completing a host access, the requests of the arbiter's queues, the entries of
the posted write buffer, and what the fence unit is told. -/

namespace Sys2Proof.Machine

/-! ### Completing a host access (R106, R113) -/

/-- The access completes: without error and with `data` on HD0-HD15, or with ERR and a cause, which is recorded and counted;
an ERR completion of a read drives 0xFFFF (R106, R113). -/
def State.complete (s : State) (err : Option Cause) (data : Half) : State :=
  match s.hp.access with
  | none => s
  | some a =>
    match err with
    | none => s.setHp { s.hp with access := some { a with phase := .complete, err := false, rdata := data } }
    | some c =>
      (s.setHp { access := some { a with phase := .complete, err := true, rdata := 0xFFFF }
                 lastErr := some { cause := c, addr := a.addr, dir := a.dir } }).count .errCompletions 1

/-- The access enters a phase in which it is held (R104). -/
def State.holdAccess (s : State) (p : AccessPhase) : State :=
  match s.hp.access with
  | none => s
  | some a => s.setHp { s.hp with access := some { a with phase := p } }

/-- The phase of an access that is held and not in COMPLETE, if there is one (R104). -/
def State.heldPhase (s : State) : Option AccessPhase :=
  match s.hp.access with
  | none => none
  | some a => if a.phase = .complete then none else some a.phase

/-! ### Requests of the arbiter's queues (R134, R135) -/

/-- Whether a request may be queued: its device is ONLINE or WRITE_LOCKED, or the transfer belongs to the probe (R134). -/
def State.mayQueue (s : State) (r : Request) : Bool :=
  r.requester = .probe || (s.dev r.dev).owner = some .probe || (s.dev r.dev).takes

/-- A request joins its queue at the newest end; one that may not be queued is handed back (R134, R135). -/
def State.join (s : State) (r : Request) : State :=
  if s.mayQueue r then s.setMp { s.mp with reqs := s.mp.reqs ++ [r] } else s

/-- The requests that satisfy `p` are withdrawn (R135). -/
def State.withdraw (s : State) (p : Request → Bool) : State :=
  s.setMp { s.mp with reqs := s.mp.reqs.filter (fun r => !p r) }

/-- Whether a request that satisfies `p` waits. -/
def State.waits (s : State) (p : Request → Bool) : Bool := s.mp.reqs.any p

/-- Whether the transfer on the bus satisfies `p`. -/
def State.onBus (s : State) (p : Request → Bool) : Bool :=
  match s.mp.bus with
  | some t => p t.req
  | none => false

/-- A requester's request for a device. -/
def isFrom (q : Requester) (d : Dev) (r : Request) : Bool := r.requester = q && r.dev = d

/-- A SUSPEND of a device. -/
def isSuspendOf (d : Dev) (r : Request) : Bool := r.cmd = .suspend && r.dev = d

/-- A status poll of a device. -/
def isPollOf (d : Dev) (r : Request) : Bool := r.cmd = .readStatus && r.dev = d

/-- A DEVICE_RESET of a device. -/
def isResetOf (d : Dev) (r : Request) : Bool := r.cmd = .deviceReset && r.dev = d

/-- A DEVICE_RESET of the device waits or is on the bus. -/
def State.resetOrdered (s : State) (d : Dev) : Bool := s.waits (isResetOf d) || s.onBus (isResetOf d)

/-! ### Sealing (R13 to R18) -/

/-- Sealing closes an OPEN entry and removes its deadline; it does nothing to a SEALED or DRAINING one (R13). -/
def Entry.seal (e : Entry) : Entry :=
  if e.state = .opened then { e with state := .sealed, deadline := none } else e

/-- Every OPEN entry that satisfies `p` is sealed. -/
def State.sealWhere (s : State) (p : Entry → Bool) : State :=
  s.setPwb { s.pwb with entries := s.pwb.entries.map (fun e => if p e then e.seal else e) }

/-- Every OPEN entry is sealed (R12, R17, R18). -/
def State.sealAll (s : State) : State := s.sealWhere (fun _ => true)

/-- The oldest OPEN entry is sealed, of any device, page or line (R16). -/
def sealOldest : List Entry → List Entry
  | [] => []
  | e :: es => if e.state = .opened then e.seal :: es else e :: sealOldest es

/-! ### Forward lookup (R20) -/

/-- The newest non-FREE entry covering the byte gives its value (R20). -/
def forward (entries : List Entry) (loc : Loc) (pos : Nat) : Option Byte :=
  entries.reverse.findSome? (fun e => if e.loc = loc then byteAt e.bytes pos else none)

/-! ### Placing a write (R7 to R12) -/

/-- An OPEN entry of the line (R7). -/
def isOpenAt (loc : Loc) (e : Entry) : Bool := e.state = .opened && e.loc = loc

/-- A merge: the written bytes join the entry, which is sealed when its mask is full (R8, R14). -/
def Entry.merge (e : Entry) (bytes : List (Option Byte)) : Entry :=
  let e' := { e with bytes := overlay e.bytes bytes }
  if isFull e'.bytes then e'.seal else e'

/-- A posted write is merged into the OPEN entry of its line and accepted (R8). -/
def State.mergeWrite (s : State) (w : PendingWrite) : State :=
  let s := s.setPwb { s.pwb with
    entries := s.pwb.entries.map (fun e => if isOpenAt w.loc e then e.merge w.bytes else e) }
  ((s.complete none 0).count .writesAccepted 1).count .writesMerged 1

/-- The entry a write takes: SEALED for a write-through write or with a seal delay of 0, OPEN with a deadline otherwise
(R9, R12). -/
def State.newEntry (s : State) (w : PendingWrite) : Entry :=
  let closed := w.wt || s.sealDelay = 0
  { loc := w.loc
    bytes := w.bytes
    seq := nextNonzero s.pwb.counter
    wt := w.wt
    state := if closed then .sealed else .opened
    deadline := if closed then none else some s.sealDelay }

/-- An allocation: the counter advances, the entry joins the age list at the newest end, and the high-water rule is applied
(R9, R16). -/
def State.allocate (s : State) (w : PendingWrite) : State :=
  let es := s.pwb.entries ++ [s.newEntry w]
  let es := if s.highWater ≤ es.length then sealOldest es else es
  s.setPwb { s.pwb with entries := es, counter := nextNonzero s.pwb.counter }

/-- An allocated write is accepted. A posted write completes (R9); for a write-through write the fence unit opens its wait
record with the new entry's seq and the access is held (R12, R78). -/
def State.allocateAndAccept (s : State) (w : PendingWrite) : State :=
  let s := (s.allocate w).count .writesAccepted 1
  if w.wt then
    (s.setFu { s.fu with wait := some { seq := s.pwb.counter, lost := false } }).holdAccess .heldWt
  else s.complete none 0

/-- A write that needs an entry takes one, or waits in the pending allocation when none is FREE (R9, R10, R12). -/
def State.takeEntry (s : State) (w : PendingWrite) : State :=
  if s.occupancy < Config.bufferEntries then s.allocateAndAccept w
  else (s.setPwb { s.pwb with waiting := some w }).holdAccess .heldBuffer

/-- A write reaches the buffer (R7, R12). -/
def State.placeWrite (s : State) (w : PendingWrite) : State :=
  if w.wt then s.sealAll.takeEntry w
  else if s.pwb.entries.any (isOpenAt w.loc) then s.mergeWrite w
  else s.takeEntry w

/-- The pending allocation is withdrawn and its write discarded (R10). -/
def State.dropPending (s : State) : State := s.setPwb { s.pwb with waiting := none }

/-! ### Freeing and LOST declarations (R22, R23, R74) -/

/-- The entries that satisfy `p` become FREE (R22). -/
def State.freeWhere (s : State) (p : Entry → Bool) : State :=
  s.setPwb { s.pwb with entries := s.pwb.entries.filter (fun e => !p e) }

/-- Whether one of the seqs is at or below a marker (R74). -/
def anyAtOrBelow (seqs : List Word32) (m : Word32) : Bool := seqs.any (fun q => atOrBelow q m)

/-- The fence unit sets the lost flag of every marker, and of the wait record, at or above a declared seq (R74, R79). -/
def FenceUnit.markLost (f : FenceUnit) (seqs : List Word32) : FenceUnit :=
  { f with
    queue := f.queue.map (fun m => if anyAtOrBelow seqs m.marker then { m with lost := true } else m)
    wait := f.wait.map (fun w => if anyAtOrBelow seqs w.seq then { w with lost := true } else w) }

/-- The entries that satisfy `p` are declared LOST: they become FREE, entries_lost counts them, and the fence unit is handed
their seqs (R23, R74). -/
def State.declareLost (s : State) (p : Entry → Bool) : State :=
  let lost := s.pwb.entries.filter p
  let s := (s.freeWhere p).count .entriesLost lost.length
  s.setFu (s.fu.markLost (lost.map Entry.seq))

/-- Membership in a program context's entry set (R46). -/
def inSet (d : Dev) (seqs : List Word32) (e : Entry) : Bool :=
  e.loc.dev = d && e.state = .draining && seqs.contains e.seq

/-- An entry of a device. -/
def isOfDev (d : Dev) (e : Entry) : Bool := e.loc.dev = d

/-! ### Fence arrival and completion (R71 to R73, R75, R76) -/

/-- No non-FREE entry at or below the marker remains: the age list is empty or its oldest entry has a seq above it (R73). -/
def noneAtOrBelow (entries : List Entry) (m : Word32) : Bool :=
  match entries with
  | [] => true
  | e :: _ => isAbove e.seq m

/-- PDONE owes one pulse more, up to 255; it begins at once when PDONE has been low for 1 µs (R75). -/
def FenceUnit.owePulse (f : FenceUnit) : FenceUnit :=
  let f := { f with owed := min (f.owed + 1) Config.saturation }
  if !f.high && 1 ≤ f.levelTime then { f with high := true, levelTime := 0 } else f

/-- A marker completes: a pulse is owed, fences_completed grows by its weight, FENCE_DONE is flagged, and FENCE_LOSS is set
for a lost flag (R73, R76). -/
def State.markerDone (s : State) (m : Marker) : State :=
  let s := (s.setFu s.fu.owePulse).count .fencesCompleted m.weight
  s.setMgp { s.mgp with fenceDone := true, fenceLoss := s.mgp.fenceLoss || m.lost }

/-- The newest record takes a merged fence: the marker value is raised and the weight grows, staying at 255 (R72). -/
def mergeNewest (value : Word32) : List Marker → List Marker
  | [] => []
  | [m] => [{ m with marker := value, weight := min (m.weight + 1) Config.saturation }]
  | m :: ms => m :: mergeNewest value ms

/-- Whether a fence arriving now completes at its arrival: the first case of R71. -/
def State.fenceDoneAtOnce (s : State) : Bool := noneAtOrBelow s.pwb.entries s.pwb.counter

/-- A fence arrival (R71): every OPEN entry is sealed, and the fence completes at once, is appended, or is merged (R72). Its lost
flag is clear, or that of the record it is merged into, as R71, R72 and R74 have it, even where a write-through wait has lost
an entry already, though R82 says that the two flags agree: DESIGN CHOICE (log 44). -/
def State.fenceArrival (s : State) : State :=
  let value := s.pwb.counter
  let now := s.fenceDoneAtOnce
  let s := s.sealAll
  if now then s.markerDone { marker := value, weight := 1, lost := false }
  else if s.fu.queue.length < Config.fenceRecords then
    s.setFu { s.fu with queue := s.fu.queue ++ [{ marker := value, weight := 1, lost := false }] }
  else s.setFu { s.fu with queue := mergeNewest value s.fu.queue }

/-! ### Asking for persists (R87, R118, R145) -/

/-- The remap table has changed: the change number rises by one and a persist of the remap record is asked for (R87, R145). -/
def State.remapChanged (s : State) : State :=
  (s.setRu { s.ru with change := s.ru.change + 1 }).setMu
    { s.mu with remap := { s.mu.remap with pending := true } }

end Sys2Proof.Machine
end

