-- ==== Sys2Proof/Machine/ReadPath.lean ====
section
/-! DEFINITION. The read path: host reads, the read-ahead buffer, background refill, invalidation, and the suspends that reads
ask for. -/

namespace Sys2Proof.Machine

/-! ### The read-ahead buffer (R31, R39, R41) -/

/-- The record of a line, if it is held (R32). -/
def findLine (lines : List LineRecord) (loc : Loc) : Option LineRecord := lines.find? (fun r => r.loc = loc)

/-- The fill of one line: it replaces a record of the same line, or the oldest-filled record of a full buffer, and becomes
the newest-filled (R39). -/
def fillLine (lines : List LineRecord) (r : LineRecord) : List LineRecord :=
  let others := lines.filter (fun x => x.loc ≠ r.loc)
  if others.length < Config.readAheadRecords then others ++ [r] else others.tail ++ [r]

/-- The returned lines are filled in increasing line order (R39). -/
def fillLines (lines : List LineRecord) (dev : Dev) (home : Nat) (line : Nat) : List (List Byte) → List LineRecord
  | [] => lines
  | b :: bs => fillLines (fillLine lines { loc := ⟨dev, home, line⟩, bytes := b }) dev home (line + 1) bs

/-- An ungranted refill is withdrawn when its line satisfies `p` (R40). -/
def State.dropRefill (s : State) (p : Loc → Bool) : State :=
  match s.rp.refill with
  | none => s
  | some l => if p l then (s.setRp { s.rp with refill := none }).withdraw (fun r => r.requester = .refill) else s

/-- An invalidation: every record of the device and home page is removed and an ungranted refill of it is withdrawn (R41). -/
def State.invalidate (s : State) (d : Dev) (page : Nat) : State :=
  let here (l : Loc) : Bool := l.dev = d && l.page = page
  (s.setRp { s.rp with lines := s.rp.lines.filter (fun r => !here r.loc) }).dropRefill here

/-! ### Suspends (R36, R56 to R58) -/

/-- Whether a read, or an unfinished fetch, stands in a phase on a device. -/
def State.readIn (s : State) (d : Dev) (p : ReadPhase) : Bool :=
  (match s.rp.host with
   | some r => r.loc.dev = d && r.phase = p
   | none => false) ||
  (match s.rp.fetch with
   | some f => f.loc.dev = d && f.phase = p
   | none => false)

/-- Reads and fetches of a device that stand in phase `p` go to phase `q`: the drain engine's answer (R36). -/
def State.answerReads (s : State) (d : Dev) (p q : ReadPhase) : State :=
  s.setRp { s.rp with
    host := s.rp.host.map (fun r => if r.loc.dev = d ∧ r.phase = p then { r with phase := q } else r)
    fetch := s.rp.fetch.map (fun f => if f.loc.dev = d ∧ f.phase = p then { f with phase := q } else f) }

/-- A program has started on the device: reads may ask for a suspend of it (R36). -/
def State.forgetAsked (s : State) (d : Dev) : State :=
  s.setRp { s.rp with
    host := s.rp.host.map (fun r => if r.loc.dev = d then { r with asked := false } else r)
    fetch := s.rp.fetch.map (fun f => if f.loc.dev = d then { f with asked := false } else f) }

/-- The requester of a suspension is withdrawn: a SUSPEND not yet granted is withdrawn with it, with the count spent (R57); a
held suspension ends by RESUME (R58). A SUSPEND already sent meets the loss of its requester at the acknowledgement (R57). -/
def State.requesterGone (s : State) (d : Dev) : State :=
  match s.ctx d with
  | none => s
  | some c =>
    match c.phase, c.suspendStep with
    | .suspended, some .asked =>
      if s.waits (isSuspendOf d) then
        (s.withdraw (isSuspendOf d)).setCtx d (some { c with phase := .programming, suspendStep := none })
      else s
    | .suspended, some .held =>
      (s.setCtx d (some { c with suspendStep := some .resuming })).join ⟨.engine, d, .resume⟩
    | _, _ => s

/-- Whether a suspend may be asked of the drain engine for a read of the location: its device programs, for the engine, a
batch of another home page (R36). -/
def State.suspendable (s : State) (loc : Loc) : Option Ctx :=
  match s.ctx loc.dev with
  | none => none
  | some c =>
    if (s.dev loc.dev).activity = .programming ∧ (s.dev loc.dev).owner = some .engine ∧ c.phase = .programming ∧
        c.started = true ∧ c.home ≠ loc.page then some c
    else none

/-- The engine's decision: below the suspend limit it accepts, counts the suspend, and requests SUSPEND (R56). -/
def State.acceptSuspend (s : State) (d : Dev) (c : Ctx) : State :=
  (s.setCtx d (some { c with
    phase := .suspended, suspendStep := some .asked, suspendsUsed := c.suspendsUsed + 1, ackTime := none })).join ⟨.engine, d, .suspend⟩

/-- A queued host read asks for a suspend, once for each program (R36); the engine accepts or declines (R56). -/
def State.hostAsks (s : State) : Option State :=
  match s.rp.host with
  | none => none
  | some r =>
    if r.phase = .queued ∧ r.asked = false then
      match s.suspendable r.loc with
      | none => none
      | some c =>
        if c.suspendsUsed < s.suspendLimit then
          some ((s.setRp { s.rp with host := some { r with phase := .suspendAsked, asked := true } }).acceptSuspend
            r.loc.dev c)
        else some (s.setRp { s.rp with host := some { r with asked := true } })
    else none

/-- An unfinished fetch asks as the host read it was would have (R44). -/
def State.fetchAsks (s : State) : Option State :=
  match s.rp.fetch with
  | none => none
  | some f =>
    if f.phase = .queued ∧ f.asked = false then
      match s.suspendable f.loc with
      | none => none
      | some c =>
        if c.suspendsUsed < s.suspendLimit then
          some ((s.setRp { s.rp with fetch := some { f with phase := .suspendAsked, asked := true } }).acceptSuspend
            f.loc.dev c)
        else some (s.setRp { s.rp with fetch := some { f with asked := true } })
    else none

/-! ### Reads that end early (R42 to R45) -/

/-- After a read or fetch in phase `p` on a device has been withdrawn, a suspend made for it is ended (R43). -/
def State.endSuspendOf (s : State) (d : Dev) (p : ReadPhase) : State :=
  if p = .suspendAsked ∨ p = .suspendHeld then s.requesterGone d else s

/-- The host read record is closed. A request not yet granted is withdrawn, with its suspend; a granted transfer runs on and
its data is dropped (R43, R45). -/
def State.closeHostRead (s : State) : State :=
  match s.rp.host with
  | none => s
  | some r =>
    let s := s.setRp { s.rp with host := none }
    if r.phase = .transfer then s
    else (s.withdraw (fun q => q.requester = .hostRead)).endSuspendOf r.loc.dev r.phase

/-- An unfinished fetch not yet granted is withdrawn, with its suspend (R44). -/
def State.closeFetch (s : State) : State :=
  match s.rp.fetch with
  | none => s
  | some f =>
    ((s.setRp { s.rp with fetch := none }).withdraw (fun q => q.requester = .fetch)).endSuspendOf f.loc.dev f.phase

/-- An abandoned read leaves its request as an unfinished fetch, in its place in the queue; a granted one runs on by itself
(R44). -/
def State.abandonRead (s : State) : State :=
  match s.rp.host with
  | none => s
  | some r =>
    if r.phase = .transfer then s.setRp { s.rp with host := none }
    else
      (s.setRp { s.rp with
        host := none, fetch := some { loc := r.loc, phase := r.phase, ahead := r.ahead, asked := r.asked } }).setMp
        { s.mp with reqs := s.mp.reqs.map (fun q => if q.requester = .hostRead then { q with requester := .fetch } else q) }

/-- On leaving RUN every request not yet granted is withdrawn (R45). -/
def State.leaveRunReads (s : State) : State := (s.closeHostRead.closeFetch).dropRefill (fun _ => true)

/-- A device has gone OFFLINE: its read-ahead records go, its ungranted refill and fetch are withdrawn, and a waiting read of
it completes with DEVICE_UNAVAILABLE (R42). -/
def State.readsOffline (s : State) (d : Dev) : State :=
  let s := (s.setRp { s.rp with lines := s.rp.lines.filter (fun r => r.loc.dev ≠ d) }).dropRefill (fun l => l.dev = d)
  let s :=
    match s.rp.fetch with
    | some f => if f.loc.dev = d then s.closeFetch else s
    | none => s
  match s.rp.host with
  | some r =>
    if r.loc.dev = d ∧ r.phase ≠ .transfer then s.closeHostRead.complete (some .deviceUnavailable) 0 else s
  | none => s

/-! ### The arrival of a host read (R28 to R33, R40) -/

/-- Whether a home page is in the failed-page list (R88). -/
def RemapUnit.isFailed (u : RemapUnit) (d : Dev) (page : Nat) : Bool := u.table.contains (.failed d page)

/-- The page that holds the data of a home page: its spare, or itself (R88). -/
def RemapUnit.physical (u : RemapUnit) (d : Dev) (page : Nat) : Nat :=
  match u.table.findSome? (fun e =>
    match e with
    | .remap d' home spare => if d' = d ∧ home = page then some spare else none
    | _ => none) with
  | some spare => spare
  | none => page

/-- The value of a requested byte: the newest entry covering it, or else the byte given (R32, R38). -/
def State.byteOr (s : State) (loc : Loc) (other : Nat → Byte) (pos : Nat) : Byte :=
  (forward s.pwb.entries loc pos).getD (other pos)

/-- After a read-ahead hit a refill of the next line is requested, if the depth, the line, the buffer and the device allow it
and no granted refill is on the bus (R40). -/
def State.considerRefill (s : State) (loc : Loc) : State :=
  let next : Loc := { loc with line := loc.line + 1 }
  if 1 ≤ s.readAhead ∧ loc.line < 15 ∧ findLine s.rp.lines next = none ∧ (s.dev loc.dev).activity = .idle ∧
      s.onBus (fun r => r.requester = .refill) = false then
    let s := s.dropRefill (fun _ => true)
    (s.setRp { s.rp with refill := some next }).join ⟨.refill, loc.dev, .read loc.page next.line 1⟩
  else s

/-- On a miss a memory read is requested in the host-read class; an ungranted refill and an ungranted unfinished fetch are
withdrawn (R33). -/
def State.requestFetch (s : State) (loc : Loc) (positions : List Nat) : State :=
  let s := (s.dropRefill (fun _ => true)).closeFetch
  let ahead := min s.readAhead (15 - loc.line)
  ((s.setRp { s.rp with
    host := some { loc := loc, positions := positions, phase := .queued, ahead := ahead, asked := false } }).join
    ⟨.hostRead, loc.dev, .read loc.page loc.line (ahead + 1)⟩).holdAccess .heldRead

/-- A decoded read reaches the read path: the failed-page list, the buffer and the read-ahead buffer are examined in that
order, and a memory fetch is requested when none settles it (R28). -/
def State.readArrives (s : State) (loc : Loc) (positions : List Nat) : State :=
  if s.ru.isFailed loc.dev loc.page then s.complete (some .failedPage) 0
  else if positions.all (fun p => (forward s.pwb.entries loc p).isSome) then
    s.complete none (readHalf positions (s.byteOr loc (fun _ => 0)))
  else
    match findLine s.rp.lines loc with
    | some r =>
      (s.complete none (readHalf positions (s.byteOr loc (fun p => (r.bytes[p]?).getD 0)))).considerRefill loc
    | none => s.requestFetch loc positions

/-- The transfer of a host read has returned: the read completes with a fresh lookup laid over the memory bytes (R38), unless
its record is gone (R43, R44, R45). -/
def State.deliverRead (s : State) (bytes : List Byte) : State :=
  match s.rp.host with
  | some r =>
    if r.phase = .transfer then
      let s := s.setRp { s.rp with host := none }
      s.complete none (readHalf r.positions (s.byteOr r.loc (fun p => (bytes[p]?).getD 0)))
    else s
  | none => s

end Sys2Proof.Machine
end

