-- ==== Sys2Proof/Machine/Remap.lean ====
section
/-! DEFINITION. The remap unit: spare pools, the remap table and its changes. -/

namespace Sys2Proof.Machine

/-- A user page of a device (R99). -/
def isUserPage (d : Dev) (p : Nat) : Bool := p < Config.userPages d

/-- A page of the device's spare pool (R84). -/
def isSparePage (d : Dev) (p : Nat) : Bool :=
  Config.userPages d ≤ p && p < Config.userPages d + Config.sparePages

/-- The spare of the device that an entry names, if it names one (R86). -/
def RemapEntry.spareOf (d : Dev) : RemapEntry → Option Nat
  | .remap d' _ s => if d' = d then some s else none
  | .failed _ _ => none
  | .retiredSpare d' s => if d' = d then some s else none

/-- The number of FAILED entries of both devices (R86). -/
def failedCount (table : List RemapEntry) : Nat :=
  table.countP (fun e => match e with
    | .failed _ _ => true
    | _ => false)

/-- The free-spare list built at the load: the pool less every spare the table names, in ascending order (R103). -/
def buildFree (table : List RemapEntry) (d : Dev) : List Nat :=
  (List.range' (Config.userPages d) Config.sparePages).filter (fun p => !(table.filterMap (RemapEntry.spareOf d)).contains p)

/-- The spare a REMAP entry names for the home page, if there is one (R88). -/
def remapTarget (table : List RemapEntry) (d : Dev) (home : Nat) : Option Nat :=
  table.findSome? (fun e => match e with
    | .remap d' h s => if d' = d ∧ h = home then some s else none
    | _ => none)

/-- The table with the home page's REMAP entry replaced by `e` in its place (R86). -/
def replaceRemap (table : List RemapEntry) (d : Dev) (home : Nat) (e : RemapEntry) : List RemapEntry :=
  table.map (fun x => match x with
    | .remap d' h _ => if d' = d ∧ h = home then e else x
    | _ => x)

/-- The table after `e` has taken the home page's place: a REMAP entry naming spare S is replaced in its position and a
RETIRED_SPARE entry for S is appended; with no REMAP entry `e` is appended (R93, R95). -/
def settlePage (table : List RemapEntry) (d : Dev) (home : Nat) (e : RemapEntry) : List RemapEntry :=
  match remapTarget table d home with
  | some old => replaceRemap table d home e ++ [.retiredSpare d old]
  | none => table ++ [e]

/-- A candidate spare passes: it becomes the target of the home page's REMAP entry and leaves the hold (R93). -/
def State.remapTo (s : State) (d : Dev) (home spare : Nat) : State :=
  (s.setRu { s.ru with
    table := settlePage s.ru.table d home (.remap d home spare), hold := s.ru.hold.set d none }).remapChanged

/-- A candidate spare fails: it leaves the hold for a new RETIRED_SPARE entry (R92). -/
def State.retireCandidate (s : State) (d : Dev) (spare : Nat) : State :=
  (s.setRu { s.ru with
    table := s.ru.table ++ [.retiredSpare d spare], hold := s.ru.hold.set d none }).remapChanged

/-- An unremappable page is recorded as FAILED (R95). `changed` says that the table has already been changed in this event:
several changes of one event raise the change number once (R87). -/
def State.markFailed (s : State) (d : Dev) (home : Nat) (changed : Bool) : State :=
  let s := s.setRu { s.ru with table := settlePage s.ru.table d home (.failed d home) }
  if changed then s else s.remapChanged

/-- The lowest free spare of the device moves into the candidate hold; SPARES_LOW is queued when that leaves 4 (R84, R91). -/
def State.takeSpare (s : State) (d : Dev) : Option (Nat × State) :=
  match s.ru.free.get d with
  | [] => none
  | p :: rest =>
    let s := s.setRu { s.ru with free := s.ru.free.set d rest, hold := s.ru.hold.set d (some p) }
    some (p, if rest.length = Config.sparesLow then s.postFault .sparesLow (some d) none (some Config.sparesLow) else s)

end Sys2Proof.Machine
end

