-- ==== Sys2Proof/Machine/Engine.lean ====
section
/-! DEFINITION. The drain engines: gathering, batches, retirement, completion of programs, resets, stopping and resumption. -/

namespace Sys2Proof.Machine

/-! ### Gathering and batches (R21, R48 to R51, R63) -/

/-- The oldest SEALED entry of a device (R21). -/
def oldestSealed (entries : List Entry) (d : Dev) : Option Entry :=
  entries.find? (fun e => e.loc.dev = d && e.state = .sealed)

/-- An entry that a gather of the page takes: OPEN or SEALED, of the device and page (R21). -/
def isGathered (d : Dev) (page : Nat) (e : Entry) : Bool :=
  e.loc.dev = d && e.loc.page = page && e.state != .draining

/-- The gather of a page: its OPEN and SEALED entries become DRAINING (R21). -/
def State.gatherPage (s : State) (d : Dev) (page : Nat) : State :=
  s.setPwb { s.pwb with
    entries := s.pwb.entries.map (fun e =>
      if isGathered d page e then { e with state := .draining, deadline := none } else e) }

/-- The entry set a gather of the page returns, in age order (R21). -/
def gatheredSet (entries : List Entry) (d : Dev) (page : Nat) : List Entry := entries.filter (isGathered d page)

/-- The bytes of one line that the entries of a set cover, the newest entry winning at each byte (R50). -/
def lineBatch (set : List Entry) (line : Nat) : List (Option Byte) :=
  (set.filter (fun e => e.loc.line = line)).foldl (fun acc e => overlay acc e.bytes) emptyLine

/-- The batch: 256 positions, 16 times the line plus the byte-in-line (R50). -/
def formBatch (set : List Entry) : List (Option Byte) := (List.range 16).flatMap (lineBatch set)

/-- A new context for the gathered entries (R49, R63). -/
def newCtx (home phys : Nat) (kind : CtxKind) (phase : CtxPhase) (set : List Entry) : Ctx :=
  { home := home, phys := phys, kind := kind, phase := phase, entrySet := set.map Entry.seq, batch := formBatch set,
    started := false, suspendStep := none, suspendsUsed := 0, suspendSent := false, ackTime := none, programTime := 0,
    attempts := 0, candidate := none, image := none, awaited := none, before := none }

/-- A drain gather is presented when the engine is IDLE, its device is ONLINE or WRITE_LOCKED and idle, the operating state
is RUN, REPLAY or RESTARTING, and a SEALED entry of the device exists; this is that entry (R48). -/
def State.gatherable (s : State) (d : Dev) : Option Entry :=
  if s.ctx d = none ∧ (s.dev d).takes = true ∧ (s.dev d).activity = .idle ∧
      (s.sc.state = .run ∨ s.sc.state = .replay ∨ s.sc.state = .restarting) then
    oldestSealed s.pwb.entries d
  else none

/-- The drain gather: a FAILED page's entries are declared LOST with RETIRE_FAIL; otherwise a DRAIN context is created and its
program requested (R49, R51). -/
def State.gather (s : State) (d : Dev) : Option State :=
  match s.gatherable d with
  | none => none
  | some e =>
    let page := e.loc.page
    let set := gatheredSet s.pwb.entries d page
    let s := s.gatherPage d page
    if s.ru.isFailed d page then
      some ((s.declareLost (inSet d (set.map Entry.seq))).postFault .retireFail (some d) (some page) (some set.length))
    else
      let c := newCtx page (s.ru.physical d page) .drain .programming set
      some ((s.setCtx d (some c)).join ⟨.engine, d, .programMasked c.phys c.batch⟩)

/-! ### Ends of a context (R53, R64, R94, R96, R97) -/

/-- The entries of the context are declared LOST with one fault record that counts them, and the context ends (R96, R97). -/
def State.loseContext (s : State) (d : Dev) (c : Ctx) (kind : FaultKind) : State :=
  let n := s.pwb.entries.countP (inSet d c.entrySet)
  ((s.declareLost (inSet d c.entrySet)).postFault kind (some d) (some c.home) (some n)).setCtx d none

/-- Persist done: a FAILED page's entries are declared LOST (R96); otherwise they are freed, programs_completed counts the
program, and a retirement on request queues its record (R94, R102). -/
def State.endByPersist (s : State) (d : Dev) (c : Ctx) : State :=
  if s.ru.isFailed d c.home then s.loseContext d c .retireFail
  else
    let s := ((s.freeWhere (inSet d c.entrySet)).count .programsCompleted 1).setCtx d none
    match c.kind with
    | .drain => s
    | .retireRequest =>
      s.postFault .retiredOnRequest (some d) (some c.home) (some (s.ru.physical d c.home))

/-- A batch program passes: invalidate, free, count, end (R53). The fence unit and a pending allocation take their part in
the same event. -/
def State.batchPasses (s : State) (d : Dev) (c : Ctx) : State :=
  (((s.invalidate d c.home).freeWhere (inSet d c.entrySet)).count .programsCompleted 1).setCtx d none

/-! ### The retirement flow (R65, R89 to R97) -/

/-- The flow requests a memory operation for the context; a stopped engine records the phase instead and enters STOPPED
(R65). -/
def State.memoryStep (s : State) (d : Dev) (c : Ctx) (cmd : Cmd) : State :=
  if (s.de.get d).stopping then s.setCtx d (some { c with phase := .stopped, before := some c.phase })
  else (s.setCtx d (some c)).join ⟨.engine, d, cmd⟩

/-- The context enters AWAIT_PERSIST, or stops there (R65, R93, R96). A FAILED page whose persist will not be attempted has
its entries declared LOST at once (R96). -/
def State.enterAwait (s : State) (d : Dev) (c : Ctx) : State :=
  let c := { c with phase := .awaitPersist, awaited := some s.ru.change, candidate := none, image := none }
  if s.ru.isFailed d c.home && s.mu.remap.fault then s.loseContext d c .retireFail
  else if (s.de.get d).stopping then s.setCtx d (some { c with phase := .stopped, before := some .awaitPersist })
  else s.setCtx d (some c)

/-- An unremappable page: recorded FAILED while the failed-page list has room (R95, R96); otherwise the entries are declared
LOST and the device becomes WRITE_LOCKED (R97, R132). `changed` as for `markFailed`. -/
def State.unremappable (s : State) (d : Dev) (c : Ctx) (changed : Bool) : State :=
  if failedCount s.ru.table < Config.failedLimit then
    ((s.markFailed d c.home changed).invalidate d c.home).enterAwait d c
  else
    let s := s.loseContext d c .deviceWriteLocked
    s.setDev d { s.dev d with state := .writeLocked }

/-- The flow enters RETIRE_PROGRAM: a context with no candidate takes a spare, and the merged image is programmed into it
(R90, R91). -/
def State.retireProgram (s : State) (d : Dev) (c : Ctx) (image : List Byte) : State :=
  match c.candidate with
  | some p =>
    s.memoryStep d { c with phase := .retireProgram, programTime := 0 } (.programPage p (overlayBytes image c.batch))
  | none =>
    match s.takeSpare d with
    | some (p, s') =>
      s'.memoryStep d { c with phase := .retireProgram, candidate := some p, programTime := 0 }
        (.programPage p (overlayBytes image c.batch))
    | none => s.unremappable d c false

/-- The flow enters or returns to RETIRE_READ: the page is unremappable with no free spare or after three attempts;
otherwise the old page is read, or, when its image is held, the next spare is programmed (R89). -/
def State.retireRead (s : State) (d : Dev) (c : Ctx) (changed : Bool) : State :=
  if s.ru.free.get d = [] ∨ Config.spareAttempts ≤ c.attempts then s.unremappable d c changed
  else
    match c.image with
    | none => s.memoryStep d { c with phase := .retireRead } (.read c.phys 0 16)
    | some image => s.retireProgram d c image

/-- A batch program has failed, or has been reset after its timeout: the context enters RETIRE_READ with no attempts made
and no image (R54, R61). -/
def State.batchFails (s : State) (d : Dev) (c : Ctx) : State :=
  s.retireRead d { c with phase := .retireRead, started := false, suspendStep := none, ackTime := none, attempts := 0,
                          image := none } false

/-- The program of a candidate spare has failed, or has been reset after its timeout (R92). -/
def State.spareFails (s : State) (d : Dev) (c : Ctx) (spare : Nat) : State :=
  ((s.invalidate d c.home).retireCandidate d spare).retireRead d
    { c with candidate := none, attempts := c.attempts + 1 } true

/-- The program of a candidate spare has passed: the table names it for the home page, the page is invalidated, and the
context awaits the persist (R93). -/
def State.sparePasses (s : State) (d : Dev) (c : Ctx) (spare : Nat) : State :=
  let s := ((s.invalidate d c.home).remapTo d c.home spare).count .retirements 1
  let s :=
    match c.kind with
    | .drain => s.postFault .programFail (some d) (some c.home) (some spare)
    | .retireRequest => s
  s.enterAwait d c

/-! ### Programs running for the engine (R51 to R61) -/

/-- A suspend that stands in ASKED is given up: an ungranted SUSPEND is withdrawn and the requester is answered GIVEN_UP
(R57). -/
def State.giveUpSuspend (s : State) (d : Dev) (c : Ctx) : State :=
  if c.phase = .suspended ∧ c.suspendStep = some .asked then
    (s.withdraw (isSuspendOf d)).answerReads d .suspendAsked .queued
  else s

/-- The transfer of the engine's program has ended: the program runs, and program time starts at 0 (R51, R55, R91). For a batch
program, suspends used starts at 0 too (R51). For a spare's program it stays as the batch program left it: DESIGN CHOICE (log 45),
since R46 counts the suspends of the current program, R51 sets 0 for a batch program, and R91 says nothing. -/
def State.programStarts (s : State) (d : Dev) : State :=
  match s.ctx d with
  | none => s
  | some c =>
    let c := { c with programTime := 0, suspendSent := false, ackTime := none }
    if c.phase = .programming then s.setCtx d (some { c with started := true, suspendsUsed := 0 })
    else s.setCtx d (some c)

/-- The program running for the engine is completed, with pass or fail (R52 to R54, R92, R93). In RESETTING the reset that
was ordered decides (R52). -/
def State.programCompletes (s : State) (d : Dev) (pass : Bool) : State :=
  match s.ctx d with
  | none => s
  | some c =>
    match c.phase with
    | .programming | .suspended =>
      let s := s.giveUpSuspend d c
      if pass then s.batchPasses d c else (s.invalidate d c.home).batchFails d c
    | .retireProgram =>
      match c.candidate with
      | some p => if pass then s.sparePasses d c p else s.spareFails d c p
      | none => s
    | _ => s

/-- The device reports the suspended status for the engine's program (R57, R58, R131). In ASKED with no SUSPEND sent for the
program the memory port asks for RESUME, no read is granted, and the step stays ASKED with its SUSPEND waiting (R131; log 20).
In ASKED with one sent before and the newest still waiting for its grant, the result is taken as the acknowledgement, and the
waiting SUSPEND is withdrawn: DESIGN CHOICE (log 20), since neither R57 nor R131 says what becomes of it. -/
def State.deviceSuspends (s : State) (d : Dev) : State :=
  match s.ctx d with
  | none => s
  | some c =>
    match c.phase, c.suspendStep with
    | .suspended, some .asked =>
      if c.suspendSent then
        let s := s.withdraw (isSuspendOf d)
        if s.readIn d .suspendAsked then
          (s.setCtx d (some { c with suspendStep := some .held, ackTime := none })).answerReads d .suspendAsked .suspendHeld
        else
          (s.setCtx d (some { c with suspendStep := some .resuming, ackTime := none })).join ⟨.engine, d, .resume⟩
      else s.join ⟨.port, d, .resume⟩
    | .programming, _ =>
      if c.suspendSent then
        (s.setCtx d (some { c with phase := .suspended, suspendStep := some .resuming, ackTime := none })).join
          ⟨.engine, d, .resume⟩
      else s.join ⟨.port, d, .resume⟩
    | .retireProgram, _ => s.join ⟨.port, d, .resume⟩
    | _, _ => s

/-- The transfer of a SUSPEND has ended: the acknowledgement limit runs (R57). -/
def State.suspendSent (s : State) (d : Dev) : State :=
  match s.ctx d with
  | none => s
  | some c =>
    if c.phase = .suspended ∧ c.suspendStep = some .asked then
      s.setCtx d (some { c with suspendSent := true, ackTime := some 0 })
    else s.setCtx d (some { c with suspendSent := true })

/-- The transfer of a RESUME has ended: the phase returns to PROGRAMMING (R58). A suspend that is still asked for stays asked
for after the RESUME of R131. -/
def State.engineResumed (s : State) (d : Dev) : State :=
  match s.ctx d with
  | none => s
  | some c =>
    if c.phase = .suspended ∧ c.suspendStep ≠ some .asked then
      s.setCtx d (some { c with phase := .programming, suspendStep := none })
    else s

/-- A read made under a suspension has ended: RESUME is requested (R58). -/
def State.readUnderSuspendEnds (s : State) (d : Dev) : State :=
  match s.ctx d with
  | none => s
  | some c =>
    if c.phase = .suspended ∧ c.suspendStep = some .held then
      (s.setCtx d (some { c with suspendStep := some .resuming })).join ⟨.engine, d, .resume⟩
    else s

/-- The device reset that the engine ordered has completed: the timed-out program counts as failed (R61). -/
def State.engineResetDone (s : State) (d : Dev) : State :=
  match s.ctx d with
  | none => s
  | some c =>
    if c.phase = .resetting then
      match c.candidate with
      | some p => s.spareFails d c p
      | none => s.batchFails d c
    else s

/-- The acknowledgement limit expires: the suspend is given up with its count spent (R57). -/
def State.ackExpires (s : State) (d : Dev) : State :=
  match s.ctx d with
  | none => s
  | some c =>
    if c.phase = .suspended ∧ c.suspendStep = some .asked ∧ c.ackTime.isSome = true then
      (s.setCtx d (some { c with phase := .programming, suspendStep := none, ackTime := none })).answerReads d
        .suspendAsked .queued
    else s

/-- Whether program time is measured for the context and can expire: PROGRAMMING, SUSPENDED with step ASKED, or
RETIRE_PROGRAM, with the device programming for the engine (R55, R60). -/
def State.programTimed (s : State) (d : Dev) : Bool :=
  (s.dev d).activity = .programming && (s.dev d).owner = some .engine &&
  (match s.ctx d with
   | none => false
   | some c => c.phase = .programming || (c.phase = .suspended && c.suspendStep = some .asked) ||
       c.phase = .retireProgram)

/-- The program time limit expires: the suspend is given up, the page invalidated, PROGRAM_TIMEOUT queued and DEVICE_RESET
requested (R60). -/
def State.programExpires (s : State) (d : Dev) : State :=
  match s.ctx d with
  | none => s
  | some c =>
    if s.programTimed d then
      let s := ((s.giveUpSuspend d c).invalidate d c.home).postFault .programTimeout (some d) (some c.home) none
      (s.setCtx d (some { c with
        phase := .resetting, started := false, suspendStep := none, ackTime := none,
        programTime := Config.programLimit })).join ⟨.engine, d, .deviceReset⟩
    else s

/-! ### Stopping and resumption (R65 to R67) -/

/-- The engine has a memory operation requested that has not been granted. -/
def State.engineWaits (s : State) (d : Dev) : Bool := s.waits (isFrom .engine d)

/-- The engine is told to stop (R65): an ungranted program or retirement request is withdrawn and the context is STOPPED, as
is one in AWAIT_PERSIST; every other operation in hand runs to its outcome. -/
def State.stopEngine (s : State) (d : Dev) : State :=
  let s := s.setDe (s.de.set d { s.de.get d with stopping := true })
  match s.ctx d with
  | none => s
  | some c =>
    let stopHere : State := s.setCtx d (some { c with phase := .stopped, before := some c.phase })
    match c.phase with
    | .programming =>
      if !c.started && s.engineWaits d then stopHere.withdraw (isFrom .engine d) else s
    | .retireRead | .retireProgram =>
      if s.engineWaits d then stopHere.withdraw (isFrom .engine d) else s
    | .awaitPersist => stopHere
    | _ => s

/-- An engine is quiet when it has no transfer requested or on the bus and its device has no program or reset in hand for it
(R65). -/
def State.engineQuiet (s : State) (d : Dev) : Bool :=
  !s.waits (isFrom .engine d) && !s.onBus (isFrom .engine d) && (s.dev d).owner != some .engine

/-- A resumed context goes on waiting with the number it awaited (R67); a FAILED page whose persist will not be attempted has
its entries declared LOST (R96). -/
def State.awaitAgain (s : State) (d : Dev) (c : Ctx) : State :=
  if s.ru.isFailed d c.home && s.mu.remap.fault then s.loseContext d c .retireFail else s.setCtx d (some c)

/-- The engine resumes: a STOPPED context takes up its phase before stop (R67). -/
def State.resumeEngine (s : State) (d : Dev) : State :=
  let s := s.setDe (s.de.set d { s.de.get d with stopping := false })
  match s.ctx d with
  | none => s
  | some c =>
    if c.phase = .stopped then
      let c' := { c with phase := c.before.getD .stopped, before := none }
      match c.before with
      | some .programming =>
        s.memoryStep d { c' with started := false, suspendsUsed := 0, programTime := 0 } (.programMasked c.phys c.batch)
      | some .retireRead => s.retireRead d c' false
      | some .retireProgram =>
        match c.image with
        | some image => s.retireProgram d c' image
        | none => s.retireRead d c' false
      | some .awaitPersist => s.awaitAgain d c'
      | _ => s.setCtx d (some c')
    else s

end Sys2Proof.Machine
end

