-- ==== Sys2Proof/Machine/Records.lean ====
section
/-! DEFINITION. The byte layouts of the management map's window records and of the records in the metadata area, the CRC, and
the checks of a record's validity (R141, R189, R190). -/

namespace Sys2Proof.Machine

/-! ### Numbers as bytes, least significant byte first (R189, R190) -/

def le16 (n : Nat) : List Byte := [BitVec.ofNat 8 n, BitVec.ofNat 8 (n / 256)]

def le32 (n : Nat) : List Byte := le16 n ++ le16 (n / 65536)

/-- The number that bytes make, least significant first. -/
def ofLe : List Byte → Nat
  | [] => 0
  | b :: bs => b.toNat + 256 * ofLe bs

/-- The number in `len` bytes at an offset. -/
def field (bytes : List Byte) (offset len : Nat) : Nat := ofLe ((bytes.drop offset).take len)

/-- Bytes followed by zeros up to `n` (R190). -/
def padTo (n : Nat) (bytes : List Byte) : List Byte := bytes ++ List.replicate (n - bytes.length) 0

/-! ### CRC-32 (R141) -/

/-- One bit of the reflected CRC: the generator 0x04C11DB7 with its bits in reflected order. -/
def crcBit (c : Nat) : Nat := if c % 2 = 1 then (c / 2) ^^^ 0xEDB88320 else c / 2

/-- One byte of the CRC. -/
def crcByte (c : Nat) (b : Byte) : Nat :=
  crcBit (crcBit (crcBit (crcBit (crcBit (crcBit (crcBit (crcBit (c ^^^ b.toNat))))))))

/-- CRC-32 with initial value 0xFFFFFFFF and a final inversion (R141). -/
def crc32 (bytes : List Byte) : Word32 := BitVec.ofNat 32 (bytes.foldl crcByte 0xFFFFFFFF ^^^ 0xFFFFFFFF)

/-! ### Window records and parameters (R189) -/

def WindowRecord.toBytes (w : WindowRecord) : List Byte :=
  [w.flags, w.device] ++ le16 w.hostBase.toNat ++ le16 w.size.toNat ++ le16 w.memBase.toNat

def WindowRecord.ofBytes (b : List Byte) : WindowRecord :=
  { flags := BitVec.ofNat 8 (field b 0 1)
    device := BitVec.ofNat 8 (field b 1 1)
    hostBase := BitVec.ofNat 16 (field b 2 2)
    size := BitVec.ofNat 16 (field b 4 2)
    memBase := BitVec.ofNat 16 (field b 6 2) }

def Params.toBytes (p : Params) : List Byte :=
  le16 p.sealDelay.toNat ++ [p.highWater, p.stallLimit, p.readAhead, p.suspendLimit]

def Params.ofBytes (b : List Byte) : Params :=
  { sealDelay := BitVec.ofNat 16 (field b 0 2)
    highWater := BitVec.ofNat 8 (field b 2 1)
    stallLimit := BitVec.ofNat 8 (field b 3 1)
    readAhead := BitVec.ofNat 8 (field b 4 1)
    suspendLimit := BitVec.ofNat 8 (field b 5 1) }

/-- The 70 bytes of a table, as in the map at 0x60-0xA5 and in the config record's body. -/
def Table.toBytes (t : Table) : List Byte := t.windows.flatMap WindowRecord.toBytes ++ t.params.toBytes

/-- The table that 70 bytes make. -/
def Table.ofBytes (b : List Byte) : Table :=
  { windows := (List.range 8).map (fun i => WindowRecord.ofBytes (b.drop (8 * i)))
    params := Params.ofBytes (b.drop 64) }

/-- The default table (R115). Window 1 is enabled unless device 1 is ABSENT; a disabled window of the defaults reads as R189
gives (log 31). -/
def Table.default (device1 : Bool) : Table :=
  let off : WindowRecord := { flags := 0, device := 0, hostBase := 0, size := 1, memBase := 0 }
  { windows :=
      [{ flags := 1, device := 0, hostBase := 0, size := 8150, memBase := 0 },
       if device1 then { flags := 1, device := 1, hostBase := 8192, size := 8160, memBase := 0 } else off,
       off, off, off, off, off, off]
    params := { sealDelay := 256, highWater := 24, stallLimit := 30, readAhead := 1, suspendLimit := 4 } }

/-! ### Validation of a table (R116, R141) -/

/-- Every parameter is in its range (R115). -/
def Params.inRange (p : Params) : Bool :=
  (p.sealDelay = 0 || (16 ≤ p.sealDelay.toNat && p.sealDelay.toNat ≤ 4096 && p.sealDelay.toNat % 16 = 0)) &&
  (8 ≤ p.highWater.toNat && p.highWater.toNat ≤ 32) && (1 ≤ p.stallLimit.toNat && p.stallLimit.toNat ≤ 127) &&
  p.readAhead.toNat ≤ 3 && p.suspendLimit.toNat ≤ 7

/-- An enabled window's policy, device and size are in their ranges (check 2 of R116). -/
def WindowRecord.inRange (w : WindowRecord) : Bool :=
  w.policy?.isSome && w.device?.isSome && 1 ≤ w.size.toNat && w.size.toNat ≤ 8192

/-- Check 3 of R116. -/
def WindowRecord.hostFits (w : WindowRecord) : Bool := w.hostBase.toNat + w.size.toNat ≤ 32768

/-- Check 4 of R116. -/
def WindowRecord.memoryFits (w : WindowRecord) : Bool :=
  match w.device? with
  | some d => w.memBase.toNat + w.size.toNat ≤ Config.userPages d
  | none => false

/-- Two ranges share a page. -/
def rangesMeet (base1 size1 base2 size2 : Nat) : Bool := base1 < base2 + size2 && base2 < base1 + size1

/-- Two windows share a host page (check 6 of R116). -/
def hostMeet (v w : WindowRecord) : Bool := rangesMeet v.hostBase.toNat v.size.toNat w.hostBase.toNat w.size.toNat

/-- Two windows of one device share a memory page (check 7 of R116). -/
def memoryMeet (v w : WindowRecord) : Bool :=
  v.device = w.device && rangesMeet v.memBase.toNat v.size.toNat w.memBase.toNat w.size.toNat

/-- Some two members of a list satisfy `meet`. -/
def anyPair {α : Type} (meet : α → α → Bool) : List α → Bool
  | [] => false
  | x :: xs => xs.any (meet x) || anyPair meet xs

/-- The enabled windows in index order. -/
def Table.enabledWindows (t : Table) : List WindowRecord := t.windows.filter WindowRecord.enabled

/-- Check 2 of R116. -/
def Table.inRange (t : Table) : Bool := t.params.inRange && t.enabledWindows.all WindowRecord.inRange

/-- The checks of a config body: those of a commit without its state and device-presence checks (R141). -/
def Table.valid (t : Table) : Bool :=
  t.inRange && t.enabledWindows.all (fun w => w.hostFits && w.memoryFits) && !anyPair hostMeet t.enabledWindows &&
    !anyPair memoryMeet t.enabledWindows

/-! ### Config and remap records (R141, R190) -/

/-- The code of a record's kind. -/
def Kind.code : Kind → Nat
  | .config => 0xC3A1
  | .remap => 0xD7A1

/-- The length of a record's body. -/
def Kind.bodyLength : Kind → Nat
  | .config => 70
  | .remap => 432

/-- A record: the header and the body, with the CRC over the header's first 8 bytes and the body. -/
def recordBytes (k : Kind) (gen : Word32) (body : List Byte) : List Byte :=
  let head := le16 k.code ++ le32 gen.toNat ++ le16 k.bodyLength
  head ++ le32 (crc32 (head ++ body)).toNat ++ body

/-- An entry place of the remap body. -/
def RemapEntry.toBytes : RemapEntry → List Byte
  | .remap d h s => [1, devByte d] ++ le16 h ++ le16 s
  | .failed d h => [2, devByte d] ++ le16 h ++ le16 0
  | .retiredSpare d s => [3, devByte d] ++ le16 0 ++ le16 s

/-- The body of a remap record: 72 entry places in list order (R141). -/
def remapBody (table : List RemapEntry) : List Byte := padTo 432 (table.flatMap RemapEntry.toBytes)

/-- An entry place read back: a valid entry, "none", or nothing when it fails the checks of R141. -/
inductive Place where
  | entry (e : RemapEntry)
  | empty
  | bad
deriving DecidableEq, Repr

/-- An entry place read from its 6 bytes, with the checks of R141 that concern it alone. A place whose kind code is none of 0 to 3
is bad, which makes the slot invalid: DESIGN CHOICE (log 47), since R190 lists no such code and R141 has no check of it. -/
def placeOf (b : List Byte) : Place :=
  let home := field b 2 2
  let spare := field b 4 2
  match field b 0 1, devOfNat (field b 1 1) with
  | 0, _ => .empty
  | 1, some d => if isUserPage d home && isSparePage d spare then .entry (.remap d home spare) else .bad
  | 2, some d => if isUserPage d home then .entry (.failed d home) else .bad
  | 3, some d => if isSparePage d spare then .entry (.retiredSpare d spare) else .bad
  | _, _ => .bad

/-- The entries of a list of places, if no place is bad and none follows an empty one (R141). -/
def entriesOf : List Place → Option (List RemapEntry)
  | [] => some []
  | .bad :: _ => none
  | .empty :: ps => if ps.all (fun p => p = .empty) then some [] else none
  | .entry e :: ps => (entriesOf ps).map (e :: ·)

/-- The home page of a REMAP or FAILED entry. -/
def RemapEntry.homePage : RemapEntry → Option (Dev × Nat)
  | .remap d h _ => some (d, h)
  | .failed d h => some (d, h)
  | .retiredSpare _ _ => none

/-- The spare an entry names. -/
def RemapEntry.sparePage : RemapEntry → Option (Dev × Nat)
  | .remap d _ s => some (d, s)
  | .failed _ _ => none
  | .retiredSpare d s => some (d, s)

/-- The checks of a remap body that concern its entries together (R141). -/
def remapTableValid (table : List RemapEntry) : Bool :=
  decide (table.filterMap RemapEntry.homePage).Nodup && decide (table.filterMap RemapEntry.sparePage).Nodup &&
    failedCount table ≤ Config.failedLimit

/-- The remap table a body holds, if it passes the checks (R141). -/
def remapOfBody (body : List Byte) : Option (List RemapEntry) :=
  match entriesOf ((List.range 72).map (fun i => placeOf ((body.drop (6 * i)).take 6))) with
  | some table => if remapTableValid table then some table else none
  | none => none

/-- The body of a record read from a slot, when its kind, length and CRC are right (R141). A slot that a program of the unit was
cut off in is judged by the same checks, over its indeterminate bytes, which are free values, and the model leaves open which way
they fall: DESIGN CHOICE (log 46), since R139 and R154 call that slot invalid, while R141 judges a slot by the bytes read and R121
lets those bytes be any. -/
def recordBody (k : Kind) (bytes : List Byte) : Option (List Byte) :=
  if field bytes 0 2 = k.code ∧ field bytes 6 2 = k.bodyLength then
    let body := (bytes.drop 12).take k.bodyLength
    if field bytes 8 4 = (crc32 (bytes.take 8 ++ body)).toNat then some body else none
  else none

/-- The generation of a record (R190). -/
def recordGen (bytes : List Byte) : Word32 := BitVec.ofNat 32 (field bytes 2 4)

/-- The config table of a valid config slot (R141). -/
def configOfSlot (bytes : List Byte) : Option Table :=
  match recordBody .config bytes with
  | some body => if (Table.ofBytes body).valid then some (Table.ofBytes body) else none
  | none => none

/-- The remap table of a valid remap slot (R141). -/
def remapOfSlot (bytes : List Byte) : Option (List RemapEntry) :=
  match recordBody .remap bytes with
  | some body => remapOfBody body
  | none => none

/-- The record of a snapshot (R146). -/
def Snapshot.record (sn : Snapshot) (gen : Word32) : List Byte :=
  match sn with
  | .config t => recordBytes .config gen t.toBytes
  | .remap l => recordBytes .remap gen (remapBody l)

def Snapshot.kind : Snapshot → Kind
  | .config _ => .config
  | .remap _ => .remap

/-- The first page of a slot (R140). -/
def slotPage : Kind → Slot → Nat
  | .config, .a => 8186
  | .config, .b => 8187
  | .remap, .a => 8188
  | .remap, .b => 8190

/-- The number of pages of a slot (R140). -/
def slotParts : Kind → Nat
  | .config => 1
  | .remap => 2

/-! ### The dump header and dump records (R190) -/

/-- State codes of the dump header. -/
def cleanCode : Nat := 0x6D2B0001
def openCode : Nat := 0x6D2B0002
def validCode : Nat := 0x6D2B0003

/-- The 32 bytes of a dump header. -/
def headerBytes (code n : Nat) (crc : Word32) : List Byte :=
  padTo 32 (le32 code ++ [BitVec.ofNat 8 n, 0, 0, 0] ++ le32 crc.toNat)

/-- The mask of a line's bytes: flag k is bit k (R190). -/
def maskOf : List (Option Byte) → Nat
  | [] => 0
  | b :: bs => (if b.isSome then 1 else 0) + 2 * maskOf bs

/-- The 24 bytes of a dump record; data is 0 where the mask flag is clear (R190). -/
def DumpRecord.toBytes (r : DumpRecord) : List Byte :=
  [BitVec.ofNat 8 r.ordinal, devByte r.loc.dev] ++ le16 r.loc.page ++
    [BitVec.ofNat 8 r.loc.line, if r.wt then 1 else 0] ++ le16 (maskOf r.bytes) ++ r.bytes.map (fun b => b.getD 0)

/-- The CRC of a dump: over its records in ordinal order (R168). -/
def dumpCrc (records : List DumpRecord) : Word32 := crc32 (records.flatMap DumpRecord.toBytes)

/-- The bytes of a line whose mask and data are given. -/
def maskedLine (mask : Nat) (data : List Byte) : List (Option Byte) :=
  (List.range 16).map (fun i => if mask.testBit i then some ((data[i]?).getD 0) else none)

/-- A dump record read back, with the checks of R152: its ordinal, a device that was not found ABSENT, a user page, a line,
and a mask with a flag set. -/
def dumpRecordOf (ordinal : Nat) (present : Dev → Bool) (b : List Byte) : Option DumpRecord :=
  match devOfNat (field b 1 1) with
  | none => none
  | some d =>
    if field b 0 1 = ordinal ∧ present d = true ∧ isUserPage d (field b 2 2) = true ∧ field b 4 1 < 16 ∧
        field b 6 2 ≠ 0 then
      some { ordinal := ordinal, loc := ⟨d, field b 2 2, field b 4 1⟩, wt := (field b 5 1).testBit 0
             bytes := maskedLine (field b 6 2) (b.drop 8) }
    else none

/-- The records that the bytes hold, from an ordinal on, if every one passes its checks. -/
def dumpRecordsOf (present : Dev → Bool) (bytes : List Byte) : (n ordinal : Nat) → Option (List DumpRecord)
  | 0, _ => some []
  | n + 1, ordinal =>
    match dumpRecordOf ordinal present ((bytes.drop (24 * (ordinal - 1))).take 24),
        dumpRecordsOf present bytes n (ordinal + 1) with
    | some r, some rs => some (r :: rs)
    | _, _ => none

/-- The ordinals of the records of dump page k: 1-9, 10-19, 20-29, 30-32 (R140, R168). -/
def dumpPageRecords (records : List DumpRecord) (k : Nat) : List DumpRecord :=
  match k with
  | 0 => records.take 9
  | 1 => (records.drop 9).take 10
  | 2 => (records.drop 19).take 10
  | _ => (records.drop 29).take 3

/-- The first ordinal of dump page k. -/
def dumpPageFirst : Nat → Nat
  | 0 => 1
  | 1 => 10
  | 2 => 20
  | _ => 30

/-- The 256 bytes of dump page k; page 8182 begins with the OPEN header (R169). -/
def dumpPageBytes (records : List DumpRecord) (k : Nat) : List Byte :=
  padTo 256 ((if k = 0 then headerBytes openCode 0 0 else []) ++
    (dumpPageRecords records k).flatMap DumpRecord.toBytes)

end Sys2Proof.Machine
end

