-- ==== Sys2Proof/Machine/Control.lean ====
section
/-! DEFINITION. The state controller: operating states, hold-up, dump, return, and what it asks of the other blocks. -/

namespace Sys2Proof.Machine

/-! ### The metadata unit's slots (R142, R146) -/

def MetadataUnit.slot (m : MetadataUnit) : Kind → SlotStatus
  | .config => m.config
  | .remap => m.remap

def MetadataUnit.setSlot (m : MetadataUnit) (k : Kind) (x : SlotStatus) : MetadataUnit :=
  match k with
  | .config => { m with config := x }
  | .remap => { m with remap := x }

/-- The operation in hand is replaced. -/
def State.setOp (s : State) (op : Option MuOp) : State := s.setMu { s.mu with op := op }

/-- The metadata unit's request for device 0 (R145, R153). -/
def State.muRequest (s : State) (cmd : Cmd) : State := s.join ⟨.mu, .d0, cmd⟩

/-- A persist is broken off: its kind is pending again, and a target slot that may hold part of the record is no longer the
newest slot (R150). -/
def State.breakOff (s : State) (p : Persist) (touched : Bool) : State :=
  let k := p.snapshot.kind
  let x := s.mu.slot k
  let x := { x with pending := true, newestSlot := if touched && x.newestSlot = some p.target then none else x.newestSlot }
  s.setMu { (s.mu.setSlot k x) with op := none }

/-- A program of the metadata unit waits for its grant; its DEVICE_RESET does not count as one. -/
def isMuWork (r : Request) : Bool := isFrom .mu .d0 r && r.cmd != .deviceReset

/-- A persist in hand is brought to a stop: an ungranted program is withdrawn and the persist broken off; a granted or
running one finishes first (R150). -/
def State.stopPersist (s : State) : State :=
  match s.mu.op with
  | some (.persist p) =>
    if s.waits isMuWork then
      (s.withdraw isMuWork).breakOff p (decide (0 < p.part) || decide (1 < p.attempt))
    else s.setOp (some (.persist { p with stopping := true }))
  | _ => s

/-! ### Entering the operating states (R155, R162 to R166, R173) -/

/-- The state controller asks the metadata unit for a write (R153); the unit takes it when it is idle. -/
def State.askWrite (s : State) (w : ScWrite) : State := s.setMu { s.mu with waiting := some w }

/-- The header view is set (R155). -/
def State.setHeader (s : State) (h : HeaderView) : State := s.setSc { s.sc with header := some h }

/-- RUN is entered; stopped engines resume (R67, R162). -/
def State.enterRun (s : State) : State :=
  ((s.setSc { s.sc with state := .run, step := none, returnWrite := false, plan := none }).resumeEngine .d0).resumeEngine
    .d1

/-- HALTED is entered (R173). -/
def State.halt (s : State) : State :=
  s.setSc { s.sc with state := .halted, step := none, returnWrite := false, plan := none }

/-- A CLEAN write has been reported failed: the header view becomes UNKNOWN, METADATA_WRITE is queued, and the part halts
(R159, R161, R171). -/
def State.cleanFailed (s : State) : State :=
  ((s.setHeader .unknown).postFault .metadataWrite (some .d0) (some Config.headerPage) none).halt

/-- A held access completes with NOT_READY at a transition out of RUN (R112). The read path's part is `leaveRunReads`. -/
def State.refuseHeld (s : State) : State :=
  match s.heldPhase with
  | none => s
  | some .heldBuffer => s.dropPending.complete (some .notReady) 0
  | some .heldWt => (s.setFu { s.fu with wait := none }).complete (some .notReady) 0
  | some _ => s.complete (some .notReady) 0

/-- What leaving RUN for HOLDUP or RESTARTING brings: OPEN entries are sealed, a held access is refused, and the read path's
ungranted requests are withdrawn (R18, R45, R112). -/
def State.leaveRun (s : State) : State := (s.sealAll.refuseHeld).leaveRunReads

/-- HOLDUP is entered (R166; from DUMPED by R172). -/
def State.enterHoldup (s : State) : State :=
  (((s.setSc { s.sc with state := .holdup, step := none, returnWrite := false, plan := none }).leaveRun.stopEngine
    .d0).stopEngine .d1).stopPersist

/-- Boot work of the metadata unit that has not reached the bus is dropped on entering STOPPED; a read on the bus runs to its
end (R165; log 12). -/
def State.stopBootReads (s : State) : State :=
  match s.mu.op with
  | some (.load _) | some .headerRead | some (.recordRead _ _ _ _) =>
    if s.waits isMuWork then (s.withdraw isMuWork).setOp none else s
  | _ => s

/-- STOPPED is entered from BOOT or REPLAY: the engines and the metadata unit stop, and no step of boot is begun any more
(R165). A CLEAN write that the metadata unit has taken counts as in flight, even while its program waits for the grant: the
request stays and its program runs. One that waits to be taken is dropped. R165 does not say which writes are in flight: DESIGN
CHOICE (log 12). -/
def State.enterStopped (s : State) : State :=
  let s := s.setSc { s.sc with state := .stopped, step := none }
  let s := (((s.stopEngine .d0).stopEngine .d1).stopPersist).stopBootReads
  let s := s.withdraw (fun r => r.requester = .probe)
  (s.setMp { s.mp with probe := none }).setMu { s.mu with waiting := none }

/-- RESTARTING is entered (R163). -/
def State.enterRestarting (s : State) : State :=
  (s.setSc { s.sc with state := .restarting, step := none }).leaveRun

/-! ### Quiet (R125, R165, R166) -/

/-- A device is quiet when its activity is idle and no transfer to it is on the bus, or when it is ABSENT or OFFLINE
(R125). So a device that the probe has not found yet is quiet, though R165 lets the probe's transfers run to their end: DESIGN
CHOICE (log 12). -/
def State.deviceQuiet (s : State) (d : Dev) : Bool :=
  !(s.dev d).takes || ((s.dev d).activity = .idle && !s.onBus (fun r => r.dev = d))

/-- Both devices quiet, both engines quiet and the metadata unit idle (R165, R166). -/
def State.quiet (s : State) : Bool :=
  s.deviceQuiet .d0 && s.deviceQuiet .d1 && s.engineQuiet .d0 && s.engineQuiet .d1 && s.mu.op.isNone

/-! ### The return from DUMPED (R171) -/

/-- The return: RUN at once with the header CLEAN, and otherwise a CLEAN write first (R171). -/
def State.beginReturn (s : State) : State :=
  if s.sc.header = some .clean then s.enterRun
  else (s.setSc { s.sc with returnWrite := true }).askWrite .toClean

/-- DUMPED is entered; with the PFAIL view released the return begins (R171). -/
def State.enterDumped (s : State) : State :=
  let s := s.setSc { s.sc with state := .dumped, step := none, plan := none, returnWrite := false }
  if s.sc.pfail then s else s.beginReturn

/-! ### The end of hold-up and the dump (R167 to R170) -/

/-- The dump plan: the age list, numbered from 1 (R25, R168). -/
def dumpRecords : List Entry → (ordinal : Nat) → List DumpRecord
  | [], _ => []
  | e :: es, k => { ordinal := k, loc := e.loc, wt := e.wt, bytes := e.bytes } :: dumpRecords es (k + 1)

/-- The end of the hold-up (R167). -/
def State.holdupEnds (s : State) : State :=
  if s.occupancy = 0 then s.enterDumped
  else if (s.dev .d0).takes then
    (s.setSc { s.sc with
      state := .dumping
      plan := some { records := dumpRecords s.pwb.entries 1, reached := .dumpPage 0 } }).askWrite (.dumpPage 0)
  else
    let n := s.occupancy
    let s := ((s.declareLost (fun _ => true)).setCtx .d0 none).setCtx .d1 none
    (s.postFault .dumpImpossible (some .d0) none (some n)).enterDumped

/-- The write after dump page k: the next page that holds records, or the VALID change (R169). -/
def nextDumpWrite (n k : Nat) : ScWrite := if 10 * (k + 1) ≤ n then .dumpPage (k + 1) else .toValid

/-- The dump write after the one reported done is asked for (R169). -/
def State.dumpNext (s : State) (plan : DumpPlan) (w : ScWrite) : State :=
  (s.setSc { s.sc with plan := some { plan with reached := w } }).askWrite w

/-- A write is reported done to the state controller, which acts by its state (R159, R161, R169, R171, R172); in STOPPED it
does not act (R165). -/
def State.writeDone (s : State) (w : ScWrite) : State :=
  match s.sc.state with
  | .boot => (s.setHeader .clean).enterRun
  | .replay =>
    let s := s.setHeader .clean
    (s.setMgp { s.mgp with restored := true }).enterRun
  | .dumping =>
    match s.sc.plan, w with
    | some plan, .dumpPage k =>
      (if k = 0 then s.setHeader .openDump else s).dumpNext plan (nextDumpWrite plan.records.length k)
    | _, _ => (s.setHeader .valid).enterDumped
  | .dumped =>
    let s := (s.setHeader .clean).setSc { (s.setHeader .clean).sc with returnWrite := false }
    if s.sc.pfail then s.enterHoldup else s.enterRun
  | _ => s

/-- The page of a write (R153). -/
def ScWrite.page : ScWrite → Nat
  | .dumpPage k => Config.headerPage + k
  | .toValid => Config.headerPage
  | .toClean => Config.headerPage

/-- A write is reported failed to the state controller (R159, R161, R170, R171). -/
def State.writeFailed (s : State) (w : ScWrite) : State :=
  match s.sc.state with
  | .boot => s.cleanFailed
  | .replay => s.cleanFailed
  | .dumping =>
    let n := match s.sc.plan with
      | some plan => plan.records.length
      | none => 0
    let s := if w.page = Config.headerPage then s.setHeader .unknown else s
    (s.postFault .dumpFailed (some .d0) (some w.page) (some n)).enterDumped
  | .dumped => s.cleanFailed
  | _ => s

/-! ### Boot and replay (R157 to R161) -/

/-- What the metadata unit reports of the dump header (R151, R152). -/
inductive HeaderReport where
  | clean
  | unrecognised
  | openDump
  | validBad
  | validGood (records : List DumpRecord)
deriving DecidableEq, Repr

/-- A CLEAN write at boot (R159). -/
def State.bootCleanWrite (s : State) : State := (s.setSc { s.sc with step := some .headerWrite }).askWrite .toClean

/-- The entry of a dump record at the replay load (R26). -/
def DumpRecord.entry (r : DumpRecord) : Entry :=
  { loc := r.loc, bytes := r.bytes, seq := BitVec.ofNat 32 r.ordinal, wt := false, state := .sealed, deadline := none }

/-- REPLAY is entered and the records are loaded into the buffer (R26, R160). -/
def State.enterReplay (s : State) (records : List DumpRecord) : State :=
  (s.setSc { s.sc with state := .replay, step := none }).setPwb
    { s.pwb with entries := records.map DumpRecord.entry, counter := BitVec.ofNat 32 records.length }

/-- The state controller acts on the header report (R158). -/
def State.headerReported (s : State) (r : HeaderReport) : State :=
  match r with
  | .clean => (s.setHeader .clean).enterRun
  | .unrecognised => (s.setHeader .unknown).bootCleanWrite
  | .openDump =>
    ((s.setHeader .openDump).postFault .dumpIncomplete (some .d0) (some Config.headerPage) none).bootCleanWrite
  | .validBad => ((s.setHeader .valid).postFault .dumpCrc (some .d0) (some Config.headerPage) none).bootCleanWrite
  | .validGood records => (s.setHeader .valid).enterReplay records

/-- The probe is asked for: a DEVICE_RESET of device 0 first (R126, R157). -/
def State.startProbe (s : State) : State :=
  ((s.setSc { s.sc with step := some .probe }).setMp { s.mp with probe := some ⟨none, none⟩ }).join
    ⟨.probe, .d0, .deviceReset⟩

/-- The probe reports: HALTED with device 0 ABSENT, and otherwise the load, whose first read is config slot A (R143, R157). -/
def State.probeReported (s : State) : State :=
  let s := s.setMp { s.mp with probe := none }
  if (s.dev .d0).takes then
    ((s.setSc { s.sc with step := some .load }).setOp (some (.load []))).muRequest (.read (slotPage .config .a) 0 16)
  else (s.setSc { s.sc with noDevice0 := true }).halt

/-- Every block takes its value after cold reset (R27, R45, R68, R83, R103, R119, R139, R154, R175, R188). The lines, the
memory devices and the queue of commands are not the part's. MADR is sampled and the PFAIL view takes the line's level. A
transfer on the bus ends there: R139 says so of /RESET, and of an internal cold reset it is a DESIGN CHOICE (log 40). -/
def State.coldReset (s : State) : State :=
  { s with
    hp := HostPort.reset
    wd := WindowDecoder.reset
    pwb := WriteBuffer.reset
    rp := ReadPath.reset
    fu := { FenceUnit.reset with levelTime := if s.fu.high then 0 else s.fu.levelTime }
    de := ⟨Engine.reset, Engine.reset⟩
    ru := RemapUnit.reset
    mp := MemoryPort.reset
    mu := MetadataUnit.reset
    sc := { StateController.reset with pfail := s.pins.pfail }
    mgp := { ManagementPort.reset with target := if s.pins.madr then 0x3B else 0x3A } }

/-- A cold reset that the part makes itself (R163, R165): MADR is sampled afresh (R176), and its level then is a free value
(log 39). The transaction under way goes on, with its last acknowledge and byte, since only a stop, a repeated start or /RESET
ends it (R176); the index is 0 and no capture is held (R188). After the byte that caused the reset the index is 0, and not 1:
DESIGN CHOICE (log 41). -/
def State.internalReset (s : State) : State :=
  let t := ((s.setPins { s.pins with madr := Config.madrLevel s.samples }).setSamples (s.samples + 1)).coldReset
  t.setMgp { t.mgp with tx := s.mgp.tx, acked := s.mgp.acked, readByte := s.mgp.readByte }

/-- Boot begins: STOPPED with the PFAIL view asserted, and otherwise the probe (R157). -/
def State.bootStarts (s : State) : Option State :=
  if s.sc.state = .boot ∧ s.sc.step = none then
    let s := s.setSc { s.sc with pfail := s.pins.pfail }
    some (if s.sc.pfail then s.enterStopped else s.startProbe)
  else none

/-! ### Metadata faults (R148, R164) -/

/-- A metadata fault of a kind arises: its flag is set, a persist of the kind ends without a report, CONFIG_PERSIST reads
FAILED for the config kind, and a restart is given up (R118, R148, R164). -/
def State.raiseFault (s : State) (k : Kind) : State :=
  let s := s.setMu (s.mu.setSlot k { s.mu.slot k with fault := true })
  let s :=
    match s.mu.op with
    | some (.persist p) => if p.snapshot.kind = k then (s.withdraw (isFrom .mu .d0)).setOp none else s
    | _ => s
  let s := if k = .config then s.setWd { s.wd with persist := .failed } else s
  if s.sc.state = .restarting then s.enterRun else s

end Sys2Proof.Machine
end

