-- ==== Sys2Proof/Machine/Memory.lean ====
section
/-! DEFINITION. What the two memory devices store and what programs do to it (R121). -/

namespace Sys2Proof.Machine

/-- The byte a device returns for a stored byte: an indeterminate one is returned as an ordinary value (R121). -/
def NvmByte.value : NvmByte → Byte
  | .val b => b
  | .indet n => Config.indeterminateByte n

/-- A page that has not been programmed (log 6). -/
def blankPage : List NvmByte := List.replicate 256 (.val Config.blankByte)

/-- What a page holds. -/
def Nvm.page (n : Nvm) (p : Nat) : List NvmByte :=
  match n.pages.find? (fun x => x.page = p) with
  | some x => x.bytes
  | none => blankPage

/-- A page put before the others, unless it reads as a page that is not listed. -/
def consPage (p : Nat) (bytes : List NvmByte) (rest : List NvmPage) : List NvmPage :=
  if bytes = blankPage then rest else { page := p, bytes := bytes } :: rest

/-- The pages with one page's bytes replaced: page numbers stay strictly rising, and no listed page is blank. -/
def putPage (pages : List NvmPage) (p : Nat) (bytes : List NvmByte) : List NvmPage :=
  match pages with
  | [] => consPage p bytes []
  | x :: xs =>
    if p < x.page then consPage p bytes (x :: xs)
    else if p = x.page then consPage p bytes xs
    else x :: putPage xs p bytes

/-- The canonical form of a device's memory: page numbers strictly rise, and no listed page is blank, so that equal contents
are equal data. -/
def Nvm.wf (n : Nvm) : Bool :=
  decide (n.pages.Pairwise (fun x y => x.page < y.page)) && n.pages.all (fun x => x.bytes != blankPage)

/-- The bytes of a READ: `count` lines from `line` on, in line order (R122). -/
def Nvm.readLines (n : Nvm) (p line count : Nat) : List (List Byte) :=
  (List.range' line count).map (fun l => (((n.page p).drop (16 * l)).take 16).map NvmByte.value)

/-- The same bytes in one list. -/
def Nvm.readBytes (n : Nvm) (p line count : Nat) : List Byte := (n.readLines p line count).flatten

/-- A program that passes: every programmed byte holds its new value (R121). -/
def programmed (old : List NvmByte) (bytes : List (Option Byte)) : List NvmByte :=
  List.zipWith (fun o b => match b with
    | some v => NvmByte.val v
    | none => o) old bytes

/-- A program that fails or is cut off: the programmed bytes are indeterminate, the others unchanged (R121). `k` is the
number of the first byte of the page. -/
def spoiled (k : Nat) (old : List NvmByte) (bytes : List (Option Byte)) : List NvmByte :=
  match old, bytes with
  | o :: os, b :: bs => (if b.isSome then NvmByte.indet k else o) :: spoiled (k + 1) os bs
  | _, _ => []

/-- A device takes a program (R122). -/
def State.nvmStart (s : State) (d : Dev) (page : Nat) (bytes : List (Option Byte)) : State :=
  s.setNvm (s.nvm.set d { s.nvm.get d with running := some { page := page, bytes := bytes } })

/-- The program running in a device passes. -/
def State.nvmPass (s : State) (d : Dev) : State :=
  let n := s.nvm.get d
  match n.running with
  | none => s
  | some r => s.setNvm (s.nvm.set d { pages := putPage n.pages r.page (programmed (n.page r.page) r.bytes), running := none })

/-- The program running in a device fails, is aborted, or is cut off: its bytes become indeterminate (R121, R139). -/
def State.nvmSpoil (s : State) (d : Dev) : State :=
  let n := s.nvm.get d
  match n.running with
  | none => s
  | some r =>
    (s.setNvm (s.nvm.set d
      { pages := putPage n.pages r.page (spoiled (256 * s.indet) (n.page r.page) r.bytes), running := none })).setIndet
      (s.indet + 1)

end Sys2Proof.Machine
end

