-- ==== Sys2Proof/Machine/Metadata.lean ====
section
/-! DEFINITION. The metadata unit: the load, persists with slot alternation, header and record reads, and the state controller's
writes. -/

namespace Sys2Proof.Machine

/-! ### Persists (R145 to R150) -/

/-- The page and bytes of one part of a persist's slot; a record fills its pages, with 0 after its last byte (R190). -/
def State.requestPart (s : State) (p : Persist) : State :=
  (s.setOp (some (.persist p))).muRequest
    (.programPage (slotPage p.snapshot.kind p.target + p.part)
      (padTo 256 (((p.snapshot.record p.gen).drop (256 * p.part)).take 256)))

/-- The target slot of a new persist (R146). -/
def SlotStatus.target (x : SlotStatus) : Slot :=
  match x.newestSlot with
  | none => if x.badA then .b else .a
  | some .a => if x.badB then .a else .b
  | some .b => if x.badA then .b else .a

/-- The kind whose persist starts: the operating state allows it, the unit is idle, no write of the state controller waits,
and remap comes first (R145). -/
def State.persistDue (s : State) : Option Kind :=
  if s.mu.op = none ∧ s.mu.waiting = none ∧ (s.dev .d0).takes = true ∧
      (s.sc.state = .replay ∨ s.sc.state = .run ∨ s.sc.state = .restarting) then
    if s.mu.remap.pending && !s.mu.remap.fault then some .remap
    else if s.mu.config.pending && !s.mu.config.fault then some .config
    else none
  else none

/-- The snapshot of a kind's table, with its change number (R146). -/
def State.snapshot (s : State) : Kind → Snapshot × Word32
  | .config => (.config s.wd.live, s.wd.change)
  | .remap => (.remap s.ru.table, s.ru.change)

/-- A pending persist is started (R146). -/
def State.startPersist (s : State) : Option State :=
  match s.persistDue with
  | none => none
  | some k =>
    let x := s.mu.slot k
    let s := s.setMu (s.mu.setSlot k { x with pending := false })
    some (s.requestPart
      { snapshot := (s.snapshot k).1, change := (s.snapshot k).2, gen := nextNonzero x.newestGen, target := x.target,
        attempt := 1, part := 0, stopping := false })

/-- The window decoder takes the report of a config persist (R118). -/
def WindowDecoder.persistReported (w : WindowDecoder) (n : Word32) : WindowDecoder :=
  { w with persist := if n = w.change then .done else w.persist, reported := some n }

/-- Whether a config persist reported with number `n` flags COMMIT_PERSISTED: 1 or more, and above the previous one (R118). -/
def WindowDecoder.flagsCommit (w : WindowDecoder) (n : Word32) : Bool :=
  n != 0 && (match w.reported with
    | none => true
    | some m => isAbove n m)

/-- A persist is done: newest generation and slot are set and the snapshot's change number is reported (R146). -/
def State.persistDone (s : State) (p : Persist) : State :=
  let k := p.snapshot.kind
  let s := s.setMu { (s.mu.setSlot k { s.mu.slot k with newestGen := p.gen, newestSlot := some p.target }) with op := none }
  match k with
  | .remap => s.setRu { s.ru with reported := some p.change }
  | .config =>
    let flag := s.wd.flagsCommit p.change
    (s.setWd (s.wd.persistReported p.change)).setMgp { s.mgp with commitPersisted := s.mgp.commitPersisted || flag }

/-- The slot of a kind that is not `x`. -/
def Slot.other : Slot → Slot
  | .a => .b
  | .b => .a

def SlotStatus.isBad (x : SlotStatus) : Slot → Bool
  | .a => x.badA
  | .b => x.badB

/-- The status after a slot has failed two attempts of one persist (R147). -/
def SlotStatus.markBad (x : SlotStatus) (t : Slot) : SlotStatus :=
  { x with
    badA := x.badA || t = .a
    badB := x.badB || t = .b
    newestSlot := if x.newestSlot = some t then none else x.newestSlot }

/-- The number of slots of a kind still not bad. -/
def SlotStatus.good (x : SlotStatus) : Nat := (if x.badA then 0 else 1) + (if x.badB then 0 else 1)

/-- An attempt of a persist has failed: it is made again, or the slot is bad and the other slot is tried, or a metadata fault
arises (R147). -/
def State.attemptFails (s : State) (p : Persist) : State :=
  if p.attempt < 2 then s.requestPart { p with attempt := 2, part := 0 }
  else
    let k := p.snapshot.kind
    let x := (s.mu.slot k).markBad p.target
    let s := (s.setMu (s.mu.setSlot k x)).postFault .metadataWrite (some .d0) (some (slotPage k p.target)) (some x.good)
    if x.isBad p.target.other then (s.setOp none).raiseFault k
    else s.requestPart { p with target := p.target.other, attempt := 1, part := 0 }

/-! ### Writes of the state controller (R153) -/

/-- A masked change of the header: bytes 0-31 of page 8182 (R153). -/
def headerChange (code n : Nat) (crc : Word32) : Cmd :=
  .programMasked Config.headerPage ((headerBytes code n crc).map some ++ List.replicate 224 none)

/-- The command of a write (R153, R169). -/
def State.writeCmd (s : State) (w : ScWrite) : Cmd :=
  let records := match s.sc.plan with
    | some plan => plan.records
    | none => []
  match w with
  | .dumpPage k => .programPage (Config.headerPage + k) (dumpPageBytes records k)
  | .toValid => headerChange validCode records.length (dumpCrc records)
  | .toClean => headerChange cleanCode 0 0

/-- The idle unit takes a write asked of it; with device 0 not taking transfers the write is reported failed at once (R149,
R153). -/
def State.takeWrite (s : State) : Option State :=
  match s.mu.op, s.mu.waiting with
  | none, some w =>
    let s := s.setMu { s.mu with waiting := none }
    some (if (s.dev .d0).takes then (s.setOp (some (.write w 1))).muRequest (s.writeCmd w) else s.writeFailed w)
  | _, _ => none

/-- A write has failed once: it is made once more, except in STOPPED (R153, R165). -/
def State.writeFails (s : State) (w : ScWrite) (attempt : Nat) : State :=
  if attempt < 2 ∧ s.sc.state ≠ .stopped then (s.setOp (some (.write w 2))).muRequest (s.writeCmd w)
  else (s.setOp none).writeFailed w

/-! ### Outcomes of the unit's programs (R130, R146, R147, R150, R153) -/

/-- A program of the unit has completed, with pass or fail; a reset after its timeout counts as a fail (R130). -/
def State.muProgramEnds (s : State) (pass : Bool) : State :=
  match s.mu.op with
  | some (.persist p) =>
    let last := decide (slotParts p.snapshot.kind ≤ p.part + 1)
    if pass && last then s.persistDone p
    else if p.stopping then s.breakOff p true
    else if pass then s.requestPart { p with part := p.part + 1 }
    else s.attemptFails p
  | some (.write w a) => if pass then (s.setOp none).writeDone w else s.writeFails w a
  | _ => s

/-- Device 0 has gone OFFLINE: both kinds enter metadata fault, a persist ends without a report, and a write in hand is
reported failed (R149). -/
def State.muOffline (s : State) : State :=
  let s := (s.raiseFault .config).raiseFault .remap
  match s.mu.op with
  | some (.write w _) => (s.setOp none).writeFailed w
  | some _ => s.setOp none
  | none => s

/-! ### The load (R143, R144) -/

/-- The pages the load reads, in order (R143). -/
def loadPages : List Nat := [8186, 8187, 8188, 8189, 8190, 8191]

/-- The record chosen among the two slots: the greater generation, slot A for equal ones, or the one that is valid (R143). Two
generations exactly 2^31 apart are each above the other by R1; slot B is taken then: DESIGN CHOICE (log 42). -/
def chooseSlot {α : Type} (a b : Option α) (genA genB : Word32) : Option (Slot × Word32 × α) :=
  match a, b with
  | some x, some y => if isAbove genB genA then some (.b, genB, y) else some (.a, genA, x)
  | some x, none => some (.a, genA, x)
  | none, some y => some (.b, genB, y)
  | none, none => none

/-- The config record chosen is taken as the live table, or the kind is defaulted (R115, R143, R144). CONFIG_PERSIST reads
PENDING while the persist of the defaults is pending (R118). -/
def State.loadConfig (s : State) (a b : List Byte) : State :=
  match chooseSlot (configOfSlot a) (configOfSlot b) (recordGen a) (recordGen b) with
  | some (slot, gen, t) =>
    (s.setWd { s.wd with live := t, persist := .done }).setMu
      { s.mu with config := { s.mu.config with newestGen := gen, newestSlot := some slot } }
  | none =>
    ((s.setWd { s.wd with live := Table.default (s.dev .d1).takes, persist := .pending }).setMu
      { s.mu with config := { s.mu.config with newestGen := 0, newestSlot := none, pending := true } }).postFault
        .metaDefaulted (some .d0) (some (slotPage .config .a)) none

/-- The remap record chosen is taken as the live table, or the kind is defaulted with an empty one (R103, R143, R144). -/
def State.loadRemap (s : State) (a b : List Byte) : State :=
  match chooseSlot (remapOfSlot a) (remapOfSlot b) (recordGen a) (recordGen b) with
  | some (slot, gen, table) =>
    (s.setRu { s.ru with table := table, free := ⟨buildFree table .d0, buildFree table .d1⟩ }).setMu
      { s.mu with remap := { s.mu.remap with newestGen := gen, newestSlot := some slot } }
  | none =>
    ((s.setRu { s.ru with table := [], free := ⟨buildFree [] .d0, buildFree [] .d1⟩ }).setMu
      { s.mu with remap := { s.mu.remap with newestGen := 0, newestSlot := none, pending := true } }).postFault
        .metaDefaulted (some .d0) (some (slotPage .remap .a)) none

/-- SPARES_LOW is queued after the load for a device that is not ABSENT with 4 free spares or fewer (R103). -/
def State.sparesLowAtLoad (s : State) (d : Dev) : State :=
  if (s.dev d).state ≠ .absent ∧ (s.ru.free.get d).length ≤ Config.sparesLow then
    s.postFault .sparesLow (some d) none (some (s.ru.free.get d).length)
  else s

/-- The load is done: the tables are handed over, the staged table is a copy of the live one, and the header is read (R114,
R143, R151, R157). The SPARES_LOW records of the two devices are queued device 0 first: DESIGN CHOICE (log 11). -/
def State.loadDone (s : State) (pages : List (List Byte)) : State :=
  let page (i : Nat) : List Byte := (pages[i]?).getD []
  let s := (s.loadConfig (page 0) (page 1)).loadRemap (page 2 ++ page 3) (page 4 ++ page 5)
  let s := (s.sparesLowAtLoad .d0).sparesLowAtLoad .d1
  let s := (s.setMgp { s.mgp with staged := s.wd.live }).setSc { s.sc with step := some .headerRead }
  (s.setOp (some .headerRead)).muRequest (.read Config.headerPage 0 2)

/-! ### The header and the dump records (R151, R152) -/

/-- The bytes of dump page k that are kept: its records. -/
def dumpPageRead (k : Nat) (bytes : List Byte) : List Byte := bytes.take (if k = 0 then 216 else 240)

/-- Dump page k is read: page 8182 in lines 2-15, the others whole (R152). -/
def State.readDumpPage (s : State) (n : Nat) (crc : Word32) (bytes : List Byte) (k : Nat) : State :=
  (s.setOp (some (.recordRead n crc bytes k))).muRequest
    (if k = 0 then .read Config.headerPage 2 14 else .read (Config.headerPage + k) 0 16)

/-- The check of the records read (R152). -/
def State.recordsReport (s : State) (n : Nat) (crc : Word32) (bytes : List Byte) : HeaderReport :=
  let records := bytes.take (24 * n)
  if crc32 records = crc then
    match dumpRecordsOf (fun d => (s.dev d).state ≠ .absent) records n 1 with
    | some rs => .validGood rs
    | none => .validBad
  else .validBad

/-- The header has been read (R151, R152). -/
def State.headerRead (s : State) (bytes : List Byte) : State :=
  let code := field bytes 0 4
  let n := field bytes 4 1
  let s := s.setOp none
  if code = cleanCode then s.headerReported .clean
  else if code = openCode then s.headerReported .openDump
  else if code = validCode then
    if 1 ≤ n ∧ n ≤ 32 then s.readDumpPage n (BitVec.ofNat 32 (field bytes 8 4)) [] 0 else s.headerReported .validBad
  else s.headerReported .unrecognised

/-- A page of dump records has been read: the next one that record n requires is read, or the records are checked (R152). -/
def State.recordsRead (s : State) (n : Nat) (crc : Word32) (acc : List Byte) (k : Nat) (bytes : List Byte) : State :=
  let acc := acc ++ dumpPageRead k bytes
  if dumpPageFirst (k + 1) ≤ n ∧ k < 3 then s.readDumpPage n crc acc (k + 1)
  else (s.setOp none).headerReported (s.recordsReport n crc acc)

/-- A read of the unit has returned (R143, R151, R152). Outside BOOT nothing is handed on (R165). -/
def State.muReadEnds (s : State) (bytes : List Byte) : State :=
  if s.sc.state ≠ .boot then s.setOp none
  else
    match s.mu.op with
    | some (.load pages) =>
      let pages := pages ++ [bytes]
      match loadPages[pages.length]? with
      | some p => (s.setOp (some (.load pages))).muRequest (.read p 0 16)
      | none => s.loadDone pages
    | some .headerRead => s.headerRead bytes
    | some (.recordRead n crc acc k) => s.recordsRead n crc acc k bytes
    | _ => s

end Sys2Proof.Machine
end

