-- ==== Sys2Proof/Machine/Bus.lean ====
section
/-! DEFINITION. The memory port and the arbiter: grants, ends of transfers, status results, resets and the loss of a device. -/

namespace Sys2Proof.Machine

/-! ### Classes and eligibility (R135, R136) -/

/-- The transfers of the maintenance class (R135). -/
def Cmd.isMaintenance : Cmd → Bool
  | .suspend | .resume | .deviceReset | .readStatus => true
  | _ => false

/-- The class of a request, 1 the highest (R135). -/
def Request.grantClass (r : Request) : Nat :=
  match r.requester with
  | .port => 1
  | .hostRead | .fetch => 2
  | .probe => 3
  | .mu => if r.cmd.isMaintenance then 1 else 3
  | .engine => if r.cmd.isMaintenance then 1 else 4
  | .refill => 5

/-- Whether the read of a request has been answered SUSPENDED (R36, R136). -/
def State.isHeldRead (s : State) (r : Request) : Bool :=
  match r.requester with
  | .hostRead => s.rp.host.any (fun x => x.phase = .suspendHeld)
  | .fetch => s.rp.fetch.any (fun x => x.phase = .suspendHeld)
  | _ => false

/-- Whether a waiting request is eligible for a grant (R134, R136). -/
def State.eligible (s : State) (r : Request) : Bool :=
  s.mayQueue r &&
  (match (s.dev r.dev).activity with
   | .idle => r.cmd != .suspend && r.cmd != .resume && r.cmd != .readStatus
   | .programming => r.cmd = .readStatus || r.cmd = .suspend || r.cmd = .deviceReset
   | .suspended => r.cmd = .resume || r.cmd = .deviceReset || s.isHeldRead r
   | .resetting => r.cmd = .readStatus)

/-! ### Grants (R137, R138) -/

/-- The eligible requests in joining order. -/
def State.eligibles (s : State) : List Request := s.mp.reqs.filter s.eligible

/-- A request of class 3 or 4. -/
def Request.yielding (r : Request) : Bool := r.grantClass = 3 || r.grantClass = 4

/-- The arbiter's choice: the eligible request that joined first in the highest class that holds one; with the starvation
count at 8 a class 3 or 4 request takes the place of a class 2 choice (R137, R138). -/
def State.choice (s : State) : Option Request :=
  let first (k : Nat) : Option Request := s.eligibles.find? (fun r => r.grantClass = k)
  match first 1, first 2, s.eligibles.find? Request.yielding with
  | some r, _, _ => some r
  | none, some r, some q => if s.mp.starve = Config.starvationLimit then some q else some r
  | none, some r, none => some r
  | none, none, _ =>
    match first 3, first 4 with
    | some r, _ => some r
    | none, some r => some r
    | none, none => first 5

/-- The starvation count after a grant of `r` (R138). -/
def State.starveAfter (s : State) (r : Request) : Nat :=
  if r.grantClass = 2 then
    if s.eligibles.any Request.yielding then min (s.mp.starve + 1) Config.starvationLimit else 0
  else if r.yielding then 0
  else s.mp.starve

/-- A request is granted and its transfer starts (R120, R137). `cmd` are its fields as they stand at the grant. -/
def State.startTransfer (s : State) (r : Request) (cmd : Cmd) (home : Nat) (underSuspend : Bool) : State :=
  s.setMp { s.mp with
    reqs := s.mp.reqs.erase r
    starve := s.starveAfter r
    bus := some { req := { r with cmd := cmd }, home := home, underSuspend := underSuspend } }

/-- The number of lines of a read at its grant: 1 under suspend (R33, R36). -/
def grantLines (held : Bool) (n : Nat) : Nat := if held then 1 else n

/-- A grant (R137). A read whose page is found FAILED gives its grant back (R34, R40, R44); otherwise it takes the physical
page the live table names (R34). -/
def State.grantTo (s : State) (r : Request) : State :=
  let held := s.isHeldRead r
  match r.requester, r.cmd with
  | .hostRead, .read home line n =>
    if s.ru.isFailed r.dev home then s.closeHostRead.complete (some .failedPage) 0
    else
      let s := s.startTransfer r (.read (s.ru.physical r.dev home) line (grantLines held n)) home held
      s.setRp { s.rp with host := s.rp.host.map (fun h => { h with phase := .transfer }) }
  | .fetch, .read home line n =>
    if s.ru.isFailed r.dev home then s.closeFetch
    else
      let s := s.startTransfer r (.read (s.ru.physical r.dev home) line (grantLines held n)) home held
      s.setRp { s.rp with fetch := none }
  | .refill, .read home line n =>
    if s.ru.isFailed r.dev home then s.dropRefill (fun _ => true)
    else
      let s := s.startTransfer r (.read (s.ru.physical r.dev home) line n) home false
      s.setRp { s.rp with refill := none }
  | _, cmd => s.startTransfer r cmd 0 false

/-- With the bus free the arbiter makes a grant, if an eligible request waits (R137). -/
def State.grant (s : State) : Option State :=
  if s.mp.bus = none then s.choice.map s.grantTo else none

/-! ### The probe (R126, R127) -/

/-- With both resets settled: IDENTIFY to each device whose reset ended ready, device 0 first; then the report (R126). -/
def State.probeNext (s : State) : State :=
  match s.mp.probe with
  | some ⟨some a, some b⟩ =>
    if a then s.join ⟨.probe, .d0, .identify⟩
    else if b then s.join ⟨.probe, .d1, .identify⟩
    else s.probeReported
  | _ => s

/-- A reset of the probe is settled: ready, or its deadline ran out (R126). -/
def State.probeResetSettled (s : State) (d : Dev) (ready : Bool) : State :=
  match s.mp.probe with
  | none => s
  | some p => (s.setMp { s.mp with probe := some (p.set d (some ready)) }).probeNext

/-- An IDENTIFY answer: ONLINE when it is accepted (R127). -/
def State.identified (s : State) (d : Dev) (answer : BusAnswer) : State :=
  match s.mp.probe with
  | none => s
  | some p =>
    let s := if answer = .identity true 8192 then s.setDev d { s.dev d with state := .online } else s
    if d = .d0 ∧ p.d1 = some true then s.join ⟨.probe, .d1, .identify⟩ else s.probeReported

/-! ### Activities (R125, R128) -/

/-- The owner of the work a requester starts in a device (R124). -/
def Requester.owner : Requester → Owner
  | .mu => .mu
  | .probe => .probe
  | _ => .engine

/-- A device turns from idle or programming to something else: its ungranted refill is withdrawn (R40). -/
def State.turnBusy (s : State) (d : Dev) (r : DevRecord) : State := (s.setDev d r).dropRefill (fun l => l.dev = d)

/-- The transfer of a program has ended: the device is programming (R51, R125, R128, R130). -/
def State.programTaken (s : State) (q : Requester) (d : Dev) (page : Nat) (bytes : List (Option Byte)) : State :=
  let s := (s.nvmStart d page bytes).turnBusy d
    { s.dev d with
      activity := .programming, owner := some q.owner, page := some page, poll := some Config.pollInterval
      resetDeadline := none, muProgramTime := if q = .mu then some 0 else none }
  let s := s.forgetAsked d
  if q = .engine then s.programStarts d else s

/-- The transfer of a DEVICE_RESET has ended: the program is aborted and the device is resetting (R125, R126, R129). -/
def State.resetTaken (s : State) (q : Requester) (d : Dev) : State :=
  let s := (s.nvmSpoil d).turnBusy d
    { s.dev d with
      activity := .resetting, owner := some q.owner, page := none, poll := some Config.pollInterval
      resetDeadline := some Config.resetLimit, muProgramTime := none }
  if q = .probe ∧ d = .d0 ∧ s.mp.probe.isSome = true then s.join ⟨.probe, .d1, .deviceReset⟩ else s

/-- The device record when the device has nothing running any more (R124, R125). -/
def DevRecord.toIdle (r : DevRecord) : DevRecord :=
  { r with activity := .idle, owner := none, page := none, poll := none, resetDeadline := none, muProgramTime := none }

/-- The transfer of a RESUME has ended: the device programs on and is polled again (R58, R125, R128). -/
def State.resumeTaken (s : State) (d : Dev) : State :=
  if (s.dev d).activity = .suspended then
    (s.setDev d { s.dev d with activity := .programming, poll := some Config.pollInterval }).engineResumed d
  else s

/-! ### Status results (R52, R123, R128 to R131) -/

/-- The next poll falls due 10 µs from now (R128). -/
def State.pollAgain (s : State) (d : Dev) : State := s.setDev d { s.dev d with poll := some Config.pollInterval }

/-- A device reset has ended with ready before its deadline; the owner of the reset is told (R61, R126, R129, R130). -/
def State.resetCompletes (s : State) (d : Dev) : State :=
  let owner := (s.dev d).owner
  let s := s.setDev d (s.dev d).toIdle
  match owner with
  | some .engine => s.engineResetDone d
  | some .mu => s.muProgramEnds false
  | some .probe => s.probeResetSettled d true
  | none => s

/-- A ready result ends the program: the device is idle and its owner takes the completion (R52, R128, R130), unless a reset
of the device has already been ordered, which decides (R52, R130). -/
def State.programReady (s : State) (d : Dev) (pass : Bool) : State :=
  let owner := (s.dev d).owner
  let ordered := s.resetOrdered d
  let s := (if pass then s.nvmPass d else s.nvmSpoil d).setDev d (s.dev d).toIdle
  if ordered then s
  else
    match owner with
    | some .engine => s.programCompletes d pass
    | some .mu => s.muProgramEnds pass
    | _ => s

/-- A device reports the suspended status: measures stop, and the owner takes it (R57, R58, R131). With a reset of the device
ordered nothing more is requested. -/
def State.suspendedReported (s : State) (d : Dev) : State :=
  let owner := (s.dev d).owner
  let ordered := s.resetOrdered d
  let s := s.turnBusy d { s.dev d with activity := .suspended, poll := none }
  if ordered then s
  else
    match owner with
    | some .engine => s.deviceSuspends d
    | some .mu => s.join ⟨.port, d, .resume⟩
    | _ => s

/-- A poll has returned (R123, R128, R129, R131). A result that finds no program and no reset is dropped (R129). -/
def State.statusReturned (s : State) (d : Dev) (r : StatusResult) : State :=
  match (s.dev d).activity, r with
  | .programming, .readyPass => s.programReady d true
  | .programming, .readyFail => s.programReady d false
  | .programming, .suspended => s.suspendedReported d
  | .programming, _ => s.pollAgain d
  | .resetting, .readyPass => s.resetCompletes d
  | .resetting, .readyFail => s.resetCompletes d
  | .resetting, _ => s.pollAgain d
  | _, _ => s

/-- The status result in a device's answer; an answer that is none is no valid status (R123). -/
def answerStatus : BusAnswer → StatusResult
  | .status r => r
  | _ => .invalid

/-! ### Ends of transfers (R120) -/

/-- A READ of the read path has returned: the host read completes, the lines are filled, and a suspension is resumed (R38,
R39, R58). The lines are filled even when the page became FAILED while the read was on the bus, as R39 has it at every return,
though R95 says that no read fills them again: DESIGN CHOICE (log 43). -/
def State.readReturned (s : State) (t : Transfer) (page line n : Nat) : State :=
  let lines := (s.nvm.get t.req.dev).readLines page line n
  let s := if t.req.requester = .hostRead then s.deliverRead (lines.head?.getD []) else s
  let s := s.setRp { s.rp with lines := fillLines s.rp.lines t.req.dev t.home line lines }
  if t.underSuspend then s.readUnderSuspendEnds t.req.dev else s

/-- The retirement read has returned: the bytes become the old page image, and the flow enters RETIRE_PROGRAM (R89). -/
def State.retireReadReturned (s : State) (d : Dev) (bytes : List Byte) : State :=
  match s.ctx d with
  | none => s
  | some c => if c.phase = .retireRead then s.retireProgram d { c with image := some bytes } bytes else s

/-- The transfer on the bus ends and its outcome is handed to its requester (R120). -/
def State.transferEnds (s : State) (answer : BusAnswer) : State :=
  match s.mp.bus with
  | none => s
  | some t =>
    let s := s.setMp { s.mp with bus := none }
    let d := t.req.dev
    match t.req.cmd with
    | .read page line n =>
      match t.req.requester with
      | .engine => s.retireReadReturned d ((s.nvm.get d).readBytes page line n)
      | .mu => s.muReadEnds ((s.nvm.get d).readBytes page line n)
      | _ => s.readReturned t page line n
    | .programMasked page bytes => s.programTaken t.req.requester d page bytes
    | .programPage page bytes => s.programTaken t.req.requester d page (bytes.map some)
    | .readStatus => s.statusReturned d (answerStatus answer)
    | .suspend => s.suspendSent d
    | .resume => s.resumeTaken d
    | .deviceReset => s.resetTaken t.req.requester d
    | .identify => s.identified d answer

/-! ### The loss of a device (R133) -/

/-- A device is marked OFFLINE (R133): its record, its requests, the reads of it, its context, its entries with a pending
allocation, the fault record, and for device 0 the metadata unit, in that order. -/
def State.markOffline (s : State) (d : Dev) : State :=
  let s := s.setDev d { (s.dev d).toIdle with state := .offline }
  let s := s.readsOffline d
  let s := s.withdraw (fun r => r.dev = d)
  let s := s.setCtx d none
  let n := s.pwb.entries.countP (isOfDev d)
  let s := s.declareLost (isOfDev d)
  let s :=
    match s.pwb.waiting with
    | some w => if w.loc.dev = d then s.dropPending.complete (some .deviceUnavailable) 0 else s
    | none => s
  let s := s.postFault .deviceOffline (some d) none (some n)
  if d = .d0 then s.muOffline else s

/-- The reset deadline of a device runs out: ABSENT for a reset of the probe, OFFLINE otherwise (R126, R129). A poll that still
waits for its grant when the deadline of the probe's reset runs out stays in its queue: DESIGN CHOICE (log 34). -/
def State.resetExpires (s : State) (d : Dev) : State :=
  if (s.dev d).activity = .resetting then
    if (s.dev d).owner = some .probe then
      (s.setDev d { (s.dev d).toIdle with state := .absent }).probeResetSettled d false
    else s.markOffline d
  else s

/-! ### Polls and the metadata program time (R128, R130) -/

/-- A poll falls due and is requested in the maintenance class (R128). -/
def State.pollDue (s : State) (d : Dev) : State :=
  if (s.dev d).poll.isSome = true ∧ s.waits (isPollOf d) = false ∧ s.onBus (isPollOf d) = false then
    (s.setDev d { s.dev d with poll := some 0 }).join ⟨.port, d, .readStatus⟩
  else s

/-- A metadata program reaches 4 ms: PROGRAM_TIMEOUT is queued and device 0 is reset (R130). -/
def State.muProgramExpires (s : State) : State :=
  if (s.dev .d0).activity = .programming ∧ (s.dev .d0).owner = some .mu ∧ s.resetOrdered .d0 = false then
    let s := s.postFault .programTimeout (some .d0) (s.dev .d0).page none
    (s.setDev .d0 { s.dev .d0 with muProgramTime := some Config.programLimit }).join ⟨.mu, .d0, .deviceReset⟩
  else s

end Sys2Proof.Machine
end

