-- ==== Sys2Proof/Machine/Settle.lean ====
section
/-! DEFINITION. The steps that the rules place in the event of another step, and how a command is followed by them (log 1). -/

namespace Sys2Proof.Machine

/-! ### The steps, each with its condition -/

/-- A pending write takes a freed entry and is accepted (R10, R12). -/
def State.fillPending (s : State) : Option State :=
  match s.pwb.waiting with
  | none => none
  | some w => if s.occupancy < Config.bufferEntries then some (s.dropPending.allocateAndAccept w) else none

/-- The head of the fence queue has no entry at or below it left: it completes (R73). -/
def State.completeHead (s : State) : Option State :=
  match s.fu.queue with
  | [] => none
  | m :: ms =>
    if noneAtOrBelow s.pwb.entries m.marker then some ((s.setFu { s.fu with queue := ms }).markerDone m) else none

/-- No entry at or below the wait seq is left: the write-through access completes, with WT_INCOMPLETE for a lost flag (R79). -/
def State.completeWait (s : State) : Option State :=
  match s.fu.wait with
  | none => none
  | some w =>
    if noneAtOrBelow s.pwb.entries w.seq then
      some ((s.setFu { s.fu with wait := none }).complete (if w.lost then some .wtIncomplete else none) 0)
    else none

/-- A pending commit image is installed when no access is held (R117, R118). -/
def State.swap (s : State) : Option State :=
  match s.wd.image with
  | none => none
  | some t =>
    if s.heldPhase = none then
      let status : PersistStatus := if s.mu.config.fault then .failed else .pending
      some (((s.setWd { s.wd with live := t, image := none, change := s.wd.change + 1, persist := status }).setMu
        { s.mu with config := { s.mu.config with pending := true } }).setMgp
          { s.mgp with inHand := false, result := .done })
    else none

/-- Whether a context waits for a persist, stopped or not (R66, R94). -/
def Ctx.waitsPersist (c : Ctx) : Bool :=
  c.phase = .awaitPersist || (c.phase = .stopped && c.before = some .awaitPersist)

/-- The remap persist reported done includes the awaited change: the context ends (R66, R94, R96). -/
def State.endContext (s : State) (d : Dev) : Option State :=
  match s.ctx d, s.ru.reported with
  | some c, some n =>
    match c.awaited with
    | some a => if c.waitsPersist && atOrBelow a n then some (s.endByPersist d c) else none
    | none => none
  | _, _ => none

/-- A metadata fault of the remap kind has arisen while a context waits on a FAILED entry: its entries are declared LOST
(R96, R148). -/
def State.endByFault (s : State) (d : Dev) : Option State :=
  match s.ctx d with
  | some c =>
    if c.phase = .awaitPersist ∧ s.mu.remap.fault = true ∧ s.ru.isFailed d c.home = true then
      some (s.loseContext d c .retireFail)
    else none
  | none => none

/-- The end of the hold-up, when the part is quiet (R166, R167). -/
def State.holdupEnd (s : State) : Option State :=
  if s.sc.state = .holdup ∧ s.quiet = true then some s.holdupEnds else none

/-- The internal cold reset of STOPPED, when the part is quiet and the PFAIL view released (R165). -/
def State.stoppedReset (s : State) : Option State :=
  if s.sc.state = .stopped ∧ s.quiet = true ∧ s.sc.pfail = false then some s.internalReset else none

/-- With occupancy 0 in REPLAY the CLEAN write is asked for (R161). -/
def State.replayEnd (s : State) : Option State :=
  if s.sc.state = .replay ∧ s.occupancy = 0 ∧ s.mu.waiting = none ∧ s.mu.op ≠ some (.write .toClean 1) ∧
      s.mu.op ≠ some (.write .toClean 2) then some (s.askWrite .toClean)
  else none

/-- The internal cold reset at the end of RESTARTING: occupancy 0, the metadata unit idle, and no persist pending (R163). -/
def State.restartEnd (s : State) : Option State :=
  if s.sc.state = .restarting ∧ s.occupancy = 0 ∧ s.mu.op = none ∧ s.mu.config.pending = false ∧
      s.mu.remap.pending = false then some s.internalReset
  else none

/-! ### Following a command -/

/-- The steps in the order in which they are looked at (log 11). -/
def followSteps : List (State → Option State) :=
  [State.bootStarts, State.fillPending, State.completeHead, State.completeWait, State.swap,
   fun s => s.endContext .d0, fun s => s.endContext .d1, fun s => s.endByFault .d0, fun s => s.endByFault .d1,
   State.holdupEnd, State.stoppedReset, State.replayEnd, State.restartEnd,
   fun s => s.gather .d0, fun s => s.gather .d1, State.takeWrite, State.startPersist,
   State.hostAsks, State.fetchAsks, State.grant]

/-- The first of the steps whose condition holds. -/
def firstDue (steps : List (State → Option State)) (s : State) : Option State := steps.findSome? (fun f => f s)

/-- The state after at most `n` steps that are due, taken one after another until none is. -/
def settleFor : Nat → State → State
  | 0, s => s
  | n + 1, s =>
    match firstDue followSteps s with
    | some s' => settleFor n s'
    | none => s

/-- The state when every step of the same event has been made (log 1, log 25). -/
def State.settle (s : State) : State := settleFor Config.settleBound s

/-- An event reaches the part: its effect, followed by the steps of the same event. A part without supply or held in reset
takes no event (R175, R191). -/
def State.event (s : State) (f : State → State) : State := if s.alive then (f s).settle else s

/-- A step that a row names: made when its condition holds, and otherwise nothing (log 4). -/
def State.named (s : State) (f : State → Option State) : State := s.event (fun s => (f s).getD s)

/-! ### The passage of time (log 2) -/

/-- The seal deadline of an OPEN entry counts down (R15). -/
def Entry.tick (e : Entry) : Entry := { e with deadline := e.deadline.map (· - 1) }

/-- The stall time of a held access runs up to its limit (R104, R110). -/
def Access.tick (a : Access) : Access :=
  if a.phase = .complete then a else { a with stallTime := min (a.stallTime + 1) a.stallLimit }

/-- Program time runs while the device programs for the context, and the acknowledgement time after a SUSPEND (R55, R57). -/
def Ctx.tick (c : Ctx) (measured : Bool) : Ctx :=
  { c with
    programTime := if measured then min (c.programTime + 1) Config.programLimit else c.programTime
    ackTime := c.ackTime.map (fun t => min (t + 1) Config.ackLimit) }

/-- The poll interval and the reset deadline count down, and metadata program time runs while the device programs (R124,
R129, R130). -/
def DevRecord.tick (r : DevRecord) : DevRecord :=
  { r with
    poll := r.poll.map (· - 1)
    resetDeadline := r.resetDeadline.map (· - 1)
    muProgramTime :=
      if r.activity = .programming then r.muProgramTime.map (fun t => min (t + 1) Config.programLimit)
      else r.muProgramTime }

/-- One µs passes: every time measure that runs counts it. The running out of a measure is a command of its own. -/
def State.tick (s : State) : State :=
  let engine (d : Dev) : Engine := { s.de.get d with ctx := (s.ctx d).map (fun c => c.tick (s.programTimed d)) }
  let s' := s.setPwb { s.pwb with entries := s.pwb.entries.map Entry.tick }
  let s' := s'.setHp { s.hp with access := s.hp.access.map Access.tick }
  let s' := s'.setDe ⟨engine .d0, engine .d1⟩
  let s' := s'.setMp { s.mp with devs := ⟨(s.dev .d0).tick, (s.dev .d1).tick⟩ }
  s'.setFu { s.fu with levelTime := min (s.fu.levelTime + 1) 1 }

end Sys2Proof.Machine
end

