-- ==== Sys2Proof/Machine/FenceCommands.lean ====
section
/-! DEFINITION. Meanings of the commands of the fence unit: the FENCE line, marker completion and the PDONE pulses. -/

namespace Sys2Proof.Machine

/-- FENCE_LINE_RISING_EDGE (R70, R71). -/
def execFenceLineRisingEdge (s : State) : Host.Outcome State Fault Refusal := .next (s.event State.fenceArrival)

/-- MARKER_COMPLETION (R73). -/
def execMarkerCompletion (s : State) : Host.Outcome State Fault Refusal := .next (s.named State.completeHead)

/-- The high time of a pulse ends: PDONE is low and one pulse less is owed (R75). -/
def FenceUnit.pulseEnds (f : FenceUnit) : FenceUnit :=
  if f.high then { f with high := false, levelTime := 0, owed := f.owed - 1 } else f

/-- PDONE_PULSE_END (R75). -/
def execPdonePulseEnd (s : State) : Host.Outcome State Fault Refusal :=
  .next (s.event (fun s => s.setFu s.fu.pulseEnds))

/-- PDONE has been low for 1 µs: a pulse that is owed begins (R75). -/
def FenceUnit.lowTimeEnds (f : FenceUnit) : FenceUnit :=
  if f.high then f
  else if 0 < f.owed then { f with high := true, levelTime := 0 }
  else { f with levelTime := 1 }

/-- PDONE_PULSE_START (R75). -/
def execPdonePulseStart (s : State) : Host.Outcome State Fault Refusal :=
  .next (s.event (fun s => s.setFu s.fu.lowTimeEnds))

end Sys2Proof.Machine
end

