-- ==== Sys2Proof/Machine/HostCommands.lean ====
section
/-! DEFINITION. Meanings of the commands of the host bus and of the posted write buffer. -/

namespace Sys2Proof.Machine

/-! ### The arrival (R105 to R109) -/

/-- The bytes of a write on its named lanes, with 0 on a lane that is not named (R104, R105). -/
def namedLanes (even odd : Bool) (hd : Half) : Half :=
  (if even then hd &&& 0x00FF else 0) ||| (if odd then hd &&& 0xFF00 else 0)

/-- The record an arrival opens (R105). Its phase is set in the same event. -/
def newAccess (addr : BitVec 23) (even odd : Bool) (dir : Dir) (hd : Half) (limit : Nat) : Access :=
  { dir := dir, addr := addr, even := even, odd := odd
    wdata := if dir = .write then some (namedLanes even odd hd) else none
    loc := none, policy := none, phase := .heldRead, stallLimit := limit, stallTime := 0, err := false, rdata := 0 }

/-- The record is opened, with the stall limit in force (R105, R110). -/
def State.openAccess (s : State) (addr : BitVec 23) (even odd : Bool) (dir : Dir) (hd : Half) : State :=
  s.setHp { s.hp with access := some (newAccess addr even odd dir hd s.stallLimit) }

/-- The decode is written into the record's location and policy (R107). -/
def State.noteDecode (s : State) (x : Decoded) : State :=
  s.setHp { s.hp with access := s.hp.access.map (fun a => { a with loc := some x.loc, policy := some x.policy }) }

/-- The checks made after a match, in their order; the cause of the first that fails (R108). -/
def State.decodeRefusal (s : State) (x : Decoded) (dir : Dir) : Option Cause :=
  if !(s.dev x.loc.dev).takes then some .deviceUnavailable
  else
    match dir with
    | .read => none
    | .write =>
      if x.policy = .readOnly then some .readOnly
      else if (s.dev x.loc.dev).state = .writeLocked then some .writeRefused
      else if s.metadataFault then some .writeRefused
      else if s.ru.isFailed x.loc.dev x.loc.page then some .failedPage
      else none

/-- An access that passed the checks is handed to the read path or to the buffer (R109). -/
def State.handOn (s : State) (x : Decoded) (addr : BitVec 23) (even odd : Bool) (dir : Dir) (hd : Half) : State :=
  match dir with
  | .read => s.readArrives x.loc (lanePositions addr even odd)
  | .write => s.placeWrite { loc := x.loc, bytes := laneBytes addr even odd hd, wt := decide (x.policy = .writeThrough) }

/-- Decode, checks and handing on of an access in RUN that names a byte (R107 to R109). -/
def State.decodeAccess (s : State) (addr : BitVec 23) (even odd : Bool) (dir : Dir) (hd : Half) : State :=
  match s.wd.live.decode addr with
  | none => s.complete (some .noWindow) 0
  | some x =>
    let s := s.noteDecode x
    match s.decodeRefusal x dir with
    | some c => s.complete (some c) 0
    | none => s.handOn x addr even odd dir hd

/-- An access arrives, when a strobe is asserted and no record is held (R105). -/
def State.accessArrives (s : State) (ha : BitVec 22) (hbl hbh hrd hwr : Bool) (hd : Half) : State :=
  if s.hp.access.isSome || !(hrd || hwr) then s
  else
    let dir := arrivalDir hrd
    let s := s.openAccess (arrivalAddr ha hbl hbh) hbl hbh dir hd
    if s.sc.state ≠ .run then s.complete (some .notReady) 0
    else if !hbl && !hbh then s.complete none 0xFFFF
    else s.decodeAccess (arrivalAddr ha hbl hbh) hbl hbh dir hd

/-- HOST_ACCESS_ARRIVAL (R105 to R109). -/
def execHostAccessArrival (ha : BitVec 22) (hbl hbh hrd hwr : Bool) (hd : Half) (s : State) :
    Host.Outcome State Fault Refusal :=
  .next (s.event (fun s => s.accessArrives ha hbl hbh hrd hwr hd))

/-- PENDING_ALLOCATION_FILL (R10). -/
def execPendingAllocationFill (s : State) : Host.Outcome State Fault Refusal := .next (s.named State.fillPending)

/-! ### The release (R106, R111) -/

/-- The access is abandoned: ABANDONED is recorded and the record closes, without ERR and without a count (R111). -/
def State.abandon (s : State) (a : Access) : State :=
  let s := s.setHp { access := none, lastErr := some { cause := .abandoned, addr := a.addr, dir := a.dir } }
  match a.phase with
  | .heldBuffer => s.dropPending
  | .heldWt => s.setFu { s.fu with wait := none }
  | .heldRead => s.abandonRead
  | .complete => s

/-- The host releases the strobe or /HCS (R106, R111). -/
def State.strobeReleased (s : State) : State :=
  match s.hp.access with
  | none => s
  | some a => if a.phase = .complete then s.setHp { s.hp with access := none } else s.abandon a

/-- HOST_STROBE_RELEASE (R106, R111). -/
def execHostStrobeRelease (s : State) : Host.Outcome State Fault Refusal := .next (s.event State.strobeReleased)

/-! ### The stall limit (R110) -/

/-- The access has reached its stall limit: it completes with STALL_TIMEOUT (R110). -/
def State.timeoutAccess (s : State) (a : Access) : State :=
  ((s.setHp { s.hp with access := some { a with stallTime := a.stallLimit } }).complete (some .stallTimeout) 0).count
    .stallTimeouts 1

/-- The stall limit of a held access expires, and the holding block is told (R43, R80, R110). -/
def State.stallExpires (s : State) : State :=
  match s.hp.access with
  | none => s
  | some a =>
    match a.phase with
    | .complete => s
    | .heldBuffer =>
      ((s.timeoutAccess a).dropPending).postFault .stallDiscard (a.loc.map Loc.dev) (a.loc.map Loc.page) none
    | .heldWt =>
      let s := s.timeoutAccess a
      s.setFu { s.fu with wait := none }
    | .heldRead => (s.timeoutAccess a).closeHostRead

/-- STALL_LIMIT_EXPIRY (R110). -/
def execStallLimitExpiry (s : State) : Host.Outcome State Fault Refusal := .next (s.event State.stallExpires)

/-! ### The buffer and the swap -/

/-- SEAL_DEADLINE_EXPIRY (R15): the OPEN entry with this sequence number is sealed. -/
def execSealDeadlineExpiry (seq : Word32) (s : State) : Host.Outcome State Fault Refusal :=
  .next (s.event (fun s => s.sealWhere (fun e => e.seq = seq)))

/-- COMMIT_SWAP (R117). -/
def execCommitSwap (s : State) : Host.Outcome State Fault Refusal := .next (s.named State.swap)

/-- WRITE_THROUGH_COMPLETION (R79). -/
def execWriteThroughCompletion (s : State) : Host.Outcome State Fault Refusal := .next (s.named State.completeWait)

end Sys2Proof.Machine
end

