-- ==== Sys2Proof/Machine/Port.lean ====
section
/-! DEFINITION. The management port: codes and bytes of the map, requests, writes and reads of a byte, and transactions. -/

namespace Sys2Proof.Machine

/-! ### Codes (R189) -/

def OpState.code : OpState → Byte
  | .boot => 0
  | .replay => 1
  | .run => 2
  | .restarting => 3
  | .holdup => 4
  | .dumping => 5
  | .dumped => 6
  | .stopped => 7
  | .halted => 8

def DevState.code : DevState → Byte
  | .absent => 0
  | .online => 1
  | .writeLocked => 2
  | .offline => 3

def ReqResult.code : ReqResult → Byte
  | .none => 0
  | .done => 1
  | .accepted => 2
  | .busy => 3
  | .refusedState => 4
  | .invalidArgument => 5
  | .hostRange => 6
  | .memoryRange => 7
  | .deviceAbsent => 8
  | .hostOverlap => 9
  | .memoryOverlap => 10

def FaultKind.code : FaultKind → Byte
  | .programFail => 1
  | .programTimeout => 2
  | .retireFail => 3
  | .retiredOnRequest => 4
  | .sparesLow => 5
  | .deviceWriteLocked => 6
  | .deviceOffline => 7
  | .metadataWrite => 8
  | .metaDefaulted => 9
  | .stallDiscard => 10
  | .dumpIncomplete => 11
  | .dumpCrc => 12
  | .dumpFailed => 13
  | .dumpImpossible => 14

def Cause.code : Cause → Byte
  | .notReady => 1
  | .noWindow => 2
  | .readOnly => 3
  | .deviceUnavailable => 4
  | .writeRefused => 5
  | .failedPage => 6
  | .stallTimeout => 7
  | .wtIncomplete => 8
  | .abandoned => 9

def Dir.code : Dir → Byte
  | .read => 0
  | .write => 1

/-! ### Read-only fields of several bytes (R177, R189) -/

/-- The remap view: the entry at the selected index, or none (R184). -/
def State.remapView (s : State) : List Byte :=
  match s.ru.table[s.mgp.remapIndex]? with
  | some e => e.toBytes
  | none => [0, 0, 0, 0, 0, 0]

/-- The bytes of a fault record in the view; an absent field reads 0 (R189). Bits 7-3 of the presence byte read 0: DESIGN CHOICE
(log 18). -/
def FaultRecord.toBytes (r : FaultRecord) : List Byte :=
  let present : Byte :=
    (if r.dev.isSome then 1 else 0) ||| (if r.page.isSome then 2 else 0) ||| (if r.count.isSome then 4 else 0)
  [r.kind.code, present, (r.dev.map devByte).getD 0, 0] ++ le16 (r.page.getD 0) ++ le16 (r.count.getD 0) ++
    le16 r.number.toNat

/-- The fault view (R183). -/
def State.faultView (s : State) : List Byte :=
  match s.mgp.view with
  | some r => r.toBytes
  | none => [0, 0, 0, 0, 0, 0, 0, 0, 0, 0]

/-- The last-host-error record (R113). -/
def State.hostErrorView (s : State) : List Byte :=
  match s.hp.lastErr with
  | some e => [e.cause.code, e.dir.code] ++ le16 e.addr.toNat ++ [BitVec.ofNat 8 (e.addr.toNat / 65536)]
  | none => [0, 0, 0, 0, 0]

/-- The counters in the order of the map (R189). -/
def Counters.list (c : Counters) : List Word32 :=
  [c.writesAccepted, c.writesMerged, c.programsCompleted, c.retirements, c.entriesLost, c.stallTimeouts,
   c.errCompletions, c.fencesCompleted]

/-- The snapshot field an index belongs to: the index of its first byte and its length (R177, R189). -/
def snapshotField (i : Nat) : Option (Nat × Nat) :=
  if 0x10 ≤ i ∧ i ≤ 0x15 then some (0x10, 6)
  else if 0x18 ≤ i ∧ i ≤ 0x21 then some (0x18, 10)
  else if 0x24 ≤ i ∧ i ≤ 0x28 then some (0x24, 5)
  else if 0x40 ≤ i ∧ i ≤ 0x5F then some (i / 4 * 4, 4)
  else if 0xB0 ≤ i ∧ i ≤ 0xEF then some (i / 8 * 8, 8)
  else if 0xF0 ≤ i ∧ i ≤ 0xF5 then some (0xF0, 6)
  else none

/-- What a snapshot field holds, by the index of its first byte (R177). -/
def State.snapshotBytes (s : State) (first : Nat) : List Byte :=
  if first = 0x10 then s.remapView
  else if first = 0x18 then s.faultView
  else if first = 0x24 then s.hostErrorView
  else if first < 0x60 then le32 ((s.mgp.counters.list[(first - 0x40) / 4]?).getD 0).toNat
  else if first < 0xF0 then (s.wd.live.toBytes.drop (first - 0xB0)).take 8
  else s.wd.live.params.toBytes

/-! ### Fields of one byte, and the staged fields (R178, R189) -/

/-- The device states byte. -/
def State.deviceStates (s : State) : Byte := (s.dev .d0).state.code ||| ((s.dev .d1).state.code <<< 2)

/-- A staged byte, by its place in the table's 70 bytes. -/
def Table.byte (t : Table) (i : Nat) : Byte := (t.toBytes[i]?).getD 0

/-- The byte at an index that belongs to no snapshot field; 0 where no field stands (R189). The bits that no field names in the
bytes 0x01, 0x02, 0x07, 0x08 and 0x0E read 0: DESIGN CHOICE (log 18). -/
def State.plainByte (s : State) (i : Nat) : Byte :=
  match i with
  | 0x00 => s.sc.state.code
  | 0x01 => s.deviceStates
  | 0x02 => s.statusByte
  | 0x03 => BitVec.ofNat 8 s.occupancy
  | 0x04 => BitVec.ofNat 8 s.fu.queue.length
  | 0x05 => BitVec.ofNat 8 (s.ru.free.get .d0).length
  | 0x06 => BitVec.ofNat 8 (s.ru.free.get .d1).length
  | 0x07 => s.mgp.eventFlags.setWidth 8
  | 0x08 => s.mgp.enables.setWidth 8
  | 0x09 => s.mgp.arg1
  | 0x0A => s.mgp.arg2.setWidth 8
  | 0x0B => (s.mgp.arg2 >>> 8).setWidth 8
  | 0x0C => s.mgp.code
  | 0x0D => s.mgp.result.code
  | 0x0E => if s.mgp.inHand then 1 else 0
  | 0x0F => BitVec.ofNat 8 s.mgp.remapIndex
  | n => if 0x60 ≤ n ∧ n ≤ 0xA5 then s.mgp.staged.byte (n - 0x60) else 0

/-- The byte of the map at an index, as its owner holds it now (R178, R189). -/
def State.mapByte (s : State) (i : Nat) : Byte :=
  match snapshotField i with
  | some (first, _) => ((s.snapshotBytes first)[i - first]?).getD 0
  | none => s.plainByte i

/-! ### Requests (R180, R181) -/

/-- The result of a request (R180). -/
def State.setResult (s : State) (r : ReqResult) : State := s.setMgp { s.mgp with result := r }

/-- A request event: the code is kept, and with a request in hand the new one is refused with BUSY; otherwise it is taken
(R180). -/
def State.request (s : State) (code : Byte) (take : State → State) : State :=
  let s := s.setMgp { s.mgp with code := code }
  if s.mgp.inHand then s.setResult .busy else take s

/-- The checks 3 to 5 of a COMMIT on one enabled window (R116). -/
def State.windowRefusal (s : State) (w : WindowRecord) : Option ReqResult :=
  if !w.hostFits then some .hostRange
  else if !w.memoryFits then some .memoryRange
  else
    match w.device? with
    | some d => if (s.dev d).state = .absent then some .deviceAbsent else none
    | none => none

/-- The checks of a COMMIT, in their order; the result of the first that fails (R116). -/
def State.commitRefusal (s : State) : Option ReqResult :=
  let t := s.mgp.staged
  if s.sc.state ≠ .run then some .refusedState
  else if !t.inRange then some .invalidArgument
  else
    match t.enabledWindows.findSome? s.windowRefusal with
    | some r => some r
    | none =>
      if anyPair hostMeet t.enabledWindows then some .hostOverlap
      else if anyPair memoryMeet t.enabledWindows then some .memoryOverlap
      else none

/-- COMMIT: the staged table becomes the commit image, which is installed at once when no access is held (R116, R117). -/
def State.takeCommit (s : State) : State :=
  match s.commitRefusal with
  | some r => s.setResult r
  | none =>
    let s := (s.setWd { s.wd with image := some s.mgp.staged }).setMgp { s.mgp with result := .accepted, inHand := true }
    (s.swap).getD s

/-- FENCE: DONE when the fence completes at its arrival, ACCEPTED when it is queued or merged (R70, R181). -/
def State.takeFence (s : State) : State :=
  (s.setResult (if s.fenceDoneAtOnce then .done else .accepted)).fenceArrival

/-- RESTART (R163). -/
def State.takeRestart (s : State) : State :=
  if s.sc.state = .run ∧ s.metadataFault = false then (s.setResult .accepted).enterRestarting
  else s.setResult .refusedState

/-- The device and page that a RETIRE_PAGE names, if they are a device and one of its user pages (R99). -/
def ManagementPort.retireTarget (m : ManagementPort) : Option (Dev × Nat) :=
  match devOfNat m.arg1.toNat with
  | some d => if isUserPage d m.arg2.toNat then some (d, m.arg2.toNat) else none
  | none => none

/-- The engine takes a RETIRE_PAGE request: a retire gather, a context, and the retirement flow (R63, R100). -/
def State.retireOnRequest (s : State) (d : Dev) (page : Nat) : State :=
  let set := gatheredSet s.pwb.entries d page
  let c := newCtx page (s.ru.physical d page) .retireRequest .retireRead set
  ((s.setResult .accepted).gatherPage d page).retireRead d c false

/-- RETIRE_PAGE, with its checks in their order (R99). -/
def State.takeRetirePage (s : State) : State :=
  if s.sc.state ≠ .run then s.setResult .refusedState
  else
    match s.mgp.retireTarget with
    | none => s.setResult .invalidArgument
    | some (d, page) =>
      if (s.dev d).state ≠ .online then s.setResult .refusedState
      else if s.mu.remap.fault then s.setResult .refusedState
      else if s.ru.isFailed d page then s.setResult .refusedState
      else if (s.ctx d).isSome then s.setResult .busy
      else s.retireOnRequest d page

/-- POP_FAULT: the oldest record goes to the fault view (R183). -/
def State.takePopFault (s : State) : State :=
  s.setMgp { s.mgp with view := s.mgp.faults.head?, faults := s.mgp.faults.tail, result := .done }

/-- SELECT_REMAP (R184). -/
def State.takeSelectRemap (s : State) : State :=
  if s.mgp.arg2.toNat ≤ 71 then s.setMgp { s.mgp with remapIndex := s.mgp.arg2.toNat, result := .done }
  else s.setResult .invalidArgument

/-- CLEAR_COUNTERS (R185). -/
def State.takeClearCounters (s : State) : State :=
  s.setMgp { s.mgp with counters := Counters.zero, result := .done }

/-- CLEAR_STATUS: bit 0 selects FENCE_LOSS and bit 1 FAULT_OVERFLOW (R186, R189). -/
def State.takeClearStatus (s : State) : State :=
  let a := s.mgp.arg1
  if 1 ≤ a.toNat ∧ a.toNat ≤ 3 then
    s.setMgp { s.mgp with
      fenceLoss := s.mgp.fenceLoss && !a.getLsbD 0
      overflow := s.mgp.overflow && !a.getLsbD 1
      result := .done }
  else s.setResult .invalidArgument

/-- What a request code asks for; a code that names no request is answered with INVALID_ARGUMENT (R180, R189). -/
def State.takeCode (s : State) (code : Byte) : State :=
  match code.toNat with
  | 1 => s.takeCommit
  | 2 => s.takeFence
  | 3 => s.takeRestart
  | 4 => s.takeRetirePage
  | 5 => s.takePopFault
  | 6 => s.takeSelectRemap
  | 7 => s.takeClearCounters
  | 8 => s.takeClearStatus
  | _ => s.setResult .invalidArgument

/-- The event of writing the request code byte (R180). -/
def State.requestEvent (s : State) (code : Byte) : State := s.request code (fun s => s.takeCode code)

/-! ### A byte written at an index (R176, R179, R180, R187, R189) -/

/-- The staged table with one of its bytes replaced (R179). -/
def Table.setByte (t : Table) (i : Nat) (b : Byte) : Table := Table.ofBytes (t.toBytes.set i b)

/-- A byte written at the remap view index: 0 to 71 sets the index, and any other value is ignored (R189). -/
def ManagementPort.writeRemapIndex (m : ManagementPort) (b : Byte) : ManagementPort :=
  if b.toNat ≤ 71 then { m with remapIndex := b.toNat } else m

/-- A byte written at the event enables; the four enables are held (R187; log 18). -/
def ManagementPort.writeEnables (m : ManagementPort) (b : Byte) : ManagementPort := { m with enables := b.setWidth 4 }

/-- A byte written to the map at an index; a read-only field, and an index of no field, ignore it (R176). -/
def State.writeMap (s : State) (i : Nat) (b : Byte) : State :=
  match i with
  | 0x07 => s.setMgp (s.mgp.writeEventFlags b)
  | 0x08 => s.setMgp (s.mgp.writeEnables b)
  | 0x09 => s.setMgp { s.mgp with arg1 := b }
  | 0x0A => s.setMgp { s.mgp with arg2 := (s.mgp.arg2 &&& 0xFF00) ||| b.setWidth 16 }
  | 0x0B => s.setMgp { s.mgp with arg2 := (s.mgp.arg2 &&& 0x00FF) ||| (b.setWidth 16 <<< 8) }
  | 0x0C => s.requestEvent b
  | 0x0F => s.setMgp (s.mgp.writeRemapIndex b)
  | n => if 0x60 ≤ n ∧ n ≤ 0xA5 then s.setMgp { s.mgp with staged := s.mgp.staged.setByte (n - 0x60) b } else s

/-- The index advances by one, modulo 256, and the byte is acknowledged (R176). -/
def State.advance (s : State) : State := s.setMgp { s.mgp with index := s.mgp.index + 1, acked := true }

/-- A byte that a command names by its field advances the index when it is the byte a write transaction stands at
(log 17). -/
def State.advanceAt (s : State) (i : Byte) : State := if s.mgp.tx = .writing ∧ s.mgp.index = i then s.advance else s

/-- A byte written in a write transaction, at the current index (R176). -/
def State.byteWritten (s : State) (b : Byte) : State :=
  if s.mgp.tx = .writing then (s.writeMap s.mgp.index.toNat b).advance else s

/-! ### Transactions (R176, R177) -/

/-- A start or repeated start with its address byte: the captures are released, and the port answers its own address. No byte
has been driven in the new transaction. -/
def ManagementPort.start (m : ManagementPort) (b : Byte) : ManagementPort :=
  if (b >>> 1).setWidth 7 = m.target then
    { m with captures := [], readByte := none, acked := true, tx := if b.getLsbD 0 then .reading else .writeIndex }
  else { m with captures := [], readByte := none, acked := false, tx := .idle }

/-- The first data byte of a write transaction sets the index (R176). -/
def ManagementPort.setIndex (m : ManagementPort) (b : Byte) : ManagementPort :=
  if m.tx = .writeIndex then { m with index := b, tx := .writing, acked := true } else m

/-- A stop: the captures are released (R177). -/
def ManagementPort.stop (m : ManagementPort) : ManagementPort := { m with tx := .idle, captures := [] }

/-- The captures with the field's one taken afresh (R177). -/
def capture (l : List Capture) (c : Capture) : List Capture := c :: l.filter (fun x => x.first ≠ c.first)

/-- The captures after a read at an index: the first byte of a snapshot field captures the field (R177). -/
def State.capturesAt (s : State) (i : Nat) : List Capture :=
  match snapshotField i with
  | some (first, _) =>
    if i = first then capture s.mgp.captures { first := first, bytes := s.snapshotBytes first } else s.mgp.captures
  | none => s.mgp.captures

/-- The byte read at an index, with the captures that stand: from the field's capture, or as the field is now (R177). -/
def State.byteFrom (s : State) (captures : List Capture) (i : Nat) : Byte :=
  match snapshotField i with
  | some (first, _) =>
    match captures.find? (fun c => c.first = first) with
    | some c => (c.bytes[i - first]?).getD 0
    | none => s.mapByte i
  | none => s.mapByte i

/-- One byte is read in a read transaction, at the current index, which advances (R176, R177). A byte that the controller
leaves unacknowledged is the last of the transaction (R176); the captures stand until its stop (R177). -/
def State.byteRead (s : State) (ack : Bool) : State :=
  if s.mgp.tx = .reading then
    let i := s.mgp.index.toNat
    let captures := s.capturesAt i
    s.setMgp { s.mgp with
      captures := captures, readByte := some (s.byteFrom captures i), index := s.mgp.index + 1
      tx := if ack then .reading else .ended }
  else s

end Sys2Proof.Machine
end

