-- ==== Sys2Proof/Machine/MapCommands.lean ====
section
/-! DEFINITION. Meanings of the commands of the I2C transactions and of the fields written by name. -/

namespace Sys2Proof.Machine

/-- EVENT_FLAGS_WRITE (R187). -/
def execEventFlagsWrite (b : Byte) (s : State) : Host.Outcome State Fault Refusal :=
  .next (s.event (fun s => (s.setMgp (s.mgp.writeEventFlags b)).advanceAt 0x07))

/-- EVENT_ENABLES_WRITE (R187). -/
def execEventEnablesWrite (b : Byte) (s : State) : Host.Outcome State Fault Refusal :=
  .next (s.event (fun s => (s.setMgp (s.mgp.writeEnables b)).advanceAt 0x08))

/-- REMAP_VIEW_INDEX_WRITE (R189). -/
def execRemapViewIndexWrite (b : Byte) (s : State) : Host.Outcome State Fault Refusal :=
  .next (s.event (fun s => (s.setMgp (s.mgp.writeRemapIndex b)).advanceAt 0x0F))

/-- MAP_BYTE_WRITE (R176). -/
def execMapByteWrite (b : Byte) (s : State) : Host.Outcome State Fault Refusal :=
  .next (s.event (fun s => s.byteWritten b))

/-- INDEX_SET (R176). -/
def execIndexSet (b : Byte) (s : State) : Host.Outcome State Fault Refusal :=
  .next (s.event (fun s => s.setMgp (s.mgp.setIndex b)))

/-- SNAPSHOT_CAPTURE (R177): one byte is read at the current index, and the controller acknowledges it or not (R176; log 16). -/
def execSnapshotCapture (s : State) (ack : Bool := true) : Host.Outcome State Fault Refusal :=
  .next (s.event (fun s => s.byteRead ack))

/-- TRANSACTION_END (R177). -/
def execTransactionEnd (s : State) : Host.Outcome State Fault Refusal :=
  .next (s.event (fun s => s.setMgp s.mgp.stop))

/-- TRANSACTION_START (R176). -/
def execTransactionStart (b : Byte) (s : State) : Host.Outcome State Fault Refusal :=
  .next (s.event (fun s => s.setMgp (s.mgp.start b)))

end Sys2Proof.Machine
end

