-- ==== Sys2Proof/Machine/MemoryCommands.lean ====
section
/-! DEFINITION. Meanings of the commands of the memory bus, the drain engines and the metadata unit. -/

namespace Sys2Proof.Machine

/-- ARBITER_GRANT (R137). -/
def execArbiterGrant (s : State) : Host.Outcome State Fault Refusal := .next (s.named State.grant)

/-- MEMORY_TRANSFER_END (R120). -/
def execMemoryTransferEnd (answer : BusAnswer) (s : State) : Host.Outcome State Fault Refusal :=
  .next (s.event (fun s => s.transferEnds answer))

/-- STATUS_POLL_DUE (R128). -/
def execStatusPollDue (d : Dev) (s : State) : Host.Outcome State Fault Refusal := .next (s.event (fun s => s.pollDue d))

/-- SUSPEND_ACK_LIMIT_EXPIRY (R57). -/
def execSuspendAckLimitExpiry (d : Dev) (s : State) : Host.Outcome State Fault Refusal :=
  .next (s.event (fun s => s.ackExpires d))

/-- PROGRAM_TIME_LIMIT_EXPIRY (R60). -/
def execProgramTimeLimitExpiry (d : Dev) (s : State) : Host.Outcome State Fault Refusal :=
  .next (s.event (fun s => s.programExpires d))

/-- METADATA_PROGRAM_TIME_EXPIRY (R130). -/
def execMetadataProgramTimeExpiry (s : State) : Host.Outcome State Fault Refusal := .next (s.event State.muProgramExpires)

/-- RESET_DEADLINE_EXPIRY (R129). -/
def execResetDeadlineExpiry (d : Dev) (s : State) : Host.Outcome State Fault Refusal :=
  .next (s.event (fun s => s.resetExpires d))

/-- DRAIN_GATHER (R48). -/
def execDrainGather (d : Dev) (s : State) : Host.Outcome State Fault Refusal := .next (s.named (fun s => s.gather d))

/-- PERSIST_DONE_CONTEXT_END (R94). -/
def execPersistDoneContextEnd (d : Dev) (s : State) : Host.Outcome State Fault Refusal :=
  .next (s.named (fun s => s.endContext d))

/-- PERSIST_START (R146). -/
def execPersistStart (s : State) : Host.Outcome State Fault Refusal := .next (s.named State.startPersist)

/-- WRITE_REQUEST_TAKEN (R153). -/
def execWriteRequestTaken (s : State) : Host.Outcome State Fault Refusal := .next (s.named State.takeWrite)

end Sys2Proof.Machine
end

