-- ==== Sys2Proof/Machine/PowerCommands.lean ====
section
/-! DEFINITION. Meanings of the commands of PFAIL, /RESET and the supplies, and of the ends of hold-up, replay and restart. -/

namespace Sys2Proof.Machine

/-! ### PFAIL (R156) -/

/-- The PFAIL view takes a level (R156). -/
def State.setPfail (s : State) (level : Bool) : State := s.setSc { s.sc with pfail := level }

/-- PFAIL has risen: the view is set, and the part acts by its state (R156). -/
def State.pfailRises (s : State) : State :=
  let s := s.setPfail true
  match s.sc.state with
  | .boot | .replay => s.enterStopped
  | .run | .restarting => s.enterHoldup
  | .holdup | .dumping | .dumped | .stopped | .halted => s

/-- PFAIL has fallen: the view is set, and in DUMPED the return begins, unless its write is in hand already (R156, R172). In
STOPPED the part acts when it is quiet (R165). -/
def State.pfailFalls (s : State) : State :=
  let s := s.setPfail false
  match s.sc.state with
  | .dumped => if s.sc.returnWrite then s else s.beginReturn
  | .boot | .replay | .run | .restarting | .holdup | .dumping | .stopped | .halted => s

/-- The level of the PFAIL line. -/
def State.pfailLine (s : State) (level : Bool) : State := s.setPins { s.pins with pfail := level }

/-- PFAIL_ASSERT (R156): an event only where the level changes. While /RESET is asserted the line's level alone changes
(R191). -/
def execPfailAssert (s : State) : Host.Outcome State Fault Refusal :=
  .next (if s.pins.pfail then s.event id else (s.pfailLine true).event State.pfailRises)

/-- PFAIL_RELEASE (R156). -/
def execPfailRelease (s : State) : Host.Outcome State Fault Refusal :=
  .next (if s.pins.pfail then (s.pfailLine false).event State.pfailFalls else s.event id)

/-- HOLDUP_END (R167). -/
def execHoldupEnd (s : State) : Host.Outcome State Fault Refusal := .next (s.named State.holdupEnd)

/-- STOPPED_QUIET_RESET (R165). -/
def execStoppedQuietReset (s : State) : Host.Outcome State Fault Refusal := .next (s.named State.stoppedReset)

/-! ### /RESET and the supplies (R171, R175, R176, R191) -/

/-- /RESET is asserted: every block takes its values after cold reset and keeps them. -/
def State.resetAsserted (s : State) : State := (s.setPins { s.pins with reset := true }).coldReset

/-- RESET_ASSERT (R175): a part without supply has only the line's level. -/
def execResetAssert (s : State) : Host.Outcome State Fault Refusal :=
  .next (if !s.pins.powered then s.setPins { s.pins with reset := true }
    else if s.pins.reset then s
    else s.resetAsserted)

/-- /RESET is released: MADR is sampled, the blocks hold their values after cold reset, and boot may begin (R175, R176).
PDONE has been low throughout (R191). -/
def State.resetReleased (s : State) (madr : Bool) : State :=
  ((s.setPins { s.pins with reset := false, madr := madr }).coldReset).setFu FenceUnit.reset

/-- RESET_RELEASE (R175). -/
def execResetRelease (madr : Bool) (s : State) : Host.Outcome State Fault Refusal :=
  .next (if !s.pins.reset then s.event id
    else if !s.pins.powered then s.setPins { s.pins with reset := false, madr := madr }
    else (s.resetReleased madr).settle)

/-- The supplies go: a program running in a device is cut off, and every block's state is lost (R121, R171). -/
def State.supplyLost (s : State) : State :=
  ((((s.nvmSpoil .d0).nvmSpoil .d1).setPins { s.pins with powered := false }).coldReset).setFu FenceUnit.reset

/-- The supplies are up and CLKIN runs: every block has its value after cold reset (R175, R191). -/
def State.supplyUp (s : State) (pfail madr : Bool) : State :=
  ((s.setPins { powered := true, reset := s.pins.reset, pfail := pfail, madr := madr }).coldReset).setFu FenceUnit.reset

/-- POWER_UP (R175): a part that has its supplies loses them first (log 10). -/
def execPowerUp (pfail madr : Bool) (s : State) : Host.Outcome State Fault Refusal :=
  let s := if s.pins.powered then s.supplyLost else s
  .next ((s.supplyUp pfail madr).event id)

/-- POWER_LOSS (R171). -/
def execPowerLoss (s : State) : Host.Outcome State Fault Refusal := .next (if s.pins.powered then s.supplyLost else s)

/-! ### Replay and restart -/

/-- REPLAY_END (R161). -/
def execReplayEnd (s : State) : Host.Outcome State Fault Refusal := .next (s.named State.replayEnd)

/-- RESTART_END (R163). -/
def execRestartEnd (s : State) : Host.Outcome State Fault Refusal := .next (s.named State.restartEnd)

end Sys2Proof.Machine
end

