-- ==== Sys2Proof/Machine/RequestCommands.lean ====
section
/-! DEFINITION. Meanings of the management requests: each is the writing of its code at the request code byte (R180). -/

namespace Sys2Proof.Machine

/-- COMMIT (R116). -/
def execCommit (s : State) : Host.Outcome State Fault Refusal :=
  .next (s.event (fun s => (s.request 1 State.takeCommit).advanceAt 0x0C))

/-- FENCE (R70). -/
def execFence (s : State) : Host.Outcome State Fault Refusal :=
  .next (s.event (fun s => (s.request 2 State.takeFence).advanceAt 0x0C))

/-- RESTART (R163). -/
def execRestart (s : State) : Host.Outcome State Fault Refusal :=
  .next (s.event (fun s => (s.request 3 State.takeRestart).advanceAt 0x0C))

/-- RETIRE_PAGE (R99). -/
def execRetirePage (s : State) : Host.Outcome State Fault Refusal :=
  .next (s.event (fun s => (s.request 4 State.takeRetirePage).advanceAt 0x0C))

/-- POP_FAULT (R183). -/
def execPopFault (s : State) : Host.Outcome State Fault Refusal :=
  .next (s.event (fun s => (s.request 5 State.takePopFault).advanceAt 0x0C))

/-- SELECT_REMAP (R184). -/
def execSelectRemap (s : State) : Host.Outcome State Fault Refusal :=
  .next (s.event (fun s => (s.request 6 State.takeSelectRemap).advanceAt 0x0C))

/-- CLEAR_COUNTERS (R185). -/
def execClearCounters (s : State) : Host.Outcome State Fault Refusal :=
  .next (s.event (fun s => (s.request 7 State.takeClearCounters).advanceAt 0x0C))

/-- CLEAR_STATUS (R186). -/
def execClearStatus (s : State) : Host.Outcome State Fault Refusal :=
  .next (s.event (fun s => (s.request 8 State.takeClearStatus).advanceAt 0x0C))

/-- UNKNOWN_REQUEST_CODE (R180): the code written, which names no request in a well-formed command. -/
def execUnknownRequestCode (code : Byte) (s : State) : Host.Outcome State Fault Refusal :=
  .next (s.event (fun s => (s.requestEvent code).advanceAt 0x0C))

end Sys2Proof.Machine
end

