-- ==== Sys2Proof/Machine/Dispatch.lean ====
section
/-! DEFINITION. The meaning of every command, by name. -/

namespace Sys2Proof.Machine

/-- The effect of a command on everything but the queue. -/
def exec (i : Instr) (s : State) : Host.Outcome State Fault Refusal :=
  match i with
  | .hostAccessArrival ha hbl hbh hrd hwr hd => Sys2Proof.Machine.execHostAccessArrival ha hbl hbh hrd hwr hd s
  | .pendingAllocationFill => Sys2Proof.Machine.execPendingAllocationFill s
  | .hostStrobeRelease => Sys2Proof.Machine.execHostStrobeRelease s
  | .stallLimitExpiry => Sys2Proof.Machine.execStallLimitExpiry s
  | .sealDeadlineExpiry seq => Sys2Proof.Machine.execSealDeadlineExpiry seq s
  | .fenceLineRisingEdge => Sys2Proof.Machine.execFenceLineRisingEdge s
  | .markerCompletion => Sys2Proof.Machine.execMarkerCompletion s
  | .writeThroughCompletion => Sys2Proof.Machine.execWriteThroughCompletion s
  | .pdonePulseEnd => Sys2Proof.Machine.execPdonePulseEnd s
  | .arbiterGrant => Sys2Proof.Machine.execArbiterGrant s
  | .memoryTransferEnd answer => Sys2Proof.Machine.execMemoryTransferEnd answer s
  | .statusPollDue d => Sys2Proof.Machine.execStatusPollDue d s
  | .suspendAckLimitExpiry d => Sys2Proof.Machine.execSuspendAckLimitExpiry d s
  | .programTimeLimitExpiry d => Sys2Proof.Machine.execProgramTimeLimitExpiry d s
  | .metadataProgramTimeExpiry => Sys2Proof.Machine.execMetadataProgramTimeExpiry s
  | .resetDeadlineExpiry d => Sys2Proof.Machine.execResetDeadlineExpiry d s
  | .drainGather d => Sys2Proof.Machine.execDrainGather d s
  | .persistDoneContextEnd d => Sys2Proof.Machine.execPersistDoneContextEnd d s
  | .persistStart => Sys2Proof.Machine.execPersistStart s
  | .writeRequestTaken => Sys2Proof.Machine.execWriteRequestTaken s
  | .pfailAssert => Sys2Proof.Machine.execPfailAssert s
  | .holdupEnd => Sys2Proof.Machine.execHoldupEnd s
  | .pfailRelease => Sys2Proof.Machine.execPfailRelease s
  | .stoppedQuietReset => Sys2Proof.Machine.execStoppedQuietReset s
  | .resetAssert => Sys2Proof.Machine.execResetAssert s
  | .resetRelease madr => Sys2Proof.Machine.execResetRelease madr s
  | .powerUp pfail madr => Sys2Proof.Machine.execPowerUp pfail madr s
  | .replayEnd => Sys2Proof.Machine.execReplayEnd s
  | .restartEnd => Sys2Proof.Machine.execRestartEnd s
  | .commit => Sys2Proof.Machine.execCommit s
  | .commitSwap => Sys2Proof.Machine.execCommitSwap s
  | .fence => Sys2Proof.Machine.execFence s
  | .restart => Sys2Proof.Machine.execRestart s
  | .retirePage => Sys2Proof.Machine.execRetirePage s
  | .popFault => Sys2Proof.Machine.execPopFault s
  | .selectRemap => Sys2Proof.Machine.execSelectRemap s
  | .clearCounters => Sys2Proof.Machine.execClearCounters s
  | .clearStatus => Sys2Proof.Machine.execClearStatus s
  | .unknownRequestCode code => Sys2Proof.Machine.execUnknownRequestCode code s
  | .eventFlagsWrite b => Sys2Proof.Machine.execEventFlagsWrite b s
  | .eventEnablesWrite b => Sys2Proof.Machine.execEventEnablesWrite b s
  | .remapViewIndexWrite b => Sys2Proof.Machine.execRemapViewIndexWrite b s
  | .mapByteWrite b => Sys2Proof.Machine.execMapByteWrite b s
  | .indexSet b => Sys2Proof.Machine.execIndexSet b s
  | .snapshotCapture ack => Sys2Proof.Machine.execSnapshotCapture s ack
  | .transactionEnd => Sys2Proof.Machine.execTransactionEnd s
  | .pdonePulseStart => Sys2Proof.Machine.execPdonePulseStart s
  | .transactionStart b => Sys2Proof.Machine.execTransactionStart b s
  | .powerLoss => Sys2Proof.Machine.execPowerLoss s

end Sys2Proof.Machine
end

