-- ==== Sys2Proof/Safety.lean ====
section
/-! DEFINITION. What holds of the part at every moment: the invariants that statements are made about, and when nothing is due. -/

namespace Sys2Proof.Machine

/-- No step of the same event is due: every consequence of the past events has been made (log 1). -/
def State.settled (s : State) : Prop := firstDue followSteps s = none

/-- A dump record being checked promises 32 records at most (R152). -/
def MuOp.fits : MuOp → Prop
  | .recordRead n _ _ _ => n ≤ Config.bufferEntries
  | _ => True

/-- The counts of a program context: 7 suspends and 3 spare attempts at most (R46, R56, R89). A context with 3 attempts made holds
no candidate and tries no further spare, and a context that is not stopped has no phase to go back to. -/
structure Ctx.Fits (c : Ctx) : Prop where
  suspends : c.suspendsUsed ≤ 7
  attempts : c.attempts ≤ Config.spareAttempts
  spent    : c.attempts = Config.spareAttempts → c.candidate = none ∧ c.phase ≠ .retireRead ∧ c.phase ≠ .retireProgram ∧
    c.before ≠ some .retireRead ∧ c.before ≠ some .retireProgram
  before   : c.phase ≠ .stopped → c.before = none

/-- Nothing exceeds the room the part has for it: entries (R2), markers and their weights (R69, R72), pulses owed (R75), fault
records (R182), read-ahead records (R31), the starvation count (R138), free spares (R84), and the counts of a program context
(R46), whose suspends the live table and a commit image limit to 7 (R115). The remap table's own room is `State.RemapSound`. -/
structure State.Fits (s : State) : Prop where
  entries : s.pwb.entries.length ≤ Config.bufferEntries
  markers : s.fu.queue.length ≤ Config.fenceRecords
  weights : ∀ m ∈ s.fu.queue, 1 ≤ m.weight ∧ m.weight ≤ Config.saturation
  owed    : s.fu.owed ≤ Config.saturation
  faults  : s.mgp.faults.length ≤ Config.faultRecords
  lines   : s.rp.lines.length ≤ Config.readAheadRecords
  starve  : s.mp.starve ≤ Config.starvationLimit
  spares  : ∀ d, (s.ru.free.get d).length ≤ Config.sparePages
  limit   : s.suspendLimit ≤ 7
  image   : ∀ t, s.wd.image = some t → t.params.suspendLimit.toNat ≤ 7
  ctx     : ∀ d c, s.ctx d = some c → c.Fits
  replay  : ∀ o, s.mu.op = some o → o.fits

/-- The spares of a device that the remap unit holds: those its table names, the free ones, and the one in the candidate hold
(R84 to R86). -/
def State.sparesHeld (s : State) (d : Dev) : List Nat :=
  s.ru.table.filterMap (RemapEntry.spareOf d) ++ s.ru.free.get d ++ (s.ru.hold.get d).toList

/-- A context that may still change the remap table: it does not wait for a persist, and was not stopped while it did. -/
def Ctx.working (c : Ctx) : Prop := c.phase ≠ .awaitPersist ∧ ¬(c.phase = .stopped ∧ c.before = some .awaitPersist)

/-- The remap unit is in order (R84 to R88): a home page stands in one REMAP or FAILED entry at most, 8 entries at most are
FAILED, no spare is held twice, and each lies in its device's pool. A context's candidate is the one in the hold, the page of a
working context is not FAILED, and in BOOT there is no context and no candidate. -/
structure State.RemapSound (s : State) : Prop where
  homes     : (s.ru.table.filterMap RemapEntry.homePage).Nodup
  failed    : failedCount s.ru.table ≤ Config.failedLimit
  spares    : ∀ d, (s.sparesHeld d).Nodup ∧ ∀ p ∈ s.sparesHeld d, isSparePage d p = true
  candidate : ∀ d c p, s.ctx d = some c → c.candidate = some p → s.ru.hold.get d = some p
  working   : ∀ d c, s.ctx d = some c → c.working → s.ru.isFailed d c.home = false
  boot      : s.sc.state = .boot → ∀ d, s.ctx d = none ∧ s.ru.hold.get d = none

/-- In RUN, and in RESTARTING, which is entered from RUN alone, the dump header is CLEAN as the part last read or wrote it
(R162). -/
def State.HeaderClean (s : State) : Prop :=
  s.sc.state = .run ∨ s.sc.state = .restarting → s.sc.header = some .clean

/-- No line has two OPEN entries, and a write that waits for an entry has no OPEN entry of its line (R7, R12). -/
structure State.OneOpen (s : State) : Prop where
  entries : s.pwb.entries.Pairwise (fun e f => ¬(e.state = .opened ∧ f.state = .opened ∧ e.loc = f.loc))
  waiting : ∀ w, s.pwb.waiting = some w → ∀ e ∈ s.pwb.entries, isOpenAt w.loc e = false

/-- How many host-read requests may wait for a grant: one for a read that has no transfer yet, and none otherwise (R28, R135). -/
def State.readRequests (s : State) : Nat :=
  match s.rp.host with
  | some r => if r.phase = .transfer then 0 else 1
  | none => 0

/-- Each held access has its holder, and no holder is without its access: the pending allocation in HELD_BUFFER, the wait
record in HELD_WT, and the host read record in HELD_READ (R104). -/
structure State.Held (s : State) : Prop where
  asked  : s.mp.reqs.countP (fun r => r.requester = .hostRead) ≤ s.readRequests
  buffer : s.pwb.waiting.isSome = true ↔ s.heldPhase = some .heldBuffer
  wait   : s.fu.wait.isSome = true ↔ s.heldPhase = some .heldWt
  read   : s.rp.host.isSome = true ↔ s.heldPhase = some .heldRead

/-- In BOOT before the probe nothing is in hand, and a probe is in hand in BOOT alone, with nothing else (R126, R157). -/
structure State.BootOrder (s : State) : Prop where
  start : s.sc.state = .boot → s.sc.step = none → s.mu.op = none ∧ s.mu.waiting = none ∧ s.mp.probe = none
  probe : s.mp.probe.isSome = true → s.sc.state = .boot ∧ s.mu.op = none ∧ s.mu.waiting = none

/-- Outside RUN no access is held (R112) and no entry is OPEN (R70). -/
structure State.ShutOutsideRun (s : State) : Prop where
  held  : s.sc.state ≠ .run → s.heldPhase = none
  opens : s.sc.state ≠ .run → ∀ e ∈ s.pwb.entries, e.state ≠ .opened

/-- The memory devices' contents are in their canonical form. -/
def State.MemoryForm (s : State) : Prop := s.nvm.d0.wf = true ∧ s.nvm.d1.wf = true

/-- PDONE is high for a pulse that is owed (R75). -/
def State.PulseOwed (s : State) : Prop := s.fu.high = true → 1 ≤ s.fu.owed

/-- The blocks other than the state controller, the fence unit and the management port have their values after cold reset. -/
def State.BlocksReset (s : State) : Prop :=
  s.hp = HostPort.reset ∧ s.wd = WindowDecoder.reset ∧ s.pwb = WriteBuffer.reset ∧ s.rp = ReadPath.reset ∧
    s.de = ⟨Engine.reset, Engine.reset⟩ ∧ s.ru = RemapUnit.reset ∧ s.mp = MemoryPort.reset ∧ s.mu = MetadataUnit.reset

/-- Every block has its value after cold reset (R175), but for the levels that the pins give (the PFAIL view, the sampled
address, and the time PDONE has been low) and for a transaction that goes on through an internal cold reset (R176). -/
def State.AfterReset (s : State) : Prop :=
  s.BlocksReset ∧ s.fu = { FenceUnit.reset with levelTime := s.fu.levelTime } ∧
    s.sc = { StateController.reset with pfail := s.sc.pfail } ∧
    s.mgp = { ManagementPort.reset with
      target := s.mgp.target, tx := s.mgp.tx, acked := s.mgp.acked, readByte := s.mgp.readByte }

/-- Every block has its value after cold reset, and no transaction is under way: /RESET ends it (R176). -/
def State.AllReset (s : State) : Prop :=
  s.AfterReset ∧ s.mgp.tx = .idle ∧ s.mgp.acked = false ∧ s.mgp.readByte = none

/-- A part held in reset (R175), or without supply (log 5), is held at its values after cold reset. -/
def State.HeldInReset (s : State) : Prop := s.alive = false → s.AllReset

/-- The levels of the output pins that R191 gives while /RESET is asserted. -/
def State.outputsHeld (s : State) : Prop :=
  s.hwait = false ∧ s.herr = false ∧ s.hd = none ∧ s.ready = false ∧ s.pdone = false ∧ s.intAsserted = false ∧
    s.msda = .released ∧ s.memoryLines = .held ∧ ∀ d, s.chipSelect d = false

/-! ### What statements name -/

/-- The access as it stands after a completion without error (R106). -/
def Access.done (a : Access) (data : Half) : Access := { a with phase := .complete, err := false, rdata := data }

/-- The access as it stands after an ERR completion (R106). -/
def Access.failed (a : Access) : Access := { a with phase := .complete, err := true, rdata := 0xFFFF }

/-- An access that arrives now can be taken: the part runs and holds none (R105). -/
def State.opensAccess (s : State) : Prop := s.alive = true ∧ s.hp.access = none

/-- An access in RUN decodes to `x`, and every check passes for a write of it (R107, R108). -/
structure State.writeTo (s : State) (addr : BitVec 23) (x : Decoded) : Prop where
  opens   : s.opensAccess
  run     : s.sc.state = .run
  decode  : s.wd.live.decode addr = some x
  online  : (s.dev x.loc.dev).state = .online
  fault   : s.metadataFault = false
  notLost : s.ru.isFailed x.loc.dev x.loc.page = false

/-- A read in RUN decodes to `x`, and every check passes for it (R107, R108, R29). -/
structure State.readOf (s : State) (addr : BitVec 23) (x : Decoded) : Prop where
  opens   : s.opensAccess
  run     : s.sc.state = .run
  decode  : s.wd.live.decode addr = some x
  takes   : (s.dev x.loc.dev).takes = true
  notLost : s.ru.isFailed x.loc.dev x.loc.page = false

/-- The record of an access that has been decoded (R104, R107). -/
def decodedAccess (addr : BitVec 23) (even odd : Bool) (dir : Dir) (hd : Half) (limit : Nat) (x : Decoded) : Access :=
  { newAccess addr even odd dir hd limit with loc := some x.loc, policy := some x.policy }

/-- A management request can be taken: the part runs and no request is in hand (R180). -/
def State.takesRequest (s : State) : Prop := s.alive = true ∧ s.mgp.inHand = false

/-- The state once a byte at an index of the map has been taken. In a write transaction that stands at that index the byte is
acknowledged and the index advances (R176). In any other case the write is named without a transaction at that byte, and neither
moves: the model's choice (log 17). -/
def State.byteTaken (s : State) (i : Byte) : State :=
  if s.mgp.tx = .writing ∧ s.mgp.index = i then
    { s with mgp := { s.mgp with index := s.mgp.index + 1, acked := true } }
  else s

/-- What a cold reset leaves and what it takes from the lines: the lines and the memory devices stay, the PFAIL view takes the
line's level, and the target address is taken from MADR (R175, R176). -/
def resetKeeps (s t : State) : Prop :=
  t.nvm = s.nvm ∧ t.pins = s.pins ∧ t.pending = s.pending ∧ t.indet = s.indet ∧ t.samples = s.samples ∧
    t.sc.pfail = s.pins.pfail ∧ t.mgp.target = (if s.pins.madr then 0x3B else 0x3A)

/-- A cold reset by /RESET or at power-up: every block takes its value after cold reset (R175). -/
def coldResetOf (s t : State) : Prop := t.AllReset ∧ resetKeeps s t

/-- The state with MADR sampled afresh: its level then is a free value (R176; log 39). -/
def State.madrSampled (s : State) : State :=
  { s with pins := { s.pins with madr := Config.madrLevel s.samples }, samples := s.samples + 1 }

/-- An internal cold reset (R163, R165): every block takes its value after cold reset with MADR sampled afresh, and the transaction
under way goes on where it stands (R176). -/
def internalResetOf (s t : State) : Prop :=
  t.AfterReset ∧ resetKeeps s.madrSampled t ∧ t.mgp.tx = s.mgp.tx ∧ t.mgp.acked = s.mgp.acked ∧
    t.mgp.readByte = s.mgp.readByte

/-- An entry after a seal: an OPEN one is SEALED without a deadline, and any other is as it was (R13). -/
def sealedEntry (e : Entry) : Entry := if e.state = .opened then { e with state := .sealed, deadline := none } else e

/-- Whether a command can change what the memory devices hold. -/
def touchesMemory : Instr → Bool
  | .memoryTransferEnd _ | .powerUp _ _ | .powerLoss => true
  | _ => false

/-- Whether a command is an event of PFAIL, /RESET or the supplies. -/
def touchesPins : Instr → Bool
  | .pfailAssert | .pfailRelease | .resetAssert | .resetRelease _ | .powerUp _ _ | .powerLoss => true
  | _ => false

/-- Whether a command can change the staged table (R179). -/
def touchesStaged : Instr → Bool
  | .mapByteWrite _ | .memoryTransferEnd _ | .resetAssert | .resetRelease _ | .powerUp _ _ | .powerLoss => true
  | _ => false

/-- A remap entry whose pages lie in their ranges (R86). -/
def RemapEntry.inRange : RemapEntry → Bool
  | .remap d h s => isUserPage d h && isSparePage d s
  | .failed d h => isUserPage d h
  | .retiredSpare d s => isSparePage d s

/-- A dump record whose entry can stand in the buffer: a user page, a line of a page, and at least one byte of 16. -/
def DumpRecord.inRange (r : DumpRecord) : Bool :=
  isUserPage r.loc.dev r.loc.page && decide (r.loc.line < 16) && decide (r.bytes.length = 16) && r.bytes.any Option.isSome

/-- The bytes that the metadata unit keeps of the dump pages that n records fill, read back as they were written (R152). -/
def dumpReadBack (l : List DumpRecord) : List Byte :=
  ((List.range 4).filter (fun k => k = 0 || dumpPageFirst k ≤ l.length)).flatMap (fun k =>
    dumpPageRead k ((dumpPageBytes l k).drop (if k = 0 then 32 else 0)))

end Sys2Proof.Machine
end

