-- ==== Sys2Proof/Certificates/Slice0/Obligations.lean ====
section
/-! DEFINITION. The statements for the provers. Where a command brings further steps of the same event (log 1), its next state is
written as `t.settle`, with `t` the state that the command's own rule gives. -/

open Sys2Proof Sys2Proof.Machine

/-! ### The machine as a whole -/

/-- A step takes the command at the front of the queue and is that command's execution with the rest of the queue; with no
command waiting 1 µs passes (the model's choice, log 2). Every command answers a next state, and leaves the queue of commands as
it is. -/
def Obligations.StepRunsFrontCommand : Prop :=
  (∀ (c : Instr) (rest : List Instr) (s : State), s.pending = c :: rest → step s = exec c (s.setPending rest)) ∧
  (∀ s : State, s.pending = [] → step s = .next (s.event State.tick)) ∧
  (∀ (i : Instr) (s : State), ∃ t, exec i s = .next t ∧ t.pending = s.pending)

/-- What follows in one event (`State.settle`; the model's reading, log 1, log 25). With no step due nothing changes; with one due
the first in their order (log 11) is made, and the next is looked for, 128 times at most. An event at a running part is its effect
and what follows, and a part held in reset or without supply takes none (log 5). What follows a cold reset, with or without a
transaction that goes on (R176): with PFAIL low boot begins, the probe is in hand and the DEVICE_RESET of device 0 is on the bus
(R126, R157); with PFAIL high the part is STOPPED and both engines are told to stop (R157, R165). In that state nothing further is
due. -/
def Obligations.WhatFollows : Prop :=
  (∀ s : State, s.settle = settleFor 128 s) ∧
  (∀ (n : Nat) (s : State), s.settled ∨ n = 0 → settleFor n s = s) ∧
  (∀ (n : Nat) (s t : State), firstDue followSteps s = some t → settleFor (n + 1) s = settleFor n t) ∧
  (∀ (s : State) (f : State → State), s.event f = if s.alive then (f s).settle else s) ∧
  (∀ (s : State) (n : Nat), s.AfterReset → s.pins.pfail = false → 2 ≤ n →
     settleFor n s = { s with
       sc := { s.sc with pfail := false, step := some .probe }
       mp := { s.mp with
         probe := some ⟨none, none⟩
         bus := some { req := ⟨.probe, .d0, .deviceReset⟩, home := 0, underSuspend := false } } } ∧
     (settleFor n s).settled) ∧
  (∀ (s : State) (n : Nat), s.AfterReset → s.pins.pfail = true → 1 ≤ n →
     settleFor n s = { s with
       sc := { s.sc with pfail := true, state := .stopped }
       de := ⟨{ ctx := none, stopping := true }, { ctx := none, stopping := true }⟩ } ∧
     (settleFor n s).settled)

/-- No command but the end of a transfer and the two events of the supplies changes what the memory devices hold, or which
program runs in them; and none but those of PFAIL, /RESET and the supplies changes a level of the input lines other than that of
MADR, which an internal cold reset samples afresh (a free value, log 39). The staged table changes by a byte written through the map,
by the load, and by cold reset alone (R179): any other command leaves it, or has brought an internal cold reset, after which it is
zero. -/
def Obligations.CommandsKeep : Prop :=
  (∀ (i : Instr) (s t : State), exec i s = .next t →
    (touchesMemory i = false → t.nvm = s.nvm ∧ t.indet = s.indet) ∧
    (touchesPins i = false → t.pins = { s.pins with madr := t.pins.madr } ∧ (t.samples = s.samples → t.pins = s.pins))) ∧
  (∀ (i : Instr) (s t : State), touchesStaged i = false → exec i s = .next t →
    t.mgp.staged = s.mgp.staged ∨
      (t.mgp.staged = Table.zero ∧ (t.sc.state = .boot ∨ t.sc.state = .stopped) ∧ t.pwb.entries = []))

/-! ### Cold reset -/

/-- In State.reset every block has its value after cold reset and nothing waits, and it meets every invariant stated below. The
model's choice there: the levels of the lines and the blank memory devices (log 3, log 6, log 10), the free-spare lists, which are
empty before the load (log 13), the time PDONE has been low (log 23), and the port's two latches (log 26). -/
def Obligations.ResetState : Prop :=
  State.reset.AllReset ∧ State.reset.pending = [] ∧
    State.reset.pins = { powered := true, reset := false, pfail := false, madr := false } ∧
    State.reset.nvm = ⟨{ pages := [], running := none }, { pages := [], running := none }⟩ ∧
    State.reset.mgp.target = 0x3A ∧
    State.reset.Fits ∧ State.reset.HeaderClean ∧ State.reset.Held ∧ State.reset.OneOpen ∧ State.reset.BootOrder ∧
    State.reset.ShutOutsideRun ∧ State.reset.MemoryForm ∧ State.reset.PulseOwed ∧ State.reset.HeldInReset ∧
    State.reset.RemapSound

/-- /RESET: its assertion gives every block its value after cold reset, leaves the memory devices as they are, and puts the output
pins at the levels of R191, which a part held in reset keeps (log 5); its release samples MADR, and boot begins (R175, R176; what
follows is in WhatFollows). The free-spare lists, empty until the load, are the model's choice (log 13). -/
def Obligations.ResetLine : Prop :=
  (∀ s : State, s.pins.powered = true → s.pins.reset = false →
    ∃ t, exec .resetAssert s = .next t ∧ coldResetOf { s with pins := { s.pins with reset := true } } t ∧ t.outputsHeld) ∧
  (∀ (s : State) (madr : Bool), s.pins.powered = true → s.pins.reset = true →
    ∃ t, exec (.resetRelease madr) s = .next t.settle ∧
      coldResetOf { s with pins := { s.pins with reset := false, madr := madr } } t)

/-- The supplies. As they come up every block has its value after cold reset, and boot begins unless /RESET is asserted (R175,
R191; what follows is in WhatFollows). At their loss a program running in a device is cut off, its bytes indeterminate, and the
part is held at its values after cold reset, as R191 has it until the supplies are up: the model's reading (log 5, log 7). The
free-spare lists, empty until the load, are the model's choice (log 13). -/
def Obligations.Supplies : Prop :=
  (∀ s : State, s.pins.powered = true →
    ∃ t, exec .powerLoss s = .next t ∧ t.AllReset ∧ t.outputsHeld ∧ t.pins = { s.pins with powered := false } ∧
      t.nvm = ((s.nvmSpoil .d0).nvmSpoil .d1).nvm ∧ (t.nvm.get .d0).running = none ∧ (t.nvm.get .d1).running = none) ∧
  (∀ (s : State) (pfail madr : Bool), s.pins.powered = false →
    ∃ t, exec (.powerUp pfail madr) s = .next (if s.pins.reset then t else t.settle) ∧
      coldResetOf { s with pins := { powered := true, reset := s.pins.reset, pfail := pfail, madr := madr } } t)

/-! ### Invariants -/

/-- A step keeps within its room every list and count that `State.Fits` names: the entries, the markers and their weights, the
pulses owed, the fault records, the read-ahead records, the starvation count, the free spares, and the suspends and spare attempts
of a context. The remap table's room is RemapSoundKept. -/
def Obligations.FitsKept : Prop := ∀ s t : State, s.Fits → step s = .next t → t.Fits

/-- A step keeps the law that in RUN, and in RESTARTING, the header view is CLEAN. -/
def Obligations.HeaderCleanKept : Prop := ∀ s t : State, s.HeaderClean → step s = .next t → t.HeaderClean

/-- A step keeps each held access with its holder. -/
def Obligations.HeldKept : Prop := ∀ s t : State, s.Held → step s = .next t → t.Held

/-- A step keeps the rule that no line has two OPEN entries. -/
def Obligations.OneOpenKept : Prop := ∀ s t : State, s.Held ∧ s.OneOpen → step s = .next t → t.OneOpen

/-- A step keeps the order of boot: nothing in hand before the probe, and nothing beside it. -/
def Obligations.BootOrderKept : Prop := ∀ s t : State, s.BootOrder → step s = .next t → t.BootOrder

/-- A step keeps the rule that outside RUN no access is held and no entry is OPEN. -/
def Obligations.ShutOutsideRunKept : Prop :=
  ∀ s t : State, s.Held ∧ s.BootOrder ∧ s.ShutOutsideRun → step s = .next t → t.ShutOutsideRun

/-- A step keeps the memory devices' contents in their canonical form. -/
def Obligations.MemoryFormKept : Prop := ∀ s t : State, s.MemoryForm → step s = .next t → t.MemoryForm

/-- A step keeps PDONE high only for a pulse that is owed. -/
def Obligations.PulseOwedKept : Prop := ∀ s t : State, s.PulseOwed → step s = .next t → t.PulseOwed

/-- A step keeps a part held in reset at its values after cold reset, and with them its output pins at the levels of R191. That
the same holds without supply is the model's reading (log 5); that the free-spare lists are empty there is its choice (log 13). -/
def Obligations.HeldInResetKept : Prop :=
  (∀ s t : State, s.HeldInReset → step s = .next t → t.HeldInReset) ∧
  (∀ s : State, s.HeldInReset → s.alive = false → s.outputsHeld)

/-- A step keeps the remap unit in order: a home page in one REMAP or FAILED entry at most, 8 FAILED entries at most, and no spare
in two places; the table then has 72 entries at most (R84 to R86). That the free-spare lists are empty before the load, with which
a part in BOOT meets this, is the model's choice (log 13). -/
def Obligations.RemapSoundKept : Prop :=
  (∀ s t : State, s.RemapSound → step s = .next t → t.RemapSound) ∧
  (∀ s : State, s.RemapSound → s.ru.table.length ≤ 72)

/-! ### Numbers, lookup and memory -/

/-- "At or below" and "above" are the comparison modulo 2^32 (R1). They give the order of issue of numbers fewer than 2^31
apart, and over a longer span they may reverse it. The number after 2^32-1 is 1, for sequence numbers and generations alike (R4,
R146). A counter is raised by the whole increment, and stays at 2^32-1 where that passes it; the other counters are as they were
(R185). -/
def Obligations.NumbersCompared : Prop :=
  (∀ a b : Word32, atOrBelow a b = true ↔ (b.toNat + 2 ^ 32 - a.toNat) % 2 ^ 32 < 2 ^ 31) ∧
  (∀ a b : Word32, isAbove a b = true ↔ ¬atOrBelow a b = true) ∧
  (∀ (a : Word32) (k : Nat), k < 2 ^ 31 → atOrBelow a (a + BitVec.ofNat 32 k) = true) ∧
  (∀ (a : Word32) (k : Nat), 0 < k → k < 2 ^ 31 → isAbove (a + BitVec.ofNat 32 k) a = true) ∧
  (∃ (a : Word32) (k : Nat), 2 ^ 31 ≤ k ∧ k < 2 ^ 32 ∧ isAbove a (a + BitVec.ofNat 32 k) = true) ∧
  (∀ c : Word32, (nextNonzero c).toNat = if c.toNat = 2 ^ 32 - 1 then 1 else c.toNat + 1) ∧
  (∀ (c : Word32) (n : Nat), (satAdd c n).toNat = min (c.toNat + n) (2 ^ 32 - 1)) ∧
  (∀ (c : Counters) (n : Nat),
    c.raise .writesAccepted n = { c with writesAccepted := satAdd c.writesAccepted n } ∧
    c.raise .writesMerged n = { c with writesMerged := satAdd c.writesMerged n } ∧
    c.raise .programsCompleted n = { c with programsCompleted := satAdd c.programsCompleted n } ∧
    c.raise .retirements n = { c with retirements := satAdd c.retirements n } ∧
    c.raise .entriesLost n = { c with entriesLost := satAdd c.entriesLost n } ∧
    c.raise .stallTimeouts n = { c with stallTimeouts := satAdd c.stallTimeouts n } ∧
    c.raise .errCompletions n = { c with errCompletions := satAdd c.errCompletions n } ∧
    c.raise .fencesCompleted n = { c with fencesCompleted := satAdd c.fencesCompleted n })

/-- A lookup of a byte finds the newest entry that covers it, and nothing when none does (R20). -/
def Obligations.LookupFindsNewest : Prop :=
  (∀ (es : List Entry) (loc : Loc) (pos : Nat) (v : Byte), forward es loc pos = some v ↔
    ∃ older e newer, es = older ++ e :: newer ∧ e.loc = loc ∧ byteAt e.bytes pos = some v ∧
      ∀ f ∈ newer, f.loc = loc → byteAt f.bytes pos = none) ∧
  (∀ (es : List Entry) (loc : Loc) (pos : Nat), forward es loc pos = none ↔
    ∀ e ∈ es, e.loc = loc → byteAt e.bytes pos = none)

/-- The end of a program in a memory device (R121). One that passes sets the bytes it names and leaves every other byte of the
device. One that fails, is aborted or is cut off leaves every byte that it does not name; what the named bytes become is left open
(log 7), so nothing is said of them. -/
def Obligations.ProgramsEnd : Prop :=
  ∀ (s : State) (d : Dev) (r : NvmProgram), s.MemoryForm → (s.nvm.get d).running = some r →
    r.bytes.length = 256 → ((s.nvm.get d).page r.page).length = 256 →
    (((s.nvmPass d).nvm.get d).running = none ∧
      ∀ p k, (((s.nvmPass d).nvm.get d).page p)[k]? =
        (if p = r.page then
          match byteAt r.bytes k with
          | some v => some (.val v)
          | none => ((s.nvm.get d).page p)[k]?
        else ((s.nvm.get d).page p)[k]?)) ∧
    (((s.nvmSpoil d).nvm.get d).running = none ∧
      ∀ p k, p ≠ r.page ∨ byteAt r.bytes k = none →
        (((s.nvmSpoil d).nvm.get d).page p)[k]? = ((s.nvm.get d).page p)[k]?)

/-! ### Records in memory -/

/-- Records read back as they were written (R141, R190). A config record in a slot page gives the generation and the table it was
made from, for every table that a COMMIT could install; a remap record in a slot's two pages does, for every table of 72 entries at
most that the remap unit can hold. -/
def Obligations.RecordsReadBack : Prop :=
  (∀ (t : Table) (gen : Word32), t.windows.length = 8 → t.valid = true →
    configOfSlot (padTo 256 (recordBytes .config gen t.toBytes)) = some t ∧
      recordGen (padTo 256 (recordBytes .config gen t.toBytes)) = gen) ∧
  (∀ (l : List RemapEntry) (gen : Word32), l.length ≤ 72 → l.all RemapEntry.inRange = true → remapTableValid l = true →
    remapOfSlot (padTo 512 (recordBytes .remap gen (remapBody l))) = some l ∧
      recordGen (padTo 512 (recordBytes .remap gen (remapBody l))) = gen)

/-- A dump of 1 to 32 entries, read back from the pages it was written to, is reported VALID_GOOD with the same records, when no
device of its entries was found ABSENT (R152, R168, R190). -/
def Obligations.DumpReadBack : Prop :=
  ∀ (s : State) (es : List Entry), (∀ e ∈ es, (s.dev e.loc.dev).state ≠ .absent) → 1 ≤ es.length →
    es.length ≤ 32 → (dumpRecords es 1).all DumpRecord.inRange = true →
    s.recordsReport es.length (dumpCrc (dumpRecords es 1)) (dumpReadBack (dumpRecords es 1)) =
      .validGood (dumpRecords es 1)

/-! ### The host bus -/

/-- The byte address of an arrival, the bytes it names, and what its decode gives. With /HBL the even byte of the halfword is
named, with /HBH alone the odd one, with both the two of them (R105, R107); the even byte of a write is that of HD0-HD7 and the odd
one that of HD8-HD15 (R104). A window matches when it is enabled and its host range holds the host page; the match gives its policy,
its device, the home page at the same distance from the memory base page, and the line (R107). A table decodes by a window that
matches, and by no other in a table that a COMMIT could install. That a record of no policy or device matches nothing is the
model's choice (log 30). -/
def Obligations.ArrivalDecoded : Prop :=
  (∀ (ha : BitVec 22) (odd : Bool), (arrivalAddr ha true odd).toNat = 2 * ha.toNat) ∧
  (∀ ha : BitVec 22, (arrivalAddr ha false true).toNat = 2 * ha.toNat + 1) ∧
  (∀ (ha : BitVec 22) (even odd : Bool), (even || odd) = true → ∀ k, k ∈ lanePositions (arrivalAddr ha even odd) even odd ↔
    (even = true ∧ k = 2 * ha.toNat % 16) ∨ (odd = true ∧ k = 2 * ha.toNat % 16 + 1)) ∧
  (∀ (ha : BitVec 22) (even odd : Bool) (hd : Half), (even || odd) = true → ∀ k,
    byteAt (laneBytes (arrivalAddr ha even odd) even odd hd) k =
      if even = true ∧ k = 2 * ha.toNat % 16 then some (hd.extractLsb' 0 8)
      else if odd = true ∧ k = 2 * ha.toNat % 16 + 1 then some (hd.extractLsb' 8 8)
      else none) ∧
  (∀ (w : WindowRecord) (addr : BitVec 23) (x : Decoded), w.decode addr = some x ↔
    w.flags.getLsbD 0 = true ∧ w.hostBase.toNat ≤ addr.toNat / 256 ∧ addr.toNat / 256 < w.hostBase.toNat + w.size.toNat ∧
    (w.flags.extractLsb' 1 2 = 0 ∧ x.policy = .posted ∨ w.flags.extractLsb' 1 2 = 1 ∧ x.policy = .writeThrough ∨
      w.flags.extractLsb' 1 2 = 2 ∧ x.policy = .readOnly) ∧
    (w.device = 0 ∧ x.loc.dev = .d0 ∨ w.device = 1 ∧ x.loc.dev = .d1) ∧
    x.loc.page = w.memBase.toNat + (addr.toNat / 256 - w.hostBase.toNat) ∧ x.loc.line = addr.toNat % 256 / 16) ∧
  (∀ (t : Table) (addr : BitVec 23),
    (t.decode addr = none ↔ ∀ w ∈ t.windows, w.decode addr = none) ∧
    (∀ x, t.decode addr = some x → ∃ w ∈ t.windows, w.decode addr = some x) ∧
    (∀ w ∈ t.windows, ∀ x, t.valid = true → w.decode addr = some x → t.decode addr = some x))

/-- An arrival outside RUN completes at once with ERR, cause NOT_READY, which is recorded and counted (R105, R112, R113). In RUN an
access that names no byte completes without /HERR, and a read of no byte returns 0xFFFF (R105). Nothing else changes. -/
def Obligations.ArrivalAtOnce : Prop :=
  (∀ (s : State) (ha : BitVec 22) (hbl hbh hrd hwr : Bool) (hd : Half), s.opensAccess → s.settled → s.sc.state ≠ .run →
     (hrd || hwr) = true →
     let addr := arrivalAddr ha hbl hbh
     let dir := if hrd then Dir.read else Dir.write
     exec (.hostAccessArrival ha hbl hbh hrd hwr hd) s = .next { s with
       hp := { access := some (newAccess addr hbl hbh dir hd s.stallLimit).failed
               lastErr := some { cause := .notReady, addr := addr, dir := dir } }
       mgp := { s.mgp with counters := s.mgp.counters.raise .errCompletions 1 } }) ∧
  (∀ (s : State) (ha : BitVec 22) (hrd hwr : Bool) (hd : Half), s.opensAccess → s.settled → s.sc.state = .run →
     (hrd || hwr) = true →
     let access := newAccess (arrivalAddr ha false false) false false (if hrd then .read else .write) hd s.stallLimit
     exec (.hostAccessArrival ha false false hrd hwr hd) s = .next { s with
       hp := { s.hp with access := some (access.done 0xFFFF) } })

/-- The checks at decode, in their order (R107, R108, R29): NO_WINDOW; DEVICE_UNAVAILABLE; for a write READ_ONLY, WRITE_REFUSED and
FAILED_PAGE; for a read FAILED_PAGE. The access completes at once with ERR and the cause of the first that fails, which is recorded
and counted; nothing else changes. -/
def Obligations.ArrivalRefused : Prop :=
  ∀ (s : State) (ha : BitVec 22) (hbl hbh hrd hwr : Bool) (hd : Half), s.opensAccess → s.settled → s.sc.state = .run →
    (hrd || hwr) = true → (hbl || hbh) = true →
    let addr := arrivalAddr ha hbl hbh
    let dir := if hrd then Dir.read else Dir.write
    let refused (a : Access) (cause : Cause) : State := { s with
      hp := { access := some a.failed, lastErr := some { cause := cause, addr := addr, dir := dir } }
      mgp := { s.mgp with counters := s.mgp.counters.raise .errCompletions 1 } }
    (s.wd.live.decode addr = none → exec (.hostAccessArrival ha hbl hbh hrd hwr hd) s =
      .next (refused (newAccess addr hbl hbh dir hd s.stallLimit) .noWindow)) ∧
    (∀ x, s.wd.live.decode addr = some x →
      let lost := s.ru.isFailed x.loc.dev x.loc.page
      let cause : Option Cause :=
        if (s.dev x.loc.dev).state = .absent ∨ (s.dev x.loc.dev).state = .offline then some .deviceUnavailable
        else if hrd = true then (if lost then some .failedPage else none)
        else if x.policy = .readOnly then some .readOnly
        else if (s.dev x.loc.dev).state = .writeLocked ∨ s.mu.config.fault = true ∨ s.mu.remap.fault = true then
          some .writeRefused
        else if lost then some .failedPage
        else none
      ∀ c, cause = some c → exec (.hostAccessArrival ha hbl hbh hrd hwr hd) s =
        .next (refused (decodedAccess addr hbl hbh dir hd s.stallLimit x) c))

/-- A posted write to a line with an OPEN entry is merged into it and accepted: the written bytes join the entry, which keeps
its place, its seq and its deadline, and is SEALED when its mask is full; the access completes, and the write and the merge are
counted (R8, R14). -/
def Obligations.PostedWriteMerges : Prop :=
  (∀ (s : State) (ha : BitVec 22) (hbl hbh : Bool) (hd : Half) (x : Decoded), (hbl || hbh) = true →
    s.writeTo (arrivalAddr ha hbl hbh) x → x.policy = .posted → s.pwb.entries.any (isOpenAt x.loc) = true →
    let addr := arrivalAddr ha hbl hbh
    exec (.hostAccessArrival ha hbl hbh false true hd) s = .next ({ s with
      hp := { s.hp with access := some ((decodedAccess addr hbl hbh .write hd s.stallLimit x).done 0) }
      pwb := { s.pwb with entries := s.pwb.entries.map (fun e =>
        if e.state = .opened ∧ e.loc = x.loc then e.merge (laneBytes addr hbl hbh hd) else e) }
      mgp := { s.mgp with counters := (s.mgp.counters.raise .writesAccepted 1).raise .writesMerged 1 } } : State).settle) ∧
  (∀ (e : Entry) (bytes : List (Option Byte)), e.state = .opened → e.bytes.length = 16 → bytes.length = 16 →
    (e.merge bytes).loc = e.loc ∧ (e.merge bytes).seq = e.seq ∧ (e.merge bytes).wt = e.wt ∧
    (∀ k, byteAt (e.merge bytes).bytes k = (match byteAt bytes k with
      | some v => some v
      | none => byteAt e.bytes k)) ∧
    ((∀ k < 16, (byteAt (e.merge bytes).bytes k).isSome = true) →
      (e.merge bytes).state = .sealed ∧ (e.merge bytes).deadline = none) ∧
    ((∃ k < 16, byteAt (e.merge bytes).bytes k = none) →
      (e.merge bytes).state = .opened ∧ (e.merge bytes).deadline = e.deadline))

/-- A posted write to a line without an OPEN entry takes a FREE entry: the new entry joins the age list at the newest end with
the next seq, OPEN with the seal delay as its deadline, or SEALED with a seal delay of 0; at or above the high-water mark the
oldest OPEN entry is sealed; the write is accepted and counted (R9, R16). With 32 in use it waits: it is held in the pending
allocation, the access in HELD_BUFFER, and nothing else changes (R10). Sealing the oldest OPEN entry closes the first OPEN entry of
the age list, of whatever line, removes its deadline, and leaves every other entry; without an OPEN entry it does nothing (R16). -/
def Obligations.PostedWriteAllocates : Prop :=
  (∀ es : List Entry, (∀ e ∈ es, e.state ≠ .opened) → sealOldest es = es) ∧
  (∀ (older newer : List Entry) (e : Entry), (∀ x ∈ older, x.state ≠ .opened) → e.state = .opened →
    sealOldest (older ++ e :: newer) = older ++ { e with state := .sealed, deadline := none } :: newer) ∧
  (∀ (s : State) (ha : BitVec 22) (hbl hbh : Bool) (hd : Half) (x : Decoded), (hbl || hbh) = true →
    s.writeTo (arrivalAddr ha hbl hbh) x → x.policy = .posted → s.pwb.entries.any (isOpenAt x.loc) = false →
    s.pwb.entries.length < 32 →
    let addr := arrivalAddr ha hbl hbh
    let entry : Entry :=
      { loc := x.loc, bytes := laneBytes addr hbl hbh hd, seq := nextNonzero s.pwb.counter, wt := false
        state := if s.sealDelay = 0 then .sealed else .opened
        deadline := if s.sealDelay = 0 then none else some s.sealDelay }
    let entries := s.pwb.entries ++ [entry]
    exec (.hostAccessArrival ha hbl hbh false true hd) s = .next ({ s with
      hp := { s.hp with access := some ((decodedAccess addr hbl hbh .write hd s.stallLimit x).done 0) }
      pwb := { s.pwb with
        entries := if s.highWater ≤ entries.length then sealOldest entries else entries
        counter := nextNonzero s.pwb.counter }
      mgp := { s.mgp with counters := s.mgp.counters.raise .writesAccepted 1 } } : State).settle) ∧
  (∀ (s : State) (ha : BitVec 22) (hbl hbh : Bool) (hd : Half) (x : Decoded), (hbl || hbh) = true → s.settled →
    s.writeTo (arrivalAddr ha hbl hbh) x → x.policy = .posted → s.pwb.entries.any (isOpenAt x.loc) = false →
    32 ≤ s.pwb.entries.length →
    let addr := arrivalAddr ha hbl hbh
    let access := decodedAccess addr hbl hbh .write hd s.stallLimit x
    exec (.hostAccessArrival ha hbl hbh false true hd) s = .next { s with
      hp := { s.hp with access := some { access with phase := .heldBuffer } }
      pwb := { s.pwb with waiting := some { loc := x.loc, bytes := laneBytes addr hbl hbh hd, wt := false } } })

/-- A write-through write seals every OPEN entry and, with an entry FREE, takes one of its own, SEALED; the fence unit opens the
wait record with its seq, and the access is held in HELD_WT (R12, R78). With 32 in use it waits: the entries stay sealed, the write
is held in the pending allocation, the access in HELD_BUFFER, and nothing else changes (R10, R12). -/
def Obligations.WriteThroughHeld : Prop :=
  ∀ (s : State) (ha : BitVec 22) (hbl hbh : Bool) (hd : Half) (x : Decoded), (hbl || hbh) = true →
    s.writeTo (arrivalAddr ha hbl hbh) x → x.policy = .writeThrough →
    let addr := arrivalAddr ha hbl hbh
    let access := decodedAccess addr hbl hbh .write hd s.stallLimit x
    let bytes := laneBytes addr hbl hbh hd
    let sealed := s.pwb.entries.map sealedEntry
    (s.pwb.entries.length < 32 → exec (.hostAccessArrival ha hbl hbh false true hd) s = .next ({ s with
      hp := { s.hp with access := some { access with phase := .heldWt } }
      pwb := { s.pwb with
        entries := sealed ++
          [{ loc := x.loc, bytes := bytes, seq := nextNonzero s.pwb.counter, wt := true, state := .sealed, deadline := none }]
        counter := nextNonzero s.pwb.counter }
      fu := { s.fu with wait := some { seq := nextNonzero s.pwb.counter, lost := false } }
      mgp := { s.mgp with counters := s.mgp.counters.raise .writesAccepted 1 } } : State).settle) ∧
    (32 ≤ s.pwb.entries.length → exec (.hostAccessArrival ha hbl hbh false true hd) s = .next ({ s with
      hp := { s.hp with access := some { access with phase := .heldBuffer } }
      pwb := { s.pwb with
        entries := sealed, waiting := some { loc := x.loc, bytes := bytes, wt := true } } } : State).settle)

/-- A read that needs no memory transfer completes at once, with 0xFF on a lane it does not name (R106). When the buffer covers
all its bytes it has the newest value of each, and nothing else changes (R30). When the read-ahead buffer holds its line it has, for
each byte, the newest value in the buffer, or else the line's (R32). After such a hit a refill of the next line is requested, in
place of one not yet granted, if the depth is 1 or more, the line is not the last of its page, the next line is not held, the device
is idle and no refill is on the bus; otherwise nothing else changes (R40). -/
def Obligations.ReadAtOnce : Prop :=
  ∀ (s : State) (ha : BitVec 22) (hbl hbh hwr : Bool) (hd : Half) (x : Decoded), (hbl || hbh) = true →
    s.readOf (arrivalAddr ha hbl hbh) x →
    let addr := arrivalAddr ha hbl hbh
    let completed (value : Nat → Byte) : State := { s with
      hp := { s.hp with access := some ((decodedAccess addr hbl hbh .read hd s.stallLimit x).done
        ((if hbh then value (2 * ha.toNat % 16 + 1) else 0xFF) ++ (if hbl then value (2 * ha.toNat % 16) else 0xFF))) } }
    ((∀ k ∈ lanePositions addr hbl hbh, (forward s.pwb.entries x.loc k).isSome = true) → s.settled →
      exec (.hostAccessArrival ha hbl hbh true hwr hd) s =
        .next (completed (fun k => (forward s.pwb.entries x.loc k).getD 0))) ∧
    (∀ r, (∃ k ∈ lanePositions addr hbl hbh, forward s.pwb.entries x.loc k = none) →
      s.rp.lines.find? (fun l => l.loc = x.loc) = some r →
      let hit := completed (fun k => (forward s.pwb.entries x.loc k).getD ((r.bytes[k]?).getD 0))
      let next : Loc := { x.loc with line := x.loc.line + 1 }
      let refills := 1 ≤ s.readAhead ∧ x.loc.line < 15 ∧ (∀ l ∈ s.rp.lines, l.loc ≠ next) ∧
        (s.dev x.loc.dev).activity = .idle ∧ (∀ t, s.mp.bus = some t → t.req.requester ≠ .refill)
      (¬refills → s.settled → exec (.hostAccessArrival ha hbl hbh true hwr hd) s = .next hit) ∧
      (refills → exec (.hostAccessArrival ha hbl hbh true hwr hd) s = .next ({ hit with
        rp := { s.rp with refill := some next }
        mp := { s.mp with reqs :=
          (if s.rp.refill.isSome then s.mp.reqs.filter (fun q => q.requester ≠ .refill) else s.mp.reqs) ++
            [⟨.refill, x.loc.dev, .read x.loc.page next.line 1⟩] } } : State).settle))

/-- A read that neither the buffer nor the read-ahead buffer settles asks for a memory read in the host-read class, of its own
line and the lines the read-ahead depth adds within the page; a refill not yet granted is withdrawn, and so is an unfinished fetch
that waits in QUEUED; the access is held in HELD_READ (R28, R33). -/
def Obligations.ReadMisses : Prop :=
  ∀ (s : State) (ha : BitVec 22) (hbl hbh hwr : Bool) (hd : Half) (x : Decoded), (hbl || hbh) = true →
    s.readOf (arrivalAddr ha hbl hbh) x → (∀ f, s.rp.fetch = some f → f.phase = .queued) →
    let addr := arrivalAddr ha hbl hbh
    (∃ k ∈ lanePositions addr hbl hbh, forward s.pwb.entries x.loc k = none) →
    (∀ l ∈ s.rp.lines, l.loc ≠ x.loc) →
    let ahead := min s.readAhead (15 - x.loc.line)
    let access := decodedAccess addr hbl hbh .read hd s.stallLimit x
    let read : HostRead :=
      { loc := x.loc, positions := lanePositions addr hbl hbh, phase := .queued, ahead := ahead, asked := false }
    let kept := s.mp.reqs.filter (fun q => ¬(s.rp.refill.isSome ∧ q.requester = .refill) ∧
      ¬(s.rp.fetch.isSome ∧ q.requester = .fetch))
    exec (.hostAccessArrival ha hbl hbh true hwr hd) s = .next ({ s with
      hp := { s.hp with access := some { access with phase := .heldRead } }
      rp := { s.rp with host := some read, fetch := none, refill := none }
      mp := { s.mp with reqs := kept ++ [⟨.hostRead, x.loc.dev, .read x.loc.page x.loc.line (ahead + 1)⟩] } } :
        State).settle

/-- The release of the strobe ends a completed access, and nothing else changes (R106). Before completion it abandons the
access: ABANDONED is recorded with its address and direction, /HERR is not asserted, nothing is counted, the record closes, and
the holding block is told by the access's phase (R111): the pending allocation is withdrawn, the wait record is closed, or the
read's request is kept as an unfinished fetch. -/
def Obligations.StrobeReleased : Prop :=
  (∀ (s : State) (a : Access), s.alive = true → s.settled → s.hp.access = some a → a.phase = .complete →
    exec .hostStrobeRelease s = .next { s with hp := { s.hp with access := none } }) ∧
  (∀ (s : State) (a : Access), s.alive = true → s.hp.access = some a →
    let hp : HostPort := { access := none, lastErr := some { cause := .abandoned, addr := a.addr, dir := a.dir } }
    (a.phase = .heldBuffer → exec .hostStrobeRelease s =
      .next ({ s with hp := hp, pwb := { s.pwb with waiting := none } } : State).settle) ∧
    (a.phase = .heldWt → exec .hostStrobeRelease s =
      .next ({ s with hp := hp, fu := { s.fu with wait := none } } : State).settle) ∧
    (∀ r, a.phase = .heldRead → s.rp.host = some r → r.phase ≠ .transfer → exec .hostStrobeRelease s =
      .next ({ s with
        hp := hp
        rp := { s.rp with
          host := none, fetch := some { loc := r.loc, phase := r.phase, ahead := r.ahead, asked := r.asked } }
        mp := { s.mp with reqs := s.mp.reqs.map (fun q =>
          if q.requester = .hostRead then { q with requester := .fetch } else q) } } : State).settle) ∧
    (∀ r, a.phase = .heldRead → s.rp.host = some r → r.phase = .transfer → exec .hostStrobeRelease s =
      .next ({ s with hp := hp, rp := { s.rp with host := none } } : State).settle))

/-- The stall limit of a held access expires: the access completes with ERR, cause STALL_TIMEOUT, counted twice; a write that
waits for an entry is discarded and a STALL_DISCARD record queued with its device and home page, and a write-through write loses
its wait record and keeps its entry (R80, R110). A read's record is closed: a request that waits is withdrawn, and a granted
transfer runs on; a suspend asked for it, whose SUSPEND still waits, is withdrawn too, one whose SUSPEND is sent is carried to its
end, and a suspension held for it is resumed (R43, R57, R58). The seal deadline of an OPEN entry runs out: the entry is SEALED without a
deadline, and every other entry, the age list and everything else stay as they are (R13, R15). A fault record that is posted takes
the next fault number; it joins the queue at the newest end, or, with 8 records queued, is dropped and FAULT_OVERFLOW set (R182). -/
def Obligations.HostLimitsExpire : Prop :=
  (∀ (s : State) (kind : FaultKind) (dev : Option Dev) (page count : Option Nat),
     (s.mgp.faults.length < 8 → s.postFault kind dev page count = { s with mgp := { s.mgp with
       faultNumber := s.mgp.faultNumber + 1
       faults := s.mgp.faults ++
         [{ kind := kind, dev := dev, page := page, count := count, number := s.mgp.faultNumber + 1 }] } }) ∧
     (8 ≤ s.mgp.faults.length → s.postFault kind dev page count = { s with mgp := { s.mgp with
       faultNumber := s.mgp.faultNumber + 1, overflow := true } })) ∧
  (∀ (s : State) (a : Access), s.alive = true → s.hp.access = some a →
     let hp : HostPort :=
       { access := some ({ a with stallTime := a.stallLimit } : Access).failed
         lastErr := some { cause := .stallTimeout, addr := a.addr, dir := a.dir } }
     let mgp := { s.mgp with counters := (s.mgp.counters.raise .errCompletions 1).raise .stallTimeouts 1 }
     (∀ loc, a.phase = .heldBuffer → a.loc = some loc → exec .stallLimitExpiry s =
       .next ((({ s with hp := hp, mgp := mgp, pwb := { s.pwb with waiting := none } } : State).postFault .stallDiscard
         (some loc.dev) (some loc.page) none).settle)) ∧
     (a.phase = .heldWt → exec .stallLimitExpiry s =
       .next ({ s with hp := hp, mgp := mgp, fu := { s.fu with wait := none } } : State).settle) ∧
     (∀ r, a.phase = .heldRead → s.rp.host = some r → r.phase = .transfer → exec .stallLimitExpiry s =
       .next ({ s with hp := hp, mgp := mgp, rp := { s.rp with host := none } } : State).settle) ∧
     (∀ r, a.phase = .heldRead → s.rp.host = some r →
       let left := s.mp.reqs.filter (fun q => q.requester ≠ .hostRead)
       let closed : State := { s with
         hp := hp, mgp := mgp, rp := { s.rp with host := none }, mp := { s.mp with reqs := left } }
       let d := r.loc.dev
       (r.phase = .queued → exec .stallLimitExpiry s = .next closed.settle) ∧
       (∀ c, r.phase = .suspendAsked → s.ctx d = some c → c.phase = .suspended → c.suspendStep = some .asked →
         ((∃ q ∈ left, q.cmd = .suspend ∧ q.dev = d) → exec .stallLimitExpiry s = .next ({ closed with
           de := s.de.set d { s.de.get d with ctx := some { c with phase := .programming, suspendStep := none } }
           mp := { s.mp with reqs := left.filter (fun q => ¬(q.cmd = .suspend ∧ q.dev = d)) } } : State).settle) ∧
         ((∀ q ∈ left, ¬(q.cmd = .suspend ∧ q.dev = d)) → exec .stallLimitExpiry s = .next closed.settle)) ∧
       (∀ c, r.phase = .suspendHeld → s.ctx d = some c → c.phase = .suspended → c.suspendStep = some .held →
         (s.dev d).takes = true → exec .stallLimitExpiry s = .next ({ closed with
           de := s.de.set d { s.de.get d with ctx := some { c with suspendStep := some .resuming } }
           mp := { s.mp with reqs := left ++ [⟨.engine, d, .resume⟩] } } : State).settle))) ∧
  (∀ (s : State) (q : Word32), s.alive = true →
     exec (.sealDeadlineExpiry q) s = .next ({ s with
       pwb := { s.pwb with entries := s.pwb.entries.map (fun e => if e.seq = q then sealedEntry e else e) } } : State).settle)

/-- Held writes complete. A pending posted write takes a freed entry, with the next seq and the seal delay as they stand, and its
access completes (R10); what sealing the oldest OPEN entry does is in PostedWriteAllocates (R16). A pending write-through write takes
one, SEALED, with the next seq; the fence unit opens the wait record with that seq, and the access is held in HELD_WT (R12, R78).
With no entry at or below the wait
seq left, the write-through access completes: without /HERR when no such entry was lost, and with ERR, cause WT_INCOMPLETE,
otherwise (R79). -/
def Obligations.HeldWritesComplete : Prop :=
  (∀ (s : State) (w : PendingWrite) (a : Access), s.alive = true → s.pwb.waiting = some w → w.wt = false →
    s.hp.access = some a → s.pwb.entries.length < 32 →
    let entry : Entry :=
      { loc := w.loc, bytes := w.bytes, seq := nextNonzero s.pwb.counter, wt := false
        state := if s.sealDelay = 0 then .sealed else .opened
        deadline := if s.sealDelay = 0 then none else some s.sealDelay }
    let entries := s.pwb.entries ++ [entry]
    exec .pendingAllocationFill s = .next ({ s with
      hp := { s.hp with access := some (a.done 0) }
      pwb := { entries := if s.highWater ≤ entries.length then sealOldest entries else entries
               counter := nextNonzero s.pwb.counter, waiting := none }
      mgp := { s.mgp with counters := s.mgp.counters.raise .writesAccepted 1 } } : State).settle) ∧
  (∀ (s : State) (w : PendingWrite) (a : Access), s.alive = true → s.pwb.waiting = some w → w.wt = true →
    s.hp.access = some a → s.pwb.entries.length < 32 →
    let entries := s.pwb.entries ++
      [{ loc := w.loc, bytes := w.bytes, seq := nextNonzero s.pwb.counter, wt := true, state := .sealed, deadline := none }]
    exec .pendingAllocationFill s = .next ({ s with
      hp := { s.hp with access := some { a with phase := .heldWt } }
      pwb := { entries := if s.highWater ≤ entries.length then sealOldest entries else entries
               counter := nextNonzero s.pwb.counter, waiting := none }
      fu := { s.fu with wait := some { seq := nextNonzero s.pwb.counter, lost := false } }
      mgp := { s.mgp with counters := s.mgp.counters.raise .writesAccepted 1 } } : State).settle) ∧
  (∀ (s : State) (w : WaitRecord) (a : Access), s.alive = true → s.fu.wait = some w → s.hp.access = some a →
    noneAtOrBelow s.pwb.entries w.seq = true →
    (w.lost = false → exec .writeThroughCompletion s = .next ({ s with
      fu := { s.fu with wait := none }, hp := { s.hp with access := some (a.done 0) } } : State).settle) ∧
    (w.lost = true → exec .writeThroughCompletion s = .next ({ s with
      fu := { s.fu with wait := none }
      hp := { access := some a.failed, lastErr := some { cause := .wtIncomplete, addr := a.addr, dir := a.dir } }
      mgp := { s.mgp with counters := s.mgp.counters.raise .errCompletions 1 } } : State).settle))

/-! ### Fences -/

/-- A rising edge of FENCE seals every OPEN entry, and the fence takes the first case that applies (R70 to R72): it completes at
once when no entry at or below the sequence counter is left; it is appended to a queue of fewer than 4 records; or it raises the
marker and the weight of the newest record; its lost flag is clear, or that of the record it joins, whatever a write-through wait
has lost (the model's choice, log 44). A management FENCE makes the same arrival, and is answered DONE when the fence completes at its
arrival and ACCEPTED otherwise (R181); its byte is taken as `State.byteTaken` says (R176; log 17). -/
def Obligations.FenceArrives : Prop :=
  (∀ s : State, s.alive = true →
     let pwb := { s.pwb with entries := s.pwb.entries.map sealedEntry }
     let marker : Marker := { marker := s.pwb.counter, weight := 1, lost := false }
     (noneAtOrBelow s.pwb.entries s.pwb.counter = true →
       exec .fenceLineRisingEdge s = .next (({ s with pwb := pwb } : State).markerDone marker).settle) ∧
     (noneAtOrBelow s.pwb.entries s.pwb.counter = false → s.fu.queue.length < 4 →
       exec .fenceLineRisingEdge s = .next ({ s with
         pwb := pwb, fu := { s.fu with queue := s.fu.queue ++ [marker] } } : State).settle) ∧
     (∀ older m, noneAtOrBelow s.pwb.entries s.pwb.counter = false → s.fu.queue = older ++ [m] → 4 ≤ s.fu.queue.length →
       exec .fenceLineRisingEdge s = .next ({ s with
         pwb := pwb
         fu := { s.fu with queue := older ++
           [{ m with marker := s.pwb.counter, weight := min (m.weight + 1) 255 }] } } : State).settle)) ∧
  (∀ s : State, s.takesRequest →
     let b := s.byteTaken 0x0C
     exec .fence s = .next ({ b with mgp := { b.mgp with
       code := 2
       result := if noneAtOrBelow s.pwb.entries s.pwb.counter then .done else .accepted } } : State).fenceArrival.settle)

/-- The head of the fence queue with no entry at or below it left is removed and completes (R73, R76): PDONE owes one pulse
more, up to 255, and fences_completed rises by the weight, FENCE_DONE is flagged, and a lost flag sets FENCE_LOSS. No entry at or below
a marker is left when the age list is empty, or its oldest entry has a seq above the marker; where the seqs rise along the age list,
no entry of it is then at or below the marker. On PDONE, at the
end of a high time the line falls and one pulse less is owed; at the end of a low time it rises when a pulse is owed, and nothing
else changes (R75). -/
def Obligations.MarkersAndPulses : Prop :=
  (∀ m : Word32, noneAtOrBelow [] m = true) ∧
  (∀ (e : Entry) (es : List Entry) (m : Word32), noneAtOrBelow (e :: es) m = isAbove e.seq m) ∧
  (∀ (es : List Entry) (m base : Word32), atOrBelow base m = true → (∀ e ∈ es, atOrBelow base e.seq = true) →
    es.Pairwise (fun e f => (e.seq - base).toNat < (f.seq - base).toNat) →
    (noneAtOrBelow es m = true ↔ ∀ e ∈ es, isAbove e.seq m = true)) ∧
  (∀ s : State, s.alive = true → s.settled →
    (s.fu.high = true → exec .pdonePulseEnd s =
      .next { s with fu := { s.fu with high := false, levelTime := 0, owed := s.fu.owed - 1 } }) ∧
    (s.fu.high = false → 0 < s.fu.owed → exec .pdonePulseStart s =
      .next { s with fu := { s.fu with high := true, levelTime := 0 } }) ∧
    (s.fu.high = false → s.fu.owed = 0 → exec .pdonePulseStart s = .next { s with fu := { s.fu with levelTime := 1 } })) ∧
  ∀ (s : State) (m : Marker) (rest : List Marker), s.alive = true → s.fu.queue = m :: rest →
    noneAtOrBelow s.pwb.entries m.marker = true →
    let starts := s.fu.high = false ∧ 1 ≤ s.fu.levelTime
    exec .markerCompletion s = .next ({ s with
      fu := { s.fu with
        queue := rest
        owed := min (s.fu.owed + 1) 255
        high := s.fu.high || decide starts
        levelTime := if starts then 0 else s.fu.levelTime }
      mgp := { s.mgp with
        counters := s.mgp.counters.raise .fencesCompleted m.weight
        fenceDone := true
        fenceLoss := s.mgp.fenceLoss || m.lost } } : State).settle

/-! ### The arbiter and the memory devices -/

/-- The classes (R135), the eligibility (R134, R136), and the arbiter's choice (R136 to R138). A request of the port, and a SUSPEND,
RESUME, status poll or DEVICE_RESET of an engine or of the metadata unit, is of class 1; a read of the host or its unfinished fetch
of class 2; the probe's and the metadata unit's other requests of class 3, an engine's of class 4, a refill of class 5. A request is
eligible when its device is ONLINE or WRITE_LOCKED, or its transfer is the probe's, and the device's activity admits the command. The
arbiter chooses nothing only when no waiting request is eligible. It takes the eligible request that joined first in the highest
class that holds one; with the starvation count at 8, a class 2 request due and an eligible class 3 or 4 request waiting, the class 3
or 4 request that joined first takes its place. -/
def Obligations.ArbiterChoice : Prop :=
  (∀ r : Request, r.grantClass = match r.requester with
    | .port => 1
    | .hostRead => 2
    | .fetch => 2
    | .probe => 3
    | .mu => if r.cmd = .suspend ∨ r.cmd = .resume ∨ r.cmd = .deviceReset ∨ r.cmd = .readStatus then 1 else 3
    | .engine => if r.cmd = .suspend ∨ r.cmd = .resume ∨ r.cmd = .deviceReset ∨ r.cmd = .readStatus then 1 else 4
    | .refill => 5) ∧
  (∀ (s : State) (r : Request), s.eligible r = true ↔
    (r.requester = .probe ∨ (s.dev r.dev).owner = some .probe ∨ (s.dev r.dev).state = .online ∨
      (s.dev r.dev).state = .writeLocked) ∧
    ((s.dev r.dev).activity = .idle → r.cmd ≠ .suspend ∧ r.cmd ≠ .resume ∧ r.cmd ≠ .readStatus) ∧
    ((s.dev r.dev).activity = .programming → r.cmd = .readStatus ∨ r.cmd = .suspend ∨ r.cmd = .deviceReset) ∧
    ((s.dev r.dev).activity = .suspended → r.cmd = .resume ∨ r.cmd = .deviceReset ∨
      (r.requester = .hostRead ∧ ∃ h, s.rp.host = some h ∧ h.phase = .suspendHeld) ∨
      (r.requester = .fetch ∧ ∃ f, s.rp.fetch = some f ∧ f.phase = .suspendHeld)) ∧
    ((s.dev r.dev).activity = .resetting → r.cmd = .readStatus)) ∧
  ∀ s : State,
    let guarded := s.mp.starve = 8 ∧ (∀ q ∈ s.mp.reqs, s.eligible q = true → q.grantClass ≠ 1) ∧
      (∃ q ∈ s.mp.reqs, s.eligible q = true ∧ q.grantClass = 2) ∧
      (∃ q ∈ s.mp.reqs, s.eligible q = true ∧ (q.grantClass = 3 ∨ q.grantClass = 4))
    (s.choice = none ↔ ∀ q ∈ s.mp.reqs, s.eligible q = false) ∧
    (∀ r, s.choice = some r → ∃ older newer, s.mp.reqs = older ++ r :: newer ∧ s.eligible r = true ∧
      (¬guarded → (∀ q ∈ s.mp.reqs, s.eligible q = true → r.grantClass ≤ q.grantClass) ∧
        ∀ q ∈ older, s.eligible q = true → q.grantClass ≠ r.grantClass) ∧
      (guarded → (r.grantClass = 3 ∨ r.grantClass = 4) ∧
        ∀ q ∈ older, s.eligible q = true → q.grantClass ≠ 3 ∧ q.grantClass ≠ 4))

/-- A grant with the bus free: the transfer of a drain engine, the metadata unit, the port or the probe starts as it was
requested, and one of a host read, an unfinished fetch or a refill with the physical page that the live table names; the starvation
count follows the grant. A read or fetch in SUSPEND_HELD runs under the suspension, with line count 1 (R36, R44). A fetch or refill
that is granted has no record any more. A page found FAILED gives the grant back: a host read completes with FAILED_PAGE, and a fetch
or refill is withdrawn (R34, R40, R44, R137, R138). -/
def Obligations.GrantStartsTransfer : Prop :=
  ∀ (s : State) (r : Request), s.alive = true → s.mp.bus = none → s.choice = some r →
    let starve :=
      if r.grantClass = 2 then
        (if s.mp.reqs.any (fun q => s.eligible q && (q.grantClass == 3 || q.grantClass == 4)) then min (s.mp.starve + 1) 8
         else 0)
      else if r.grantClass = 3 ∨ r.grantClass = 4 then 0
      else s.mp.starve
    let granted (cmd : Cmd) (home : Nat) (held : Bool) : MemoryPort := { s.mp with
      reqs := s.mp.reqs.erase r, starve := starve
      bus := some { req := { r with cmd := cmd }, home := home, underSuspend := held } }
    let without (q : Requester) : MemoryPort := { s.mp with reqs := s.mp.reqs.filter (fun x => x.requester ≠ q) }
    (r.requester ≠ .hostRead → r.requester ≠ .fetch → r.requester ≠ .refill →
      exec .arbiterGrant s = .next ({ s with mp := granted r.cmd 0 false } : State).settle) ∧
    (∀ home line n, r.cmd = .read home line n → s.ru.isFailed r.dev home = false →
      let phys := s.ru.physical r.dev home
      (∀ h, r.requester = .hostRead → s.rp.host = some h →
        (h.phase ≠ .suspendHeld → exec .arbiterGrant s = .next ({ s with
          mp := granted (.read phys line n) home false
          rp := { s.rp with host := some { h with phase := .transfer } } } : State).settle) ∧
        (h.phase = .suspendHeld → exec .arbiterGrant s = .next ({ s with
          mp := granted (.read phys line 1) home true
          rp := { s.rp with host := some { h with phase := .transfer } } } : State).settle)) ∧
      (∀ f, r.requester = .fetch → s.rp.fetch = some f →
        (f.phase ≠ .suspendHeld → exec .arbiterGrant s = .next ({ s with
          mp := granted (.read phys line n) home false, rp := { s.rp with fetch := none } } : State).settle) ∧
        (f.phase = .suspendHeld → exec .arbiterGrant s = .next ({ s with
          mp := granted (.read phys line 1) home true, rp := { s.rp with fetch := none } } : State).settle)) ∧
      (r.requester = .refill → exec .arbiterGrant s = .next ({ s with
        mp := granted (.read phys line n) home false, rp := { s.rp with refill := none } } : State).settle)) ∧
    (∀ home line n, r.cmd = .read home line n → s.ru.isFailed r.dev home = true →
      (∀ h a, r.requester = .hostRead → s.rp.host = some h → h.phase = .queued → s.hp.access = some a →
        exec .arbiterGrant s = .next ({ s with
          hp := { access := some a.failed, lastErr := some { cause := .failedPage, addr := a.addr, dir := a.dir } }
          rp := { s.rp with host := none }
          mp := without .hostRead
          mgp := { s.mgp with counters := s.mgp.counters.raise .errCompletions 1 } } : State).settle) ∧
      (∀ f, r.requester = .fetch → s.rp.fetch = some f → f.phase = .queued → exec .arbiterGrant s =
        .next ({ s with rp := { s.rp with fetch := none }, mp := without .fetch } : State).settle) ∧
      (∀ l, r.requester = .refill → s.rp.refill = some l → exec .arbiterGrant s =
        .next ({ s with rp := { s.rp with refill := none }, mp := without .refill } : State).settle))

/-- The end of the transfer of a host read (R38, R39): the read completes with the newest value the buffer holds of each named byte,
or else the memory's, and 0xFF on a lane it does not name; the lines that came are filled into the read-ahead buffer. A fill takes
the place of a record of the same line, or of the oldest-filled record of a full buffer, and is the newest-filled (R31, R39); after
a return each line that came is held with its bytes. The return of an unfinished fetch, of a refill, or of a host read whose record
has been closed fills its lines alone (R40, R43 to R45). That a page's lines are filled also when it became FAILED while its read
was on the bus is the model's choice (log 43). A read under a suspension is followed by RESUME (R58). -/
def Obligations.HostReadReturns : Prop :=
  (∀ (lines : List LineRecord) (d : Dev) (page line : Nat) (b : List Byte), lines.length ≤ 4 →
    let others := lines.filter (fun r => r.loc ≠ ⟨d, page, line⟩)
    fillLines lines d page line [b] =
      (if others.length = 4 then others.drop 1 else others) ++ [{ loc := ⟨d, page, line⟩, bytes := b }]) ∧
  (∀ (lines : List LineRecord) (d : Dev) (page line : Nat) (bs : List (List Byte)), lines.length ≤ 4 → bs.length ≤ 4 →
    (fillLines lines d page line bs).length ≤ 4 ∧
    ∀ k b, bs[k]? = some b → (fillLines lines d page line bs).find? (fun r => r.loc = ⟨d, page, line + k⟩) =
      some { loc := ⟨d, page, line + k⟩, bytes := b }) ∧
  (∀ (s : State) (t : Transfer) (page line n : Nat) (answer : BusAnswer), s.alive = true → s.mp.bus = some t →
    t.req.cmd = .read page line n →
    t.req.requester = .fetch ∨ t.req.requester = .refill ∨
      t.req.requester = .hostRead ∧ (∀ h, s.rp.host = some h → h.phase ≠ .transfer) →
    let returned : State := { s with
      mp := { s.mp with bus := none }
      rp := { s.rp with
        lines := fillLines s.rp.lines t.req.dev t.home line ((s.nvm.get t.req.dev).readLines page line n) } }
    (t.underSuspend = false → exec (.memoryTransferEnd answer) s = .next returned.settle) ∧
    (∀ c, t.underSuspend = true → s.ctx t.req.dev = some c → c.phase = .suspended → c.suspendStep = some .held →
      (s.dev t.req.dev).takes = true → exec (.memoryTransferEnd answer) s = .next ({ returned with
        de := s.de.set t.req.dev { s.de.get t.req.dev with ctx := some { c with suspendStep := some .resuming } }
        mp := { s.mp with bus := none, reqs := s.mp.reqs ++ [⟨.engine, t.req.dev, .resume⟩] } } : State).settle)) ∧
  ∀ (s : State) (t : Transfer) (h : HostRead) (a : Access) (page line n : Nat) (answer : BusAnswer), s.alive = true →
    s.mp.bus = some t → t.req.requester = .hostRead → t.req.cmd = .read page line n → 1 ≤ n →
    s.rp.host = some h → h.phase = .transfer → s.hp.access = some a → h.positions = lanePositions a.addr a.even a.odd →
    let lines := (s.nvm.get t.req.dev).readLines page line n
    let even := evenPosition a.addr
    let value (k : Nat) : Byte := (forward s.pwb.entries h.loc k).getD (((lines.head?.getD [])[k]?).getD 0)
    let returned : State := { s with
      hp := { s.hp with access := some (a.done ((if a.odd then value (even + 1) else 0xFF) ++
        (if a.even then value even else 0xFF))) }
      mp := { s.mp with bus := none }
      rp := { s.rp with host := none, lines := fillLines s.rp.lines t.req.dev t.home line lines } }
    (t.underSuspend = false → exec (.memoryTransferEnd answer) s = .next returned.settle) ∧
    (∀ c, t.underSuspend = true → s.ctx t.req.dev = some c → c.phase = .suspended → c.suspendStep = some .held →
      (s.dev t.req.dev).takes = true → exec (.memoryTransferEnd answer) s = .next ({ returned with
        de := s.de.set t.req.dev { s.de.get t.req.dev with ctx := some { c with suspendStep := some .resuming } }
        mp := { s.mp with bus := none, reqs := s.mp.reqs ++ [⟨.engine, t.req.dev, .resume⟩] } } : State).settle)

/-- A refill that is withdrawn, programs and resets that start, and status polls (R40, R51, R53, R91, R123, R125, R128 to R130). A
refill not yet granted that a withdrawal names goes, with its request, and no other request goes (R40): the device's when it begins
to program, to reset or to suspend, and the page's when the page is invalidated. At the end of the transfer of a program the device
programs those bytes of that page for the program's owner, its first poll is due in 10 µs, the metadata program time starts at 0 for
the metadata unit's, and a waiting read of the device may ask for a suspend. An engine's batch program has started then, with its
program time and its count of suspends at 0. A spare's program starts its program time at 0; that the count of suspends stays as the
batch program left it is the model's choice (log 45). At the end of a DEVICE_RESET transfer other than the probe's the program
running in the device is aborted, the device is resetting for the block that ordered it, with 1 ms to do it in, and is polled after
10 µs (R125, R129); that a poll of it that waits stays in its queue is the model's choice (log 34). A poll that falls due joins its
queue, when none of the device waits or is on the bus. A result that is neither ready nor suspended is followed by the next poll 10
µs later. Ready with pass ends a batch program whose device no reset is ordered for: its home page is invalidated, its entries
become FREE, programs_completed is raised by one, and the context ends. -/
def Obligations.StatusPolls : Prop :=
  (∀ (s : State) (p : Loc → Bool), ((∀ l, s.rp.refill = some l → p l = false) → s.dropRefill p = s) ∧
     (∀ l, s.rp.refill = some l → p l = true → s.dropRefill p = { s with
       rp := { s.rp with refill := none }
       mp := { s.mp with reqs := s.mp.reqs.filter (fun q => q.requester ≠ .refill) } })) ∧
  (∀ (s : State) (t : Transfer) (d : Dev) (page : Nat) (bytes : List (Option Byte)) (answer : BusAnswer), s.alive = true →
     s.mp.bus = some t → t.req.dev = d →
     t.req.cmd = .programMasked page bytes ∨ (∃ b, t.req.cmd = .programPage page b ∧ bytes = b.map some) →
     let runs (owner : Owner) (muTime : Option Nat) : State := { s with
       nvm := s.nvm.set d { s.nvm.get d with running := some { page := page, bytes := bytes } }
       rp := { s.rp with
         host := s.rp.host.map (fun r => if r.loc.dev = d then { r with asked := false } else r)
         fetch := s.rp.fetch.map (fun r => if r.loc.dev = d then { r with asked := false } else r) }
       mp := { s.mp with
         bus := none
         devs := s.mp.devs.set d { s.dev d with
           activity := .programming, owner := some owner, page := some page, poll := some 10, resetDeadline := none
           muProgramTime := muTime } } }
     (t.req.requester = .mu →
       exec (.memoryTransferEnd answer) s = .next (((runs .mu (some 0)).dropRefill (fun l => l.dev = d)).settle)) ∧
     (∀ c c' : Ctx, t.req.requester = .engine → s.ctx d = some c →
       c.phase = .programming ∧ c' = { c with
         started := true, programTime := 0, suspendsUsed := 0, suspendSent := false, ackTime := none } ∨
       c.phase = .retireProgram ∧ c' = { c with programTime := 0, suspendSent := false, ackTime := none } →
       exec (.memoryTransferEnd answer) s = .next ((({ runs .engine none with
         de := s.de.set d { s.de.get d with ctx := some c' } } : State).dropRefill (fun l => l.dev = d)).settle))) ∧
  (∀ (s : State) (t : Transfer) (d : Dev) (answer : BusAnswer), s.alive = true → s.mp.bus = some t →
     t.req = ⟨.engine, d, .deviceReset⟩ ∨ t.req = ⟨.mu, d, .deviceReset⟩ →
     exec (.memoryTransferEnd answer) s = .next ((({ s with
       nvm := (s.nvmSpoil d).nvm, indet := (s.nvmSpoil d).indet
       mp := { s.mp with
         bus := none
         devs := s.mp.devs.set d { s.dev d with
           activity := .resetting, owner := if t.req.requester = .mu then some .mu else some .engine, page := none
           poll := some 10, resetDeadline := some 1000, muProgramTime := none } } } : State).dropRefill
             (fun l => l.dev = d)).settle)) ∧
  (∀ (s : State) (t : Transfer) (d : Dev), s.alive = true → s.mp.bus = some t → t.req.cmd = .readStatus → t.req.dev = d →
     (∀ answer, (s.dev d).activity = .programming ∨ (s.dev d).activity = .resetting →
       answer = .status .busy ∨ answer = .status .invalid →
       exec (.memoryTransferEnd answer) s = .next ({ s with mp := { s.mp with
         bus := none, devs := s.mp.devs.set d { s.dev d with poll := some 10 } } } : State).settle) ∧
     (∀ c, (s.dev d).activity = .programming → (s.dev d).owner = some .engine → s.waits (isResetOf d) = false →
       s.ctx d = some c → c.phase = .programming →
       exec (.memoryTransferEnd (.status .readyPass)) s = .next ((({ s with
         nvm := (s.nvmPass d).nvm
         rp := { s.rp with lines := s.rp.lines.filter (fun r => !(r.loc.dev = d && r.loc.page = c.home)) }
         pwb := { s.pwb with entries := s.pwb.entries.filter (fun e =>
           !(e.loc.dev = d && e.state = .draining && c.entrySet.contains e.seq)) }
         mgp := { s.mgp with counters := s.mgp.counters.raise .programsCompleted 1 }
         de := s.de.set d { s.de.get d with ctx := none }
         mp := { s.mp with
           bus := none
           devs := s.mp.devs.set d { s.dev d with
             activity := .idle, owner := none, page := none, poll := none, resetDeadline := none, muProgramTime := none } } } :
           State).dropRefill (fun l => l.dev = d && l.page = c.home)).settle))) ∧
  (∀ (s : State) (d : Dev), s.alive = true → (s.dev d).poll.isSome = true → s.waits (isPollOf d) = false →
     s.onBus (isPollOf d) = false → (s.dev d).takes = true ∨ (s.dev d).owner = some .probe →
     exec (.statusPollDue d) s = .next ({ s with mp := { s.mp with
       reqs := s.mp.reqs ++ [⟨.port, d, .readStatus⟩]
       devs := s.mp.devs.set d { s.dev d with poll := some 0 } } } : State).settle)

/-- Suspensions (R36, R52, R57, R58, R131). At the end of a SUSPEND that is asked for, the acknowledgement limit runs. A status
result of suspended, with no reset of the device waiting, stops the device's polls; then: in ASKED with a SUSPEND sent it is the
acknowledgement, and the suspension is held for the read that asked, or resumed at once when that read is gone (that a newer SUSPEND
still waiting is withdrawn is the model's choice, log 20); in ASKED with none sent the port asks for RESUME, and no read is granted;
in PROGRAMMING it is late, and RESUME is asked for, by the engine if it sent a SUSPEND and by the port if not; and for a program of
the metadata unit the port asks for RESUME. At the end of the RESUME the device programs on, polled again after 10 µs, and the
context is in PROGRAMMING again, but for a suspend that is still asked for. A completion that meets a suspend in ASKED is taken as
any other, and the suspend is given up: a SUSPEND still waiting is withdrawn, and the read that asked waits again (R53, R54, R57;
what a fail then brings is in RetirementBegins). A refill of the device that waits is withdrawn when the device suspends (R40;
`State.dropRefill` is spelled in StatusPolls). -/
def Obligations.Suspensions : Prop :=
  (∀ (s : State) (t : Transfer) (d : Dev) (c : Ctx) (answer : BusAnswer), s.alive = true → s.mp.bus = some t →
     t.req.dev = d → s.ctx d = some c →
     (t.req.cmd = .suspend → c.phase = .suspended → c.suspendStep = some .asked →
       exec (.memoryTransferEnd answer) s = .next ({ s with
         mp := { s.mp with bus := none }
         de := s.de.set d { s.de.get d with ctx := some { c with suspendSent := true, ackTime := some 0 } } } :
           State).settle) ∧
     (t.req.cmd = .resume → (s.dev d).activity = .suspended →
       let resumed : State := { s with
         mp := { s.mp with
           bus := none, devs := s.mp.devs.set d { s.dev d with activity := .programming, poll := some 10 } } }
       (c.phase = .suspended → c.suspendStep ≠ some .asked → exec (.memoryTransferEnd answer) s = .next ({ resumed with
         de := s.de.set d { s.de.get d with ctx := some { c with phase := .programming, suspendStep := none } } } :
           State).settle) ∧
       (c.phase ≠ .suspended ∨ c.suspendStep = some .asked →
         exec (.memoryTransferEnd answer) s = .next resumed.settle))) ∧
  (∀ (s : State) (t : Transfer) (d : Dev), s.alive = true → s.mp.bus = some t → t.req.cmd = .readStatus → t.req.dev = d →
     (s.dev d).activity = .programming → s.waits (isResetOf d) = false → (s.dev d).takes = true →
     let stops (u : State) : State := u.dropRefill (fun l => l.dev = d)
     let devs := s.mp.devs.set d { s.dev d with activity := .suspended, poll := none }
     let asks (r : Requester) : MemoryPort := { s.mp with bus := none, devs := devs, reqs := s.mp.reqs ++ [⟨r, d, .resume⟩] }
     let others := s.mp.reqs.filter (fun q => ¬(q.cmd = .suspend ∧ q.dev = d))
     ((s.dev d).owner = some .mu → exec (.memoryTransferEnd (.status .suspended)) s =
       .next ((stops { s with mp := asks .port }).settle)) ∧
     (∀ c, (s.dev d).owner = some .engine → s.ctx d = some c →
       (c.phase = .suspended → c.suspendStep = some .asked → c.suspendSent = true → s.readIn d .suspendAsked = true →
         exec (.memoryTransferEnd (.status .suspended)) s = .next ((stops { s with
           mp := { s.mp with bus := none, devs := devs, reqs := others }
           de := s.de.set d { s.de.get d with ctx := some { c with suspendStep := some .held, ackTime := none } }
           rp := { s.rp with
             host := s.rp.host.map (fun r =>
               if r.loc.dev = d ∧ r.phase = .suspendAsked then { r with phase := .suspendHeld } else r)
             fetch := s.rp.fetch.map (fun r =>
               if r.loc.dev = d ∧ r.phase = .suspendAsked then { r with phase := .suspendHeld } else r) } }).settle)) ∧
       (c.phase = .suspended → c.suspendStep = some .asked → c.suspendSent = true → s.readIn d .suspendAsked = false →
         exec (.memoryTransferEnd (.status .suspended)) s = .next ((stops { s with
           mp := { s.mp with bus := none, devs := devs, reqs := others ++ [⟨.engine, d, .resume⟩] }
           de := s.de.set d { s.de.get d with ctx := some { c with suspendStep := some .resuming, ackTime := none } } }).settle)) ∧
       (c.phase = .suspended → c.suspendStep = some .asked → c.suspendSent = false →
         exec (.memoryTransferEnd (.status .suspended)) s = .next ((stops { s with mp := asks .port }).settle)) ∧
       (c.phase = .programming → c.suspendSent = true →
         exec (.memoryTransferEnd (.status .suspended)) s = .next ((stops { s with
           mp := asks .engine
           de := s.de.set d { s.de.get d with ctx := some { c with
             phase := .suspended, suspendStep := some .resuming, ackTime := none } } }).settle)) ∧
       (c.phase = .programming → c.suspendSent = false →
         exec (.memoryTransferEnd (.status .suspended)) s = .next ((stops { s with mp := asks .port }).settle)))) ∧
  (∀ (s : State) (t : Transfer) (d : Dev) (c : Ctx), s.alive = true → s.mp.bus = some t → t.req.cmd = .readStatus →
     t.req.dev = d → (s.dev d).activity = .programming → (s.dev d).owner = some .engine → s.waits (isResetOf d) = false →
     s.ctx d = some c → c.phase = .suspended → c.suspendStep = some .asked →
     let ended (u : State) : State := { u with
       rp := { s.rp with
         lines := s.rp.lines.filter (fun r => !(r.loc.dev = d && r.loc.page = c.home))
         host := s.rp.host.map (fun r => if r.loc.dev = d ∧ r.phase = .suspendAsked then { r with phase := .queued } else r)
         fetch := s.rp.fetch.map (fun r =>
           if r.loc.dev = d ∧ r.phase = .suspendAsked then { r with phase := .queued } else r) }
       mp := { s.mp with
         bus := none
         reqs := s.mp.reqs.filter (fun q => ¬(q.cmd = .suspend ∧ q.dev = d))
         devs := s.mp.devs.set d { s.dev d with
           activity := .idle, owner := none, page := none, poll := none, resetDeadline := none, muProgramTime := none } } }
     let here (l : Loc) : Bool := l.dev = d && l.page = c.home
     exec (.memoryTransferEnd (.status .readyPass)) s = .next (((ended { s with
       nvm := (s.nvmPass d).nvm
       pwb := { s.pwb with entries := s.pwb.entries.filter (fun e =>
         !(e.loc.dev = d && e.state = .draining && c.entrySet.contains e.seq)) }
       mgp := { s.mgp with counters := s.mgp.counters.raise .programsCompleted 1 }
       de := s.de.set d { s.de.get d with ctx := none } }).dropRefill here).settle) ∧
     exec (.memoryTransferEnd (.status .readyFail)) s = .next ((((ended { s with
       nvm := (s.nvmSpoil d).nvm, indet := (s.nvmSpoil d).indet }).dropRefill here).batchFails d c).settle))

/-- A batch program has failed, or the reset after its timeout has completed (R54, R61, R65, R89). Its page is invalidated, and the
context enters RETIRE_READ with no attempt made and no image: with a free spare it asks for a read of the old page, or, with its
engine told to stop, is STOPPED before that; with none the page is unremappable (RemapChanges says what that brings). When the read
returns (R89 to R91) its bytes are the old page image, the lowest free spare moves into the candidate hold, with SPARES_LOW queued
when that leaves 4, and a program of the spare is asked for, of the image with the batch laid over it; an engine told to stop takes
the spare too, and its context is STOPPED before that program (R65). -/
def Obligations.RetirementBegins : Prop :=
  (∀ (s : State) (d : Dev) (c : Ctx),
     let begun : Ctx := { c with
       phase := .retireRead, started := false, suspendStep := none, ackTime := none, attempts := 0, image := none }
     (s.ru.free.get d = [] → s.batchFails d c = s.unremappable d begun false) ∧
     (s.ru.free.get d ≠ [] → (s.de.get d).stopping = false → (s.dev d).takes = true → s.batchFails d c = { s with
       de := s.de.set d { s.de.get d with ctx := some begun }
       mp := { s.mp with reqs := s.mp.reqs ++ [⟨.engine, d, .read c.phys 0 16⟩] } }) ∧
     (s.ru.free.get d ≠ [] → (s.de.get d).stopping = true → s.batchFails d c = { s with
       de := s.de.set d { s.de.get d with ctx := some { begun with phase := .stopped, before := some .retireRead } } })) ∧
  (∀ (s : State) (t : Transfer) (d : Dev) (c : Ctx), s.alive = true → s.mp.bus = some t → t.req.cmd = .readStatus →
     t.req.dev = d → (s.dev d).owner = some .engine → s.ctx d = some c →
     let mp : MemoryPort := { s.mp with
       bus := none
       devs := s.mp.devs.set d { s.dev d with
         activity := .idle, owner := none, page := none, poll := none, resetDeadline := none, muProgramTime := none } }
     ((s.dev d).activity = .programming → s.waits (isResetOf d) = false → c.phase = .programming →
       exec (.memoryTransferEnd (.status .readyFail)) s = .next (((({ s with
         nvm := (s.nvmSpoil d).nvm, indet := (s.nvmSpoil d).indet, mp := mp
         rp := { s.rp with lines := s.rp.lines.filter (fun r => !(r.loc.dev = d && r.loc.page = c.home)) } } :
           State).dropRefill (fun l => l.dev = d && l.page = c.home)).batchFails d c).settle)) ∧
     (∀ r, (s.dev d).activity = .resetting → c.phase = .resetting → c.candidate = none → r = .readyPass ∨ r = .readyFail →
       exec (.memoryTransferEnd (.status r)) s = .next ((({ s with mp := mp } : State).batchFails d c).settle))) ∧
  (∀ (s : State) (t : Transfer) (d : Dev) (c : Ctx) (page line n : Nat) (answer : BusAnswer),
     s.alive = true → s.mp.bus = some t → t.req = ⟨.engine, d, .read page line n⟩ → s.ctx d = some c →
     c.phase = .retireRead → c.candidate = none →
     let image := (s.nvm.get d).readBytes page line n
     let read : State := { s with mp := { s.mp with bus := none } }
     (s.ru.free.get d = [] →
       exec (.memoryTransferEnd answer) s = .next ((read.unremappable d { c with image := some image } false).settle)) ∧
     (∀ p rest, s.ru.free.get d = p :: rest →
       let tries : Ctx := { c with phase := .retireProgram, image := some image, candidate := some p, programTime := 0 }
       let took (c : Ctx) (reqs : List Request) : State := { read with
         ru := { s.ru with free := s.ru.free.set d rest, hold := s.ru.hold.set d (some p) }
         de := s.de.set d { s.de.get d with ctx := some c }
         mp := { read.mp with reqs := s.mp.reqs ++ reqs } }
       let low (u : State) : State := if rest.length = 4 then u.postFault .sparesLow (some d) none (some 4) else u
       ((s.de.get d).stopping = false → (s.dev d).takes = true → exec (.memoryTransferEnd answer) s =
         .next ((low (took tries [⟨.engine, d, .programPage p (overlayBytes image c.batch)⟩])).settle)) ∧
       ((s.de.get d).stopping = true → exec (.memoryTransferEnd answer) s =
         .next ((low (took { tries with phase := .stopped, before := some .retireProgram } [])).settle)))) ∧
  (∀ (image : List Byte) (batch : List (Option Byte)) (k : Nat), image.length = 256 → batch.length = 256 →
     (overlayBytes image batch)[k]? = match byteAt batch k with
       | some v => some v
       | none => image[k]?)

/-- The remap unit's answers and changes (R65, R84, R86 to R88, R91 to R97). A page is FAILED when the table has a FAILED entry for
it; the physical page of a home page is the spare its REMAP entry names, or itself. A page that cannot be remapped, with fewer than
8 pages FAILED, is FAILED in that event: in the place of its REMAP entry, whose spare is RETIRED_SPARE at the end, or at the end; it
is invalidated, the change number rises by one, but once in an event, and the context awaits the persist, or, with a metadata fault
of the remap kind, its entries are LOST with RETIRE_FAIL. With 8 pages FAILED already its entries are LOST with DEVICE_WRITE_LOCKED,
and the device is WRITE_LOCKED. When the program of a candidate spare fails, or is reset after its timeout, the page is invalidated,
the spare is RETIRED_SPARE at the end, and the next free spare is tried, with SPARES_LOW queued when that leaves 4; with 3 attempts
made, or no free spare, the page cannot be remapped. When it passes, the spare takes the place that the page's REMAP entry names,
whose old spare is RETIRED_SPARE at the end, or a REMAP entry is appended; the hold is empty, the change number rises by one, a
remap persist is asked for, retirements counts one, PROGRAM_FAIL is queued for a drain batch, and the context awaits the change.
With its engine told to stop the context is STOPPED, before the phase that would follow (R65). -/
def Obligations.RemapChanges : Prop :=
  (∀ (u : RemapUnit) (d : Dev) (page : Nat), u.isFailed d page = true ↔ RemapEntry.failed d page ∈ u.table) ∧
  (∀ (u : RemapUnit) (d : Dev) (page : Nat), (∀ p, RemapEntry.remap d page p ∉ u.table) → u.physical d page = page) ∧
  (∀ (u : RemapUnit) (d : Dev) (page p : Nat) (before after : List RemapEntry),
     u.table = before ++ .remap d page p :: after → (∀ q, RemapEntry.remap d page q ∉ before) → u.physical d page = p) ∧
  (∀ (s : State) (d : Dev) (c : Ctx),
     let here (l : Loc) : Bool := l.dev = d && l.page = c.home
     let invalid : ReadPath := { s.rp with lines := s.rp.lines.filter (fun r => !here r.loc) }
     let taken (x : Entry) : Bool := x.loc.dev = d && x.state = .draining && c.entrySet.contains x.seq
     let lost := s.pwb.entries.countP taken
     let loses (u : State) (kind : FaultKind) : State := ({ u with
       pwb := { s.pwb with entries := s.pwb.entries.filter (fun x => !taken x) }
       fu := s.fu.markLost ((s.pwb.entries.filter taken).map Entry.seq)
       de := s.de.set d { s.de.get d with ctx := none }
       mgp := { s.mgp with counters := s.mgp.counters.raise .entriesLost lost } } : State).postFault kind (some d)
         (some c.home) (some lost)
     (∀ table changed, failedCount s.ru.table < 8 →
       ((∀ q, RemapEntry.remap d c.home q ∉ s.ru.table) ∧ table = s.ru.table ++ [.failed d c.home]) ∨
         (∃ before old after, s.ru.table = before ++ .remap d c.home old :: after ∧
           (∀ q, RemapEntry.remap d c.home q ∉ before ∧ RemapEntry.remap d c.home q ∉ after) ∧
           table = before ++ .failed d c.home :: after ++ [.retiredSpare d old]) →
       let change := if changed then s.ru.change else s.ru.change + 1
       let failed : State := ({ s with
         rp := invalid
         ru := { s.ru with table := table, change := change }
         mu := if changed then s.mu else { s.mu with remap := { s.mu.remap with pending := true } } } : State).dropRefill here
       let waits : Ctx := { c with phase := .awaitPersist, awaited := some change, candidate := none, image := none }
       (s.mu.remap.fault = false → (s.de.get d).stopping = false → s.unremappable d c changed = { failed with
         de := s.de.set d { s.de.get d with ctx := some waits } }) ∧
       (s.mu.remap.fault = false → (s.de.get d).stopping = true → s.unremappable d c changed = { failed with
         de := s.de.set d { s.de.get d with ctx := some { waits with phase := .stopped, before := some .awaitPersist } } }) ∧
       (s.mu.remap.fault = true → s.unremappable d c changed = loses failed .retireFail)) ∧
     (∀ changed, 8 ≤ failedCount s.ru.table → s.unremappable d c changed = { loses s .deviceWriteLocked with
       mp := { s.mp with devs := s.mp.devs.set d { s.dev d with state := .writeLocked } } }) ∧
     (∀ p,
       let next : State := ({ s with
         rp := invalid
         ru := { s.ru with
           table := s.ru.table ++ [.retiredSpare d p], hold := s.ru.hold.set d none, change := s.ru.change + 1 }
         mu := { s.mu with remap := { s.mu.remap with pending := true } } } : State).dropRefill here
       let again : Ctx := { c with candidate := none, attempts := c.attempts + 1 }
       (s.ru.free.get d = [] ∨ 2 ≤ c.attempts → s.spareFails d c p = next.unremappable d again true) ∧
       (∀ q rest image, c.attempts < 2 → c.image = some image → s.ru.free.get d = q :: rest →
         let tries : Ctx := { again with phase := .retireProgram, candidate := some q, programTime := 0 }
         let took (c : Ctx) (reqs : List Request) : State := { next with
           ru := { next.ru with free := s.ru.free.set d rest, hold := s.ru.hold.set d (some q) }
           de := s.de.set d { s.de.get d with ctx := some c }
           mp := { next.mp with reqs := next.mp.reqs ++ reqs } }
         let low (u : State) : State := if rest.length = 4 then u.postFault .sparesLow (some d) none (some 4) else u
         ((s.de.get d).stopping = false → (s.dev d).takes = true → s.spareFails d c p =
           low (took tries [⟨.engine, d, .programPage q (overlayBytes image c.batch)⟩])) ∧
         ((s.de.get d).stopping = true → s.spareFails d c p =
           low (took { tries with phase := .stopped, before := some .retireProgram } []))))) ∧
  (∀ (s : State) (t : Transfer) (d : Dev) (c : Ctx) (p : Nat), s.alive = true → s.mp.bus = some t →
     t.req.cmd = .readStatus → t.req.dev = d → (s.dev d).owner = some .engine → s.ctx d = some c → c.candidate = some p →
     let mp : MemoryPort := { s.mp with
       bus := none
       devs := s.mp.devs.set d { s.dev d with
         activity := .idle, owner := none, page := none, poll := none, resetDeadline := none, muProgramTime := none } }
     (∀ r, (s.dev d).activity = .resetting → c.phase = .resetting → r = .readyPass ∨ r = .readyFail →
       exec (.memoryTransferEnd (.status r)) s = .next ((({ s with mp := mp } : State).spareFails d c p).settle)) ∧
     ((s.dev d).activity = .programming → s.waits (isResetOf d) = false → c.phase = .retireProgram →
       exec (.memoryTransferEnd (.status .readyFail)) s = .next ((({ s with
         nvm := (s.nvmSpoil d).nvm, indet := (s.nvmSpoil d).indet, mp := mp } : State).spareFails d c p).settle) ∧
       (∀ table, s.ru.isFailed d c.home = false →
         ((∀ q, RemapEntry.remap d c.home q ∉ s.ru.table) ∧ table = s.ru.table ++ [.remap d c.home p]) ∨
           (∃ before old after, s.ru.table = before ++ .remap d c.home old :: after ∧
             (∀ q, RemapEntry.remap d c.home q ∉ before ∧ RemapEntry.remap d c.home q ∉ after) ∧
             table = before ++ .remap d c.home p :: after ++ [.retiredSpare d old]) →
         let waits : Ctx := { c with
           phase := .awaitPersist, awaited := some (s.ru.change + 1), candidate := none, image := none }
         let passed (c : Ctx) : State := ({ s with
           nvm := (s.nvmPass d).nvm, mp := mp
           rp := { s.rp with lines := s.rp.lines.filter (fun r => !(r.loc.dev = d && r.loc.page = c.home)) }
           ru := { s.ru with table := table, hold := s.ru.hold.set d none, change := s.ru.change + 1 }
           mu := { s.mu with remap := { s.mu.remap with pending := true } }
           mgp := { s.mgp with counters := s.mgp.counters.raise .retirements 1 }
           de := s.de.set d { s.de.get d with ctx := some c } } : State).dropRefill (fun l => l.dev = d && l.page = c.home)
         let posted (u : State) : State :=
           if c.kind = .drain then u.postFault .programFail (some d) (some c.home) (some p) else u
         ((s.de.get d).stopping = false →
           exec (.memoryTransferEnd (.status .readyPass)) s = .next ((posted (passed waits)).settle)) ∧
         ((s.de.get d).stopping = true → exec (.memoryTransferEnd (.status .readyPass)) s =
           .next ((posted (passed { waits with phase := .stopped, before := some .awaitPersist })).settle)))))

/-- The limits of a program. The acknowledgement limit gives the suspend up, with its count spent, and the read that asked waits
again (R57). The program time limit of an engine's program gives up a suspend in ASKED, with a SUSPEND still waiting withdrawn and
its read waiting again (R57), invalidates the home page, with a waiting refill of it withdrawn (R40), queues PROGRAM_TIMEOUT, and
orders a reset of the device (R60). That of a metadata program queues PROGRAM_TIMEOUT and orders a reset of device 0 (R130). -/
def Obligations.ProgramLimitsExpire : Prop :=
  (∀ (s : State) (d : Dev) (c : Ctx), s.alive = true → s.ctx d = some c → c.phase = .suspended →
    c.suspendStep = some .asked → c.ackTime.isSome = true → exec (.suspendAckLimitExpiry d) s = .next ({ s with
      de := s.de.set d { s.de.get d with ctx := some { c with phase := .programming, suspendStep := none, ackTime := none } }
      rp := { s.rp with
        host := s.rp.host.map (fun r => if r.loc.dev = d ∧ r.phase = .suspendAsked then { r with phase := .queued } else r)
        fetch := s.rp.fetch.map (fun r =>
          if r.loc.dev = d ∧ r.phase = .suspendAsked then { r with phase := .queued } else r) } } : State).settle) ∧
  (∀ (s : State) (d : Dev) (c : Ctx), s.alive = true → s.ctx d = some c → (s.dev d).activity = .programming →
    (s.dev d).owner = some .engine → (s.dev d).takes = true →
    let asked := c.phase = .suspended ∧ c.suspendStep = some .asked
    c.phase = .programming ∨ c.phase = .retireProgram ∨ asked →
    let answered (p : ReadPhase) (l : Loc) : ReadPhase := if asked ∧ l.dev = d ∧ p = .suspendAsked then .queued else p
    exec (.programTimeLimitExpiry d) s = .next (((({ s with
      rp := { s.rp with
        lines := s.rp.lines.filter (fun r => !(r.loc.dev = d && r.loc.page = c.home))
        host := s.rp.host.map (fun r => { r with phase := answered r.phase r.loc })
        fetch := s.rp.fetch.map (fun r => { r with phase := answered r.phase r.loc }) }
      de := s.de.set d { s.de.get d with ctx := some { c with
        phase := .resetting, started := false, suspendStep := none, ackTime := none, programTime := 4000 } }
      mp := { s.mp with reqs :=
        s.mp.reqs.filter (fun q => ¬(asked ∧ q.cmd = .suspend ∧ q.dev = d)) ++ [⟨.engine, d, .deviceReset⟩] } } :
          State).dropRefill (fun l => l.dev = d && l.page = c.home)).postFault .programTimeout (some d)
            (some c.home) none).settle)) ∧
  (∀ s : State, s.alive = true → (s.dev .d0).activity = .programming → (s.dev .d0).owner = some .mu →
    (s.dev .d0).takes = true → s.resetOrdered .d0 = false → exec .metadataProgramTimeExpiry s = .next ((({ s with
      mp := { s.mp with
        devs := { s.mp.devs with d0 := { s.mp.devs.d0 with muProgramTime := some 4000 } }
        reqs := s.mp.reqs ++ [⟨.mu, .d0, .deviceReset⟩] } } : State).postFault .programTimeout (some .d0) (s.dev .d0).page
          none).settle))

/-- The reset deadline runs out, of a reset other than the probe's (R129, R133; the probe's is in ProbeRuns). The device is
OFFLINE: its program is over, its requests, its context, its entries and its read-ahead records are gone. A host read of it that has
no transfer yet, and a write to it that waits for an entry, complete with DEVICE_UNAVAILABLE (R10, R42). DEVICE_OFFLINE is queued with
the number of entries lost, which are counted, and the entries and lines of the other device stay; what a write of the state
controller, or the end of a restart, brings in the same event may add to that. For device 1 the entries of device 0 and the metadata
unit stay as they are. For device 0 both kinds of metadata fault are raised, and a restart is given up (R149, R164). -/
def Obligations.ResetDeadlineExpires : Prop :=
  ∀ (s : State) (d : Dev), s.alive = true → (s.dev d).activity = .resetting → (s.dev d).owner ≠ some .probe →
    let lost := s.pwb.entries.countP (fun e => e.loc.dev = d)
    let posted := (s.postFault .deviceOffline (some d) none (some lost)).mgp.faults
    let unavailable (a : Access) : HostPort :=
      { access := some a.failed, lastErr := some { cause := .deviceUnavailable, addr := a.addr, dir := a.dir } }
    ∃ t : State, exec (.resetDeadlineExpiry d) s = .next t.settle ∧ t.dev d = { DevRecord.reset with state := .offline } ∧
      t.ctx d = none ∧ (∀ q ∈ t.mp.reqs, q.dev ≠ d) ∧ (∀ e ∈ t.pwb.entries, e.loc.dev ≠ d) ∧
      (∀ r ∈ t.rp.lines, r.loc.dev ≠ d) ∧ posted <+: t.mgp.faults ∧
      (d = .d1 ∨ (∀ w n, s.mu.op ≠ some (.write w n)) ∧ s.sc.state ≠ .restarting →
        t.pwb.entries = s.pwb.entries.filter (fun e => e.loc.dev ≠ d) ∧ t.mgp.faults = posted ∧
          t.rp.lines = s.rp.lines.filter (fun r => r.loc.dev ≠ d) ∧
          t.mgp.counters.entriesLost = satAdd s.mgp.counters.entriesLost lost) ∧
      (∀ r a, s.rp.host = some r → r.loc.dev = d → r.phase ≠ .transfer → s.hp.access = some a → s.pwb.waiting = none →
        t.rp.host = none ∧ t.hp = unavailable a ∧
          t.mgp.counters.errCompletions = satAdd s.mgp.counters.errCompletions 1) ∧
      (∀ w a, s.pwb.waiting = some w → w.loc.dev = d → s.hp.access = some a → s.rp.host = none →
        t.pwb.waiting = none ∧ t.hp = unavailable a ∧
          t.mgp.counters.errCompletions = satAdd s.mgp.counters.errCompletions 1) ∧
      (d = .d0 → t.mu.config.fault = true ∧ t.mu.remap.fault = true ∧ (s.sc.state = .restarting → t.sc.state = .run)) ∧
      (d = .d1 → t.mu = s.mu ∧ t.ctx .d0 = s.ctx .d0 ∧ t.dev .d0 = s.dev .d0)

/-- The probe at boot (R126, R127, R157). The end of its first DEVICE_RESET asks for the second; each device is then resetting for
the probe, with 1 ms to do it in. A reset of it is settled by a ready result, or by its deadline, which leaves the device ABSENT;
that a poll of the device that waits stays in its queue is the model's choice (log 34). With both settled an IDENTIFY goes to each
device whose reset ended ready, device 0 first. An accepted answer makes the device ONLINE, and any other leaves it as it was. When
that is done, or when neither reset ended ready, the probe is over: with device 0 taking transfers the load begins with the read of
page 8186, and without it NO_DEVICE0 is set and the part halts. -/
def Obligations.ProbeRuns : Prop :=
  let loading (u : State) : State := { u with
    sc := { u.sc with step := some .load }
    mu := { u.mu with op := some (.load []) }
    mp := { u.mp with probe := none, reqs := u.mp.reqs ++ [⟨.mu, .d0, .read 8186 0 16⟩] } }
  let halted (u : State) : State := { u with
    sc := { u.sc with noDevice0 := true, state := .halted, step := none, returnWrite := false, plan := none }
    mp := { u.mp with probe := none } }
  let asking (u : State) (d : Dev) (cmd : Cmd) : State := { u with mp := { u.mp with
    reqs := u.mp.reqs ++ [⟨.probe, d, cmd⟩] } }
  (∀ (s : State) (t : Transfer) (d : Dev) (answer : BusAnswer), s.alive = true → s.mp.bus = some t →
    t.req = ⟨.probe, d, .deviceReset⟩ → s.mp.probe.isSome = true →
    let resetting : State := { s with
      nvm := (s.nvmSpoil d).nvm, indet := (s.nvmSpoil d).indet
      mp := { s.mp with
        bus := none
        devs := s.mp.devs.set d { s.dev d with
          activity := .resetting, owner := some .probe, page := none, poll := some 10, resetDeadline := some 1000
          muProgramTime := none } } }
    exec (.memoryTransferEnd answer) s =
      .next (((if d = .d0 then asking resetting .d1 .deviceReset else resetting).dropRefill (fun l => l.dev = d)).settle)) ∧
  (∀ (s : State) (d : Dev) (p : PerDev (Option Bool)) (i : Instr) (u : State) (ready : Bool), s.alive = true →
    (s.dev d).activity = .resetting → (s.dev d).owner = some .probe → s.mp.probe = some p →
    let q := p.set d (some ready)
    (ready = false ∧ i = .resetDeadlineExpiry d ∧
      u = { s with mp := { s.mp with probe := some q, devs := s.mp.devs.set d DevRecord.reset } } ∨
     ready = true ∧ (i = .memoryTransferEnd (.status .readyPass) ∨ i = .memoryTransferEnd (.status .readyFail)) ∧
      (∃ t, s.mp.bus = some t ∧ t.req.cmd = .readStatus ∧ t.req.dev = d) ∧
      u = { s with mp := { s.mp with
        bus := none, probe := some q
        devs := s.mp.devs.set d { DevRecord.reset with state := (s.dev d).state } } }) →
    (q.d0 = none ∨ q.d1 = none → exec i s = .next u.settle) ∧
    (q.d0 = some true → q.d1.isSome = true → exec i s = .next (asking u .d0 .identify).settle) ∧
    (q.d0 = some false → q.d1 = some true → exec i s = .next (asking u .d1 .identify).settle) ∧
    (q.d0 = some false → q.d1 = some false → (u.dev .d0).takes = false → exec i s = .next (halted u).settle)) ∧
  (∀ (s : State) (t : Transfer) (d : Dev) (p : PerDev (Option Bool)) (answer : BusAnswer), s.alive = true →
    s.mp.bus = some t → t.req = ⟨.probe, d, .identify⟩ → s.mp.probe = some p →
    let u : State := { s with mp := { s.mp with
      bus := none
      devs := if answer = .identity true 8192 then s.mp.devs.set d { s.dev d with state := .online } else s.mp.devs } }
    (d = .d0 → p.d1 = some true → exec (.memoryTransferEnd answer) s = .next (asking u .d1 .identify).settle) ∧
    (d = .d1 ∨ p.d1 ≠ some true →
      ((u.dev .d0).takes = true → exec (.memoryTransferEnd answer) s = .next (loading u).settle) ∧
      ((u.dev .d0).takes = false → exec (.memoryTransferEnd answer) s = .next (halted u).settle)))

/-! ### The drain engines and the metadata unit -/

/-- A drain gather (R21, R48 to R51): the oldest SEALED entry of the device fixes the home page, every entry of the page becomes
DRAINING, and a context is made whose program of the physical page is requested; on a FAILED page the entries are declared LOST
with one RETIRE_FAIL record instead. At each byte the batch holds the newest value that an entry of the set gives. A declaration sets
the lost flag of every queued marker, and of the wait record, that is at or above a seq declared, and nothing else in the fence unit
(R74, R79). -/
def Obligations.DrainGather : Prop :=
  (∀ (f : FenceUnit) (seqs : List Word32), f.markLost seqs = { f with
    queue := f.queue.map (fun m => { m with lost := m.lost || decide (∃ q ∈ seqs, atOrBelow q m.marker = true) })
    wait := f.wait.map (fun w => { w with lost := w.lost || decide (∃ q ∈ seqs, atOrBelow q w.seq = true) }) }) ∧
  (∀ (s : State) (d : Dev) (e : Entry), s.alive = true → s.ctx d = none → (s.dev d).takes = true →
    (s.dev d).activity = .idle → s.sc.state = .run ∨ s.sc.state = .replay ∨ s.sc.state = .restarting →
    s.pwb.entries.find? (fun x => x.loc.dev = d && x.state = .sealed) = some e →
    let page := e.loc.page
    let taken (x : Entry) : Bool := x.loc.dev = d && x.loc.page = page && x.state != .draining
    let set := s.pwb.entries.filter taken
    let context : Ctx :=
      { home := page, phys := s.ru.physical d page, kind := .drain, phase := .programming, entrySet := set.map Entry.seq
        batch := formBatch set, started := false, suspendStep := none, suspendsUsed := 0, suspendSent := false
        ackTime := none, programTime := 0, attempts := 0, candidate := none, image := none, awaited := none, before := none }
    (s.ru.isFailed d page = false → exec (.drainGather d) s = .next ({ s with
      pwb := { s.pwb with entries := s.pwb.entries.map (fun x =>
        if taken x then { x with state := .draining, deadline := none } else x) }
      de := s.de.set d { s.de.get d with ctx := some context }
      mp := { s.mp with reqs := s.mp.reqs ++
        [⟨.engine, d, .programMasked (s.ru.physical d page) (formBatch set)⟩] } } : State).settle) ∧
    (s.ru.isFailed d page = true → (∀ x ∈ s.pwb.entries, x.loc.dev = d → x.state ≠ .draining) →
      exec (.drainGather d) s = .next ((({ s with
        pwb := { s.pwb with entries := s.pwb.entries.filter (fun x => !taken x) }
        fu := s.fu.markLost (set.map Entry.seq)
        mgp := { s.mgp with counters := s.mgp.counters.raise .entriesLost set.length } } : State).postFault .retireFail
          (some d) (some page) (some set.length)).settle))) ∧
  (∀ (set : List Entry) (d : Dev) (page line k : Nat), line < 16 → k < 16 →
    (∀ x ∈ set, x.loc.dev = d ∧ x.loc.page = page ∧ x.bytes.length = 16) →
    byteAt (formBatch set) (16 * line + k) = forward set ⟨d, page, line⟩ k)

/-- A remap persist reported done whose number is at or above the awaited change number ends the context (R94, R96, R102): the
entries become FREE, programs_completed is raised by one, and RETIRED_ON_REQUEST is queued for a retirement on request; on a
FAILED page the entries are declared LOST with one RETIRE_FAIL record instead. -/
def Obligations.PersistEndsContext : Prop :=
  ∀ (s : State) (d : Dev) (c : Ctx) (a n : Word32), s.alive = true → s.ctx d = some c → c.phase = .awaitPersist →
    c.awaited = some a → s.ru.reported = some n → atOrBelow a n = true →
    let taken (x : Entry) : Bool := x.loc.dev = d && x.state = .draining && c.entrySet.contains x.seq
    let freed : State := { s with
      pwb := { s.pwb with entries := s.pwb.entries.filter (fun x => !taken x) }
      de := s.de.set d { s.de.get d with ctx := none } }
    (s.ru.isFailed d c.home = false → c.kind = .drain → exec (.persistDoneContextEnd d) s = .next ({ freed with
      mgp := { s.mgp with counters := s.mgp.counters.raise .programsCompleted 1 } } : State).settle) ∧
    (s.ru.isFailed d c.home = false → c.kind = .retireRequest → exec (.persistDoneContextEnd d) s = .next ((({ freed with
      mgp := { s.mgp with counters := s.mgp.counters.raise .programsCompleted 1 } } : State).postFault .retiredOnRequest
        (some d) (some c.home) (some (s.ru.physical d c.home))).settle)) ∧
    (s.ru.isFailed d c.home = true → exec (.persistDoneContextEnd d) s = .next ((({ freed with
      fu := s.fu.markLost ((s.pwb.entries.filter taken).map Entry.seq)
      mgp := { s.mgp with counters := s.mgp.counters.raise .entriesLost (s.pwb.entries.countP taken) } } : State).postFault
        .retireFail (some d) (some c.home) (some (s.pwb.entries.countP taken))).settle))

/-- The idle metadata unit starts a persist, of the remap kind first (R145, R146): the pending flag is cleared, the table and its
change number are taken, the generation follows the newest one, the target is the slot that is neither bad nor the newest, and
the program of the slot's first page is requested. It takes a write of the state controller (R153, R169): a dump page is programmed
whole, with the records of its ordinals, and a header change programs bytes 0 to 31 of page 8182 alone. The CLEAN change is made
without a dump plan too, as boot, the end of replay and the return ask for it (R159, R161, R171). -/
def Obligations.MetadataWorkStarts : Prop :=
  (∀ s : State, s.alive = true → s.mu.op = none → s.mu.waiting = none → (s.dev .d0).takes = true →
    s.sc.state = .replay ∨ s.sc.state = .run ∨ s.sc.state = .restarting →
    let target (x : SlotStatus) : Slot :=
      if x.newestSlot = some .a then (if x.badB then .a else .b) else (if x.badA then .b else .a)
    let persist (sn : Snapshot) (change : Word32) (x : SlotStatus) : Persist :=
      { snapshot := sn, change := change, gen := nextNonzero x.newestGen, target := target x, attempt := 1, part := 0
        stopping := false }
    (s.mu.remap.pending = true → s.mu.remap.fault = false → exec .persistStart s = .next ({ s with
      mu := { s.mu with
        remap := { s.mu.remap with pending := false }
        op := some (.persist (persist (.remap s.ru.table) s.ru.change s.mu.remap)) }
      mp := { s.mp with reqs := s.mp.reqs ++ [⟨.mu, .d0, .programPage
        (if target s.mu.remap = .a then 8188 else 8190)
        (padTo 256 ((recordBytes .remap (nextNonzero s.mu.remap.newestGen) (remapBody s.ru.table)).take 256))⟩] } } :
          State).settle) ∧
    ((s.mu.remap.pending && !s.mu.remap.fault) = false → s.mu.config.pending = true → s.mu.config.fault = false →
      exec .persistStart s = .next ({ s with
        mu := { s.mu with
          config := { s.mu.config with pending := false }
          op := some (.persist (persist (.config s.wd.live) s.wd.change s.mu.config)) }
        mp := { s.mp with reqs := s.mp.reqs ++ [⟨.mu, .d0, .programPage
          (if target s.mu.config = .a then 8186 else 8187)
          (padTo 256 ((recordBytes .config (nextNonzero s.mu.config.newestGen) s.wd.live.toBytes).take 256))⟩] } } :
            State).settle)) ∧
  (∀ (s : State) (w : ScWrite) (records : List DumpRecord), s.alive = true → s.mu.op = none → s.mu.waiting = some w →
    (s.dev .d0).takes = true →
    (∃ reached, s.sc.plan = some ⟨records, reached⟩) ∨ (s.sc.plan = none ∧ records = [] ∧ w = .toClean) →
    let change (header : List Byte) : Cmd := .programMasked 8182 (header.map some ++ List.replicate 224 none)
    exec .writeRequestTaken s = .next ({ s with
      mu := { s.mu with waiting := none, op := some (.write w 1) }
      mp := { s.mp with reqs := s.mp.reqs ++ [⟨.mu, .d0, match w with
        | .dumpPage k => .programPage (8182 + k) (dumpPageBytes records k)
        | .toValid => change (headerBytes 0x6D2B0003 records.length (crc32 (records.flatMap DumpRecord.toBytes)))
        | .toClean => change (headerBytes 0x6D2B0001 0 0)⟩] } } : State).settle)

/-- The outcomes of the metadata unit's programs (R146, R147, R153). The last page of a persist passes: newest generation and slot are
set, and the change number taken at its start is reported, to the remap unit, or to the window decoder, where CONFIG_PERSIST is DONE
if it is the newest number and COMMIT_PERSISTED is flagged for a number of 1 or more above the one reported before (R118). The first
page of a remap persist passes: the second is asked for. An attempt fails: it is made again from the first page; a second failure
makes the slot bad, queues METADATA_WRITE with the number of slots left, and the other slot is tried. With that one bad too a metadata
fault of the kind arises: the persist ends, CONFIG_PERSIST reads FAILED for the config kind, and a restart is given up for RUN (R148,
R164). A persist being stopped whose program fails, or is not its last, is broken off: its kind is pending again, and the target is
no longer the newest slot (R150). -/
def Obligations.PersistOutcomes : Prop :=
  ∀ (s : State) (t : Transfer) (p : Persist), s.alive = true → s.mp.bus = some t → t.req.cmd = .readStatus →
    t.req.dev = .d0 → (s.dev .d0).activity = .programming → (s.dev .d0).owner = some .mu → (s.dev .d0).takes = true →
    s.waits (isResetOf .d0) = false → s.mu.op = some (.persist p) →
    let k := p.snapshot.kind
    let record := p.snapshot.record p.gen
    let idle : DevRecord := { s.dev .d0 with
      activity := .idle, owner := none, page := none, poll := none, resetDeadline := none, muProgramTime := none }
    let after (reqs : List Request) : MemoryPort := { s.mp with
      bus := none, devs := { s.mp.devs with d0 := idle }, reqs := s.mp.reqs ++ reqs }
    let page (slot : Slot) (part : Nat) : Request :=
      ⟨.mu, .d0, .programPage (slotPage k slot + part) (padTo 256 ((record.drop (256 * part)).take 256))⟩
    let marked : SlotStatus := { s.mu.slot k with
      badA := (s.mu.slot k).badA || p.target = .a, badB := (s.mu.slot k).badB || p.target = .b
      newestSlot := if (s.mu.slot k).newestSlot = some p.target then none else (s.mu.slot k).newestSlot }
    let other : Slot := if p.target = .a then .b else .a
    (∀ table, p.snapshot = .remap table → 1 ≤ p.part → exec (.memoryTransferEnd (.status .readyPass)) s = .next ({ s with
      nvm := (s.nvmPass .d0).nvm, mp := after []
      mu := { s.mu with op := none, remap := { s.mu.remap with newestGen := p.gen, newestSlot := some p.target } }
      ru := { s.ru with reported := some p.change } } : State).settle) ∧
    (∀ table, p.snapshot = .config table → exec (.memoryTransferEnd (.status .readyPass)) s = .next ({ s with
      nvm := (s.nvmPass .d0).nvm, mp := after []
      mu := { s.mu with op := none, config := { s.mu.config with newestGen := p.gen, newestSlot := some p.target } }
      wd := { s.wd with
        persist := if p.change = s.wd.change then .done else s.wd.persist
        reported := some p.change }
      mgp := { s.mgp with commitPersisted := s.mgp.commitPersisted || (p.change != 0 && (match s.wd.reported with
        | some m => isAbove p.change m
        | none => true)) } } : State).settle) ∧
    (∀ table, p.snapshot = .remap table → p.part = 0 → p.stopping = false →
      exec (.memoryTransferEnd (.status .readyPass)) s = .next ({ s with
        nvm := (s.nvmPass .d0).nvm, mp := after [page p.target 1]
        mu := { s.mu with op := some (.persist { p with part := 1 }) } } : State).settle) ∧
    (p.stopping = false → p.attempt = 1 → exec (.memoryTransferEnd (.status .readyFail)) s = .next ({ s with
      nvm := (s.nvmSpoil .d0).nvm, indet := (s.nvmSpoil .d0).indet, mp := after [page p.target 0]
      mu := { s.mu with op := some (.persist { p with attempt := 2, part := 0 }) } } : State).settle) ∧
    (p.stopping = false → p.attempt = 2 → (s.mu.slot k).isBad other = false →
      exec (.memoryTransferEnd (.status .readyFail)) s = .next ((({ s with
        nvm := (s.nvmSpoil .d0).nvm, indet := (s.nvmSpoil .d0).indet, mp := after [page other 0]
        mu := { s.mu.setSlot k marked with op := some (.persist { p with target := other, attempt := 1, part := 0 }) } } :
          State).postFault .metadataWrite (some .d0) (some (slotPage k p.target)) (some 1)).settle)) ∧
    (p.stopping = false → p.attempt = 2 → (s.mu.slot k).isBad other = true →
      let faulted : State := { s with
        nvm := (s.nvmSpoil .d0).nvm, indet := (s.nvmSpoil .d0).indet, mp := after []
        mu := { s.mu.setSlot k { marked with fault := true } with op := none }
        wd := if k = .config then { s.wd with persist := .failed } else s.wd }
      let posted (u : State) : State := u.postFault .metadataWrite (some .d0) (some (slotPage k p.target)) (some 0)
      (s.sc.state ≠ .restarting → exec (.memoryTransferEnd (.status .readyFail)) s = .next (posted faulted).settle) ∧
      (s.sc.state = .restarting → (∀ d c, s.ctx d = some c → c.phase ≠ .stopped) →
        exec (.memoryTransferEnd (.status .readyFail)) s = .next (posted { faulted with
          sc := { s.sc with state := .run, step := none, returnWrite := false, plan := none }
          de := ⟨{ s.de.d0 with stopping := false }, { s.de.d1 with stopping := false }⟩ }).settle)) ∧
    (p.stopping = true →
      let x := s.mu.slot k
      let broken : MetadataUnit := { s.mu.setSlot k { x with
        pending := true, newestSlot := if x.newestSlot = some p.target then none else x.newestSlot } with op := none }
      (∀ table, p.snapshot = .remap table → p.part = 0 → exec (.memoryTransferEnd (.status .readyPass)) s =
        .next ({ s with nvm := (s.nvmPass .d0).nvm, mp := after [], mu := broken } : State).settle) ∧
      exec (.memoryTransferEnd (.status .readyFail)) s = .next ({ s with
        nvm := (s.nvmSpoil .d0).nvm, indet := (s.nvmSpoil .d0).indet, mp := after [], mu := broken } : State).settle)

/-- The outcomes of the state controller's writes. A dump page passes: the view is OPEN after the first, and the next page that
holds records is asked for, or the VALID change after the last; the VALID change passes: the view is VALID, and DUMPED is entered,
where the return begins when PFAIL is released (R169, R171). The CLEAN change passes: the view is CLEAN, and RUN is entered at boot,
after a replay, with RESTORED flagged, and on the return from DUMPED, but HOLDUP there with PFAIL asserted again (R159, R161, R171,
R172). A write that fails is made once more with the same content (R153). A dump page or VALID change that fails again leaves the
view UNKNOWN where it was of page 8182, queues DUMP_FAILED with the page and the number of records, and DUMPED is entered (R170).
The CLEAN change failing again, at boot, in replay or on the return, leaves the view UNKNOWN, queues METADATA_WRITE, and halts the
part (R159, R161, R171, R173). In STOPPED a write's outcome is not acted on, and a first fail is not followed by a second attempt
(R165). At the entry of RUN the engines resume with the contexts they hold (R67), as PfailReleased says of each; at that of HOLDUP
they are told to stop, and the contexts, STOPPED already, stay (R66). -/
def Obligations.WriteOutcomes : Prop :=
  ∀ (s : State) (t : Transfer) (w : ScWrite) (attempt : Nat), s.alive = true → s.mp.bus = some t →
    t.req.cmd = .readStatus → t.req.dev = .d0 → (s.dev .d0).activity = .programming → (s.dev .d0).owner = some .mu →
    (s.dev .d0).takes = true → s.waits (isResetOf .d0) = false → s.mu.op = some (.write w attempt) →
    let idle : DevRecord := { s.dev .d0 with
      activity := .idle, owner := none, page := none, poll := none, resetDeadline := none, muProgramTime := none }
    let after (reqs : List Request) : MemoryPort := { s.mp with
      bus := none, devs := { s.mp.devs with d0 := idle }, reqs := s.mp.reqs ++ reqs }
    let passed : State := { s with nvm := (s.nvmPass .d0).nvm, mp := after [], mu := { s.mu with op := none } }
    let failed : State := { s with
      nvm := (s.nvmSpoil .d0).nvm, indet := (s.nvmSpoil .d0).indet, mp := after [], mu := { s.mu with op := none } }
    let records : List DumpRecord := match s.sc.plan with
      | some plan => plan.records
      | none => []
    let change (header : List Byte) : Cmd := .programMasked 8182 (header.map some ++ List.replicate 224 none)
    (∀ k plan, w = .dumpPage k → s.sc.state = .dumping → s.sc.plan = some plan →
      let next : ScWrite := if 10 * (k + 1) ≤ plan.records.length then .dumpPage (k + 1) else .toValid
      exec (.memoryTransferEnd (.status .readyPass)) s = .next ({ passed with
        sc := { s.sc with
          header := if k = 0 then some .openDump else s.sc.header
          plan := some { plan with reached := next } }
        mu := { s.mu with op := none, waiting := some next } } : State).settle) ∧
    (w = .toValid → s.sc.state = .dumping → s.sc.pfail = true → exec (.memoryTransferEnd (.status .readyPass)) s =
      .next ({ passed with sc := { s.sc with
        header := some .valid, state := .dumped, step := none, plan := none, returnWrite := false } } : State).settle) ∧
    (w = .toClean → s.sc.state = .boot ∨ s.sc.state = .replay ∨ s.sc.state = .dumped ∧ s.sc.pfail = false →
      exec (.memoryTransferEnd (.status .readyPass)) s = .next (((({ passed with
        mgp := if s.sc.state = .replay then { s.mgp with restored := true } else s.mgp
        sc := { s.sc with
          header := some .clean, state := .run, step := none, returnWrite := false, plan := none } } :
            State).resumeEngine .d0).resumeEngine .d1).settle)) ∧
    (w = .toValid → s.sc.state = .dumping → s.sc.pfail = false → exec (.memoryTransferEnd (.status .readyPass)) s =
      .next ({ passed with
        sc := { s.sc with header := some .valid, state := .dumped, step := none, plan := none, returnWrite := true }
        mu := { s.mu with op := none, waiting := some .toClean } } : State).settle) ∧
    (w = .toClean → s.sc.state = .dumped → s.sc.pfail = true → (∀ d c, s.ctx d = some c → c.phase = .stopped) →
      ∃ t : State, exec (.memoryTransferEnd (.status .readyPass)) s = .next t.settle ∧
        t.sc = { s.sc with header := some .clean, state := .holdup, step := none, returnWrite := false, plan := none } ∧
        t.pwb.entries = s.pwb.entries.map sealedEntry ∧ t.pwb.counter = s.pwb.counter ∧
        t.de = ⟨{ s.de.d0 with stopping := true }, { s.de.d1 with stopping := true }⟩ ∧
        t.mu = { s.mu with op := none } ∧ t.mp.devs = { s.mp.devs with d0 := idle } ∧ t.mp.bus = none ∧
        (s.heldPhase = none → t.hp = s.hp ∧ t.fu = s.fu ∧ t.mgp = s.mgp) ∧ t.wd = s.wd ∧ t.ru = s.ru ∧
        t.nvm = (s.nvmPass .d0).nvm) ∧
    (attempt = 1 → s.sc.state ≠ .stopped →
      let again : Cmd := match w with
        | .dumpPage k => .programPage (8182 + k) (dumpPageBytes records k)
        | .toValid => change (headerBytes 0x6D2B0003 records.length (crc32 (records.flatMap DumpRecord.toBytes)))
        | .toClean => change (headerBytes 0x6D2B0001 0 0)
      exec (.memoryTransferEnd (.status .readyFail)) s = .next ({ failed with
        mp := after [⟨.mu, .d0, again⟩], mu := { s.mu with op := some (.write w 2) } } : State).settle) ∧
    (attempt = 2 → s.sc.state = .dumping →
      let page := match w with
        | .dumpPage k => 8182 + k
        | _ => 8182
      let view := if page = 8182 then some .unknown else s.sc.header
      let dumped : StateController :=
        { s.sc with header := view, state := .dumped, step := none, plan := none, returnWrite := false }
      let posted (u : State) : State := u.postFault .dumpFailed (some .d0) (some page) (some records.length)
      (s.sc.pfail = true → exec (.memoryTransferEnd (.status .readyFail)) s =
        .next (posted { failed with sc := dumped }).settle) ∧
      (s.sc.pfail = false → view ≠ some .clean → exec (.memoryTransferEnd (.status .readyFail)) s =
        .next (posted { failed with
          sc := { dumped with returnWrite := true }
          mu := { s.mu with op := none, waiting := some .toClean } }).settle)) ∧
    (w = .toClean → attempt = 2 → s.sc.state = .boot ∨ s.sc.state = .replay ∨ s.sc.state = .dumped →
      exec (.memoryTransferEnd (.status .readyFail)) s = .next ((({ failed with
        sc := { s.sc with
          header := some .unknown, state := .halted, step := none, returnWrite := false, plan := none } } :
            State).postFault .metadataWrite (some .d0) (some 8182) none).settle)) ∧
    (s.sc.state = .stopped →
      exec (.memoryTransferEnd (.status .readyPass)) s = .next passed.settle ∧
      exec (.memoryTransferEnd (.status .readyFail)) s = .next failed.settle)

/-- The load (R103, R114, R143, R144, R157). Its pages are read in their order, each whole. After the last, each kind takes the record
of its valid slot, or, of two, that of the greater generation, and slot A for equal ones; generations exactly 2^31 apart are left out
(log 42). Without a valid slot the kind is defaulted: the default window table, or no remap entry, with its persist pending and
META_DEFAULTED queued. CONFIG_PERSIST is DONE with a record, and PENDING without one (R118). The free spares are the pool less those
the table names, and SPARES_LOW is queued for a device that is not ABSENT and has 4 or fewer (that device 0 comes first is the model's
choice, log 11). The staged table is a copy of the live one, and the dump header is read next. The default table is that of R115; what
a disabled window of it reads is DEDUCED (log 31). -/
def Obligations.Loads : Prop :=
  (∀ device1 : Bool,
     let off : WindowRecord := { flags := 0, device := 0, hostBase := 0, size := 1, memBase := 0 }
     Table.default device1 = {
       windows := [{ flags := 1, device := 0, hostBase := 0, size := 8150, memBase := 0 },
         if device1 then { flags := 1, device := 1, hostBase := 8192, size := 8160, memBase := 0 } else off,
         off, off, off, off, off, off]
       params := { sealDelay := 256, highWater := 24, stallLimit := 30, readAhead := 1, suspendLimit := 4 } }) ∧
  (∀ (s : State) (t : Transfer) (page line n : Nat) (pages : List (List Byte)) (answer : BusAnswer), s.alive = true →
     s.mp.bus = some t → t.req = ⟨.mu, .d0, .read page line n⟩ → s.sc.state = .boot → s.mu.op = some (.load pages) →
     (s.dev .d0).takes = true → pages.length < 5 →
     exec (.memoryTransferEnd answer) s = .next ({ s with
       mu := { s.mu with op := some (.load (pages ++ [(s.nvm.get .d0).readBytes page line n])) }
       mp := { s.mp with
         bus := none
         reqs := s.mp.reqs ++ [⟨.mu, .d0, .read (8187 + pages.length) 0 16⟩] } } : State).settle) ∧
  (∀ (s : State) (t : Transfer) (page line n : Nat) (a b c d e : List Byte) (answer : BusAnswer), s.alive = true →
     s.mp.bus = some t → t.req = ⟨.mu, .d0, .read page line n⟩ → s.sc.state = .boot →
     s.mu.op = some (.load [a, b, c, d, e]) → (s.dev .d0).takes = true →
     let last := (s.nvm.get .d0).readBytes page line n
     let remapA := c ++ d
     let remapB := e ++ last
     ∃ u : State, exec (.memoryTransferEnd answer) s = .next u.settle ∧
       u.mu.op = some .headerRead ∧ u.sc = { s.sc with step := some .headerRead } ∧ u.mgp.staged = u.wd.live ∧
       u.mp = { s.mp with bus := none, reqs := s.mp.reqs ++ [⟨.mu, .d0, .read 8182 0 2⟩] } ∧
       (let config := if configOfSlot a = none ∧ configOfSlot b = none then
          s.postFault .metaDefaulted (some .d0) (some 8186) none else s
        let remap := if remapOfSlot remapA = none ∧ remapOfSlot remapB = none then
          config.postFault .metaDefaulted (some .d0) (some 8188) none else config
        let low (v : State) (x : Dev) : State := if (s.dev x).state ≠ .absent ∧ (u.ru.free.get x).length ≤ 4 then
          v.postFault .sparesLow (some x) none (some (u.ru.free.get x).length) else v
        u.mgp = { (low (low remap .d0) .d1).mgp with staged := u.wd.live }) ∧
       u.pwb = s.pwb ∧ u.nvm = s.nvm ∧ u.wd.change = s.wd.change ∧ u.ru.change = s.ru.change ∧
       (∀ x y, configOfSlot a = some x → configOfSlot b = some y → recordGen b - recordGen a ≠ 0x80000000 →
         let slotB := isAbove (recordGen b) (recordGen a) = true
         (slotB → u.wd.live = y ∧ u.wd.persist = .done ∧ u.mu.config =
           { s.mu.config with newestGen := recordGen b, newestSlot := some .b }) ∧
         (¬slotB → u.wd.live = x ∧ u.wd.persist = .done ∧ u.mu.config =
           { s.mu.config with newestGen := recordGen a, newestSlot := some .a })) ∧
       (∀ x, configOfSlot a = some x → configOfSlot b = none → u.wd.live = x ∧ u.wd.persist = .done ∧ u.mu.config =
         { s.mu.config with newestGen := recordGen a, newestSlot := some .a }) ∧
       (∀ y, configOfSlot a = none → configOfSlot b = some y → u.wd.live = y ∧ u.wd.persist = .done ∧ u.mu.config =
         { s.mu.config with newestGen := recordGen b, newestSlot := some .b }) ∧
       (configOfSlot a = none → configOfSlot b = none → u.wd.live = Table.default (s.dev .d1).takes ∧ u.mu.config =
         { s.mu.config with newestGen := 0, newestSlot := none, pending := true } ∧ u.wd.persist = .pending) ∧
       (∀ x y, remapOfSlot remapA = some x → remapOfSlot remapB = some y →
         recordGen remapB - recordGen remapA ≠ 0x80000000 →
         let slotB := isAbove (recordGen remapB) (recordGen remapA) = true
         (slotB → u.ru.table = y ∧ u.mu.remap =
           { s.mu.remap with newestGen := recordGen remapB, newestSlot := some .b }) ∧
         (¬slotB → u.ru.table = x ∧ u.mu.remap =
           { s.mu.remap with newestGen := recordGen remapA, newestSlot := some .a })) ∧
       (∀ x, remapOfSlot remapA = some x → remapOfSlot remapB = none → u.ru.table = x ∧ u.mu.remap =
         { s.mu.remap with newestGen := recordGen remapA, newestSlot := some .a }) ∧
       (∀ y, remapOfSlot remapA = none → remapOfSlot remapB = some y → u.ru.table = y ∧ u.mu.remap =
         { s.mu.remap with newestGen := recordGen remapB, newestSlot := some .b }) ∧
       (remapOfSlot remapA = none → remapOfSlot remapB = none → u.ru.table = [] ∧ u.mu.remap =
         { s.mu.remap with newestGen := 0, newestSlot := none, pending := true }) ∧
       (∀ x p, p ∈ u.ru.free.get x ↔ isSparePage x p = true ∧ (∀ h, RemapEntry.remap x h p ∉ u.ru.table) ∧
         RemapEntry.retiredSpare x p ∉ u.ru.table) ∧
       (∀ x, (u.ru.free.get x).Pairwise (· < ·)))

/-- The header report at boot (R26, R151, R152, R157 to R160). CLEAN: RUN is entered. OPEN: DUMP_INCOMPLETE is queued and the CLEAN
change asked for; a code of none: the view is UNKNOWN and the CLEAN change is asked for. VALID with 1 to 32 records: the records are
read, page 8182 from line 2 on first, and then each page from 8183 on, whole, that they reach; VALID with another number: DUMP_CRC, and
the CLEAN change. The last page of records read: when they check, REPLAY is entered and the buffer holds them, SEALED, with their
ordinals as seqs, and otherwise DUMP_CRC is queued and the CLEAN change asked for. The engines here hold no context. -/
def Obligations.HeaderReports : Prop :=
  ∀ (s : State) (t : Transfer) (page line n : Nat) (answer : BusAnswer), s.alive = true → s.mp.bus = some t →
    t.req = ⟨.mu, .d0, .read page line n⟩ → s.sc.state = .boot → (s.dev .d0).takes = true → s.ctx .d0 = none →
    s.ctx .d1 = none →
    let bytes := (s.nvm.get .d0).readBytes page line n
    let code := field bytes 0 4
    let count := field bytes 4 1
    let read : State := { s with mp := { s.mp with bus := none }, mu := { s.mu with op := none } }
    let cleans (view : HeaderView) : State := { read with
      sc := { s.sc with header := some view, step := some .headerWrite }
      mu := { s.mu with op := none, waiting := some .toClean } }
    (s.mu.op = some .headerRead →
      (code = 0x6D2B0001 → exec (.memoryTransferEnd answer) s = .next ({ read with
        de := ⟨{ ctx := none, stopping := false }, { ctx := none, stopping := false }⟩
        sc := { s.sc with
          header := some .clean, state := .run, step := none, returnWrite := false, plan := none } } : State).settle) ∧
      (code = 0x6D2B0002 → exec (.memoryTransferEnd answer) s =
        .next (((cleans .openDump).postFault .dumpIncomplete (some .d0) (some 8182) none).settle)) ∧
      (code ≠ 0x6D2B0001 → code ≠ 0x6D2B0002 → code ≠ 0x6D2B0003 →
        exec (.memoryTransferEnd answer) s = .next (cleans .unknown).settle) ∧
      (code = 0x6D2B0003 → 1 ≤ count → count ≤ 32 → exec (.memoryTransferEnd answer) s = .next ({ s with
        mp := { s.mp with bus := none, reqs := s.mp.reqs ++ [⟨.mu, .d0, .read 8182 2 14⟩] }
        mu := { s.mu with op := some (.recordRead count (BitVec.ofNat 32 (field bytes 8 4)) [] 0) } } : State).settle) ∧
      (code = 0x6D2B0003 → count = 0 ∨ 32 < count → exec (.memoryTransferEnd answer) s =
        .next (((cleans .valid).postFault .dumpCrc (some .d0) (some 8182) none).settle))) ∧
    (∀ total crc kept k, s.mu.op = some (.recordRead total crc kept k) → k < 3 → 10 * (k + 1) ≤ total →
      let all := kept ++ bytes.take (if k = 0 then 216 else 240)
      exec (.memoryTransferEnd answer) s = .next ({ s with
        mp := { s.mp with bus := none, reqs := s.mp.reqs ++ [⟨.mu, .d0, .read (8182 + (k + 1)) 0 16⟩] }
        mu := { s.mu with op := some (.recordRead total crc all (k + 1)) } } : State).settle) ∧
    (∀ total crc kept k, s.mu.op = some (.recordRead total crc kept k) → k = 3 ∨ k < 3 ∧ total < 10 * (k + 1) →
      let all := kept ++ bytes.take (if k = 0 then 216 else 240)
      (∀ records, s.recordsReport total crc all = .validGood records →
        exec (.memoryTransferEnd answer) s = .next ({ read with
          sc := { s.sc with header := some .valid, state := .replay, step := none }
          pwb := { s.pwb with
            entries := records.map (fun r =>
              { loc := r.loc, bytes := r.bytes, seq := BitVec.ofNat 32 r.ordinal, wt := false, state := .sealed
                deadline := none })
            counter := BitVec.ofNat 32 records.length } } : State).settle) ∧
      (s.recordsReport total crc all = .validBad → exec (.memoryTransferEnd answer) s =
        .next (((cleans .valid).postFault .dumpCrc (some .d0) (some 8182) none).settle)))

/-! ### PFAIL, hold-up, replay and restart -/

/-- PFAIL asserted in RUN or RESTARTING (R112, R156, R166): the view takes the level, HOLDUP is entered, every OPEN entry is sealed,
and a held access completes with NOT_READY. The read path's records of reads close, its ungranted requests are withdrawn, and a
suspension made for them ends, an ungranted SUSPEND withdrawn and a held one by RESUME (R45). In BOOT or REPLAY STOPPED is entered
(R165). That no step of boot is begun any more, that the probe's requests are withdrawn, and that a CLEAN write not yet taken is
dropped, is the model's choice (log 12). In either case each engine is told to stop: an ungranted program or retirement request is
withdrawn and its context STOPPED, as is one that waits for a persist, and any other goes on (R65). A persist in hand with an
ungranted program is pending again, and any other finishes its program first (R150). The transfer on the bus, the devices and, in
STOPPED, the buffer stay. In HOLDUP, DUMPING, DUMPED, STOPPED and HALTED the view alone changes. -/
def Obligations.PfailAsserted : Prop :=
  ∀ s : State, s.alive = true → s.pins.pfail = false →
    let stops (d : Dev) (c : Ctx) : Prop := c.phase = .awaitPersist ∨
      (∃ q ∈ s.mp.reqs, q.requester = .engine ∧ q.dev = d) ∧
        (c.phase = .programming ∧ c.started = false ∨ c.phase = .retireRead ∨ c.phase = .retireProgram)
    let stopped (t : State) (d : Dev) (c : Ctx) : Prop :=
      (stops d c → t.ctx d = some { c with phase := .stopped, before := some c.phase } ∧
        (c.phase ≠ .awaitPersist → ∀ q ∈ t.mp.reqs, ¬(q.requester = .engine ∧ q.dev = d))) ∧
      (¬stops d c → t.ctx d = some c)
    let persistStops (t : State) : Prop := ∀ p, s.mu.op = some (.persist p) →
      let waits := ∃ q ∈ s.mp.reqs, q.requester = .mu ∧ q.dev = .d0 ∧ q.cmd ≠ .deviceReset
      (waits → t.mu.op = none ∧ (t.mu.slot p.snapshot.kind).pending = true) ∧
      (¬waits → t.mu.op = some (.persist { p with stopping := true }))
    (s.sc.state = .run ∨ s.sc.state = .restarting → ∃ t : State, exec .pfailAssert s = .next t.settle ∧
      t.pins = { s.pins with pfail := true } ∧
      t.sc = { s.sc with
        state := .holdup, pfail := true, step := none, returnWrite := false, plan := none } ∧
      t.pwb.entries = s.pwb.entries.map sealedEntry ∧ t.pwb.counter = s.pwb.counter ∧
      (s.heldPhase = none → t.hp = s.hp ∧ t.mgp = s.mgp ∧ t.fu = s.fu ∧ t.pwb.waiting = s.pwb.waiting) ∧
      (∀ a, s.hp.access = some a → a.phase ≠ .complete →
        t.hp = { access := some a.failed, lastErr := some { cause := .notReady, addr := a.addr, dir := a.dir } } ∧
        t.mgp = { s.mgp with counters := s.mgp.counters.raise .errCompletions 1 } ∧
        (a.phase = .heldBuffer → t.pwb.waiting = none) ∧ (a.phase = .heldWt → t.fu.wait = none)) ∧
      t.rp = { s.rp with host := none, fetch := none, refill := none } ∧
      (∀ q ∈ t.mp.reqs, (q ∈ s.mp.reqs ∨ ∃ d, q = ⟨.engine, d, .resume⟩) ∧
        ¬(q.requester = .hostRead ∧ ∃ r, s.rp.host = some r ∧ r.phase ≠ .transfer) ∧
        ¬(q.requester = .fetch ∧ s.rp.fetch ≠ none) ∧ ¬(q.requester = .refill ∧ s.rp.refill ≠ none)) ∧
      (∀ q ∈ s.mp.reqs, q.requester = .port → q.cmd ≠ .suspend → q ∈ t.mp.reqs) ∧
      t.mp.bus = s.mp.bus ∧ t.mp.devs = s.mp.devs ∧ t.de.d0.stopping = true ∧ t.de.d1.stopping = true ∧
      (∀ d, s.ctx d = none → t.ctx d = none) ∧
      (∀ d c, s.ctx d = some c → c.phase ≠ .suspended → stopped t d c) ∧
      (∀ d c, s.ctx d = some c → c.phase = .suspended → c.started = true →
        let asked (p : ReadPhase) : Prop := p = .suspendAsked ∨ p = .suspendHeld
        let asks := (∃ r, s.rp.host = some r ∧ r.loc.dev = d ∧ asked r.phase) ∨
          (∃ f, s.rp.fetch = some f ∧ f.loc.dev = d ∧ asked f.phase)
        (¬asks → t.ctx d = some c) ∧
        (asks → c.suspendStep = some .asked →
          ((∃ q ∈ s.mp.reqs, q.requester = .engine ∧ q.cmd = .suspend ∧ q.dev = d) →
            t.ctx d = some { c with phase := .programming, suspendStep := none } ∧
            ∀ q ∈ t.mp.reqs, ¬(q.cmd = .suspend ∧ q.dev = d)) ∧
          ((∀ q ∈ s.mp.reqs, ¬(q.cmd = .suspend ∧ q.dev = d)) → t.ctx d = some c)) ∧
        (asks → c.suspendStep = some .held → t.ctx d = some { c with suspendStep := some .resuming } ∧
          ((s.dev d).takes = true → ⟨.engine, d, .resume⟩ ∈ t.mp.reqs))) ∧
      ((∀ q ∈ s.mp.reqs, q.requester = .mu → q.cmd ≠ .suspend) → persistStops t) ∧
      ((∀ p, s.mu.op ≠ some (.persist p)) → t.mu = s.mu) ∧ t.wd = s.wd ∧ t.ru = s.ru ∧ t.nvm = s.nvm) ∧
    (s.sc.state = .boot ∨ s.sc.state = .replay → ∃ t : State, exec .pfailAssert s = .next t.settle ∧
      t.pins = { s.pins with pfail := true } ∧ t.sc = { s.sc with state := .stopped, pfail := true, step := none } ∧
      t.de.d0.stopping = true ∧ t.de.d1.stopping = true ∧
      (∀ d, s.ctx d = none → t.ctx d = none) ∧
      (∀ d c, s.ctx d = some c → stopped t d c) ∧ persistStops t ∧
      t.mu.waiting = none ∧ t.mp.probe = none ∧ (∀ q ∈ t.mp.reqs, q ∈ s.mp.reqs ∧ q.requester ≠ .probe) ∧
      t.mp.bus = s.mp.bus ∧ t.mp.devs = s.mp.devs ∧ t.hp = s.hp ∧ t.wd = s.wd ∧ t.pwb = s.pwb ∧ t.rp = s.rp ∧
      t.fu = s.fu ∧ t.ru = s.ru ∧ t.mgp = s.mgp ∧ t.nvm = s.nvm) ∧
    (s.sc.state = .holdup ∨ s.sc.state = .dumping ∨ s.sc.state = .dumped ∨ s.sc.state = .stopped ∨ s.sc.state = .halted →
      exec .pfailAssert s =
        .next ({ s with pins := { s.pins with pfail := true }, sc := { s.sc with pfail := true } } : State).settle)

/-- The resumption of an engine (R67), and PFAIL released (R156, R165, R171). An engine that resumes no longer stops. Its STOPPED
context goes back to the phase before stop: a batch program is requested again, with its program not started and its counts at 0; so
is the read of the old page, or the program of the candidate spare; without a spare to try the page cannot be remapped (R89;
RemapChanges); and a context that waited for a persist waits on, unless the persist of its FAILED page will not be made, when its
entries are declared LOST (R96). The clauses are about what a stop leaves: an image for a candidate, and a device that takes
transfers. In HOLDUP and DUMPING the view alone changes. In DUMPED with the header CLEAN the part returns to RUN, and both engines
resume; with a dump on device 0 the header is made CLEAN first. In STOPPED an internal cold reset follows at once when the part is
quiet, which a device not yet found by the probe is (log 12), and then boot (WhatFollows); the view alone changes when it is not.
MADR is sampled afresh, a free value (log 39), and the transaction under way goes on (R176; log 41). The end of a transfer on the
bus (log 40), and the free-spare lists, empty until the load (log 13), are the model's choices. -/
def Obligations.PfailReleased : Prop :=
  (∀ (s : State) (d : Dev),
    let resumed (c : Option Ctx) (reqs : List Request) : State := { s with
      de := s.de.set d { ctx := c, stopping := false }, mp := { s.mp with reqs := s.mp.reqs ++ reqs } }
    (s.ctx d = none → s.resumeEngine d = resumed none []) ∧
    (∀ c, s.ctx d = some c → c.phase ≠ .stopped → s.resumeEngine d = resumed (some c) []) ∧
    (∀ c phase, s.ctx d = some c → c.phase = .stopped → c.before = some phase → (s.dev d).takes = true →
      let back : Ctx := { c with phase := phase, before := none }
      (phase = .programming → s.resumeEngine d =
        resumed (some { back with started := false, suspendsUsed := 0, programTime := 0 })
          [⟨.engine, d, .programMasked c.phys c.batch⟩]) ∧
      (phase = .retireRead → c.image = none → c.attempts < 3 → s.ru.free.get d ≠ [] →
        s.resumeEngine d = resumed (some back) [⟨.engine, d, .read c.phys 0 16⟩]) ∧
      (phase = .retireRead → 3 ≤ c.attempts ∨ s.ru.free.get d = [] →
        s.resumeEngine d = (resumed (some c) []).unremappable d back false) ∧
      (∀ spare image, phase = .retireProgram → c.candidate = some spare → c.image = some image →
        s.resumeEngine d = resumed (some { back with programTime := 0 })
          [⟨.engine, d, .programPage spare (overlayBytes image c.batch)⟩]) ∧
      (phase = .awaitPersist → s.ru.isFailed d c.home = false ∨ s.mu.remap.fault = false →
        s.resumeEngine d = resumed (some back) []) ∧
      (phase = .awaitPersist → s.ru.isFailed d c.home = true → s.mu.remap.fault = true →
        let lost (e : Entry) : Bool := e.loc.dev = d && e.state = .draining && c.entrySet.contains e.seq
        let set := s.pwb.entries.filter lost
        s.resumeEngine d = ({ s with
          pwb := { s.pwb with entries := s.pwb.entries.filter (fun e => !lost e) }
          fu := s.fu.markLost (set.map Entry.seq)
          mgp := { s.mgp with counters := s.mgp.counters.raise .entriesLost set.length }
          de := s.de.set d { ctx := none, stopping := false } } : State).postFault .retireFail (some d) (some c.home)
            (some set.length)))) ∧
  ∀ s : State, s.alive = true → s.pins.pfail = true →
    (s.sc.state = .stopped → s.quiet = true → s.settled →
      let low : State := { s with pins := { s.pins with pfail := false }, sc := { s.sc with pfail := false } }
      ∃ t : State, exec .pfailRelease s = .next (settleFor 127 t) ∧ internalResetOf low t) ∧
    (s.sc.state = .stopped → s.quiet = false → s.settled → exec .pfailRelease s =
      .next { s with pins := { s.pins with pfail := false }, sc := { s.sc with pfail := false } }) ∧
    (s.sc.state = .holdup ∨ s.sc.state = .dumping ∨ s.sc.state = .halted →
      exec .pfailRelease s =
        .next ({ s with pins := { s.pins with pfail := false }, sc := { s.sc with pfail := false } } : State).settle) ∧
    (s.sc.state = .dumped → s.sc.returnWrite = false → s.sc.header = some .clean →
      exec .pfailRelease s = .next (((({ s with
        pins := { s.pins with pfail := false }
        sc := { s.sc with pfail := false, state := .run, step := none, plan := none } } : State).resumeEngine .d0).resumeEngine
          .d1).settle)) ∧
    (s.sc.state = .dumped → s.sc.returnWrite = false → s.sc.header ≠ some .clean →
      exec .pfailRelease s = .next ({ s with
        pins := { s.pins with pfail := false }
        sc := { s.sc with pfail := false, returnWrite := true }
        mu := { s.mu with waiting := some .toClean } } : State).settle)

/-- When the part is quiet, and the ends of HOLDUP, STOPPED, RESTARTING and REPLAY. The part is quiet (R65, R125, R165, R166) when
the metadata unit is idle and, for each device, the device is ABSENT or OFFLINE, or idle with no transfer to it on the bus, and its
engine has no transfer requested or on the bus and nothing running in the device, whatever context it holds. That an ABSENT device
is quiet while the probe's transfer to it is on the bus is the model's choice (log 12). The end of the hold-up, with the PFAIL view
asserted (R167, R168): an empty buffer leads to DUMPED; entries and a device 0 that takes transfers lead to DUMPING, with the age
list as the dump plan and its first page asked for; entries without device 0 are declared LOST with DUMP_IMPOSSIBLE, and DUMPED is
entered. The internal cold resets: in STOPPED when the part is quiet and the PFAIL view released (R165), and in RESTARTING when the
buffer is empty, the metadata unit idle and no persist pending (R163). MADR is sampled afresh (R176; a free value, log 39), the
transaction under way goes on (R176; log 41), and boot begins in the same event (WhatFollows). The free-spare lists, empty until the
load, are the model's choice (log 13), and so is the end of a transfer on the bus at such a reset (log 40). With the buffer empty in
REPLAY the CLEAN write is asked for (R161). -/
def Obligations.StateEnds : Prop :=
  (∀ s : State, s.quiet = true ↔ s.mu.op = none ∧ ∀ d,
    ((s.dev d).state = .absent ∨ (s.dev d).state = .offline ∨
      (s.dev d).activity = .idle ∧ ∀ t, s.mp.bus = some t → t.req.dev ≠ d) ∧
    (∀ q ∈ s.mp.reqs, ¬(q.requester = .engine ∧ q.dev = d)) ∧
    (∀ t, s.mp.bus = some t → ¬(t.req.requester = .engine ∧ t.req.dev = d)) ∧ (s.dev d).owner ≠ some .engine) ∧
  (∀ s : State, s.alive = true → s.sc.state = .holdup → s.quiet = true → s.sc.pfail = true →
    let dumped : StateController := { s.sc with state := .dumped, step := none, plan := none, returnWrite := false }
    (s.pwb.entries = [] → exec .holdupEnd s = .next ({ s with sc := dumped } : State).settle) ∧
    (s.pwb.entries ≠ [] → (s.dev .d0).takes = true →
      let plan (k : Nat) (e : Entry) : DumpRecord := { ordinal := k + 1, loc := e.loc, wt := e.wt, bytes := e.bytes }
      exec .holdupEnd s = .next ({ s with
        sc := { s.sc with
          state := .dumping
          plan := some { records := s.pwb.entries.mapIdx plan, reached := .dumpPage 0 } }
        mu := { s.mu with waiting := some (.dumpPage 0) } } : State).settle) ∧
    (s.pwb.entries ≠ [] → (s.dev .d0).takes = false → exec .holdupEnd s = .next ((({ s with
      sc := dumped
      pwb := { s.pwb with entries := [] }
      fu := s.fu.markLost (s.pwb.entries.map Entry.seq)
      de := ⟨{ s.de.d0 with ctx := none }, { s.de.d1 with ctx := none }⟩
      mgp := { s.mgp with counters := s.mgp.counters.raise .entriesLost s.pwb.entries.length } } : State).postFault
        .dumpImpossible (some .d0) none (some s.pwb.entries.length)).settle))) ∧
  (∀ s : State, s.alive = true → s.sc.state = .stopped → s.quiet = true → s.sc.pfail = false →
    ∃ t : State, exec .stoppedQuietReset s = .next t.settle ∧ internalResetOf s t) ∧
  (∀ s : State, s.alive = true → s.sc.state = .restarting → s.pwb.entries = [] → s.mu.op = none →
    s.mu.config.pending = false → s.mu.remap.pending = false →
    ∃ t : State, exec .restartEnd s = .next t.settle ∧ internalResetOf s t) ∧
  (∀ s : State, s.alive = true → s.sc.state = .replay → s.pwb.entries = [] → s.mu.waiting = none →
    (∀ n, s.mu.op ≠ some (.write .toClean n)) →
    exec .replayEnd s = .next ({ s with mu := { s.mu with waiting := some .toClean } } : State).settle)

/-! ### The management port -/

/-- COMMIT and its swap (R116 to R118). The checks are made in their order: the state is RUN; every parameter, and the policy,
device and size of every enabled window, is in its range (that the second check leaves the bases to the later ones is read from the
rule, log 19, and that no check examines the other bits of a window's first byte is the model's choice, log 18); for each enabled
window in index order, the host range, the memory range and the presence of its device; no host page shared; no memory page of one
device shared. A refused one leaves everything but the code and the result, which is that of the first check that fails. An accepted
one is installed in the same event when no access is held, and waits as the commit image while one is. The swap makes the image the
live table, raises the config change number by one, asks for a config persist, and finishes the COMMIT with DONE. The byte is taken
as `State.byteTaken` says (R176; log 17). -/
def Obligations.Commits : Prop :=
  (∀ s : State,
     let t := s.mgp.staged
     let p := t.params
     let on := t.windows.filter (fun w => w.flags.getLsbD 0)
     let ranged := (p.sealDelay = 0 ∨ 16 ≤ p.sealDelay.toNat ∧ p.sealDelay.toNat ≤ 4096 ∧ p.sealDelay.toNat % 16 = 0) ∧
       (8 ≤ p.highWater.toNat ∧ p.highWater.toNat ≤ 32) ∧ (1 ≤ p.stallLimit.toNat ∧ p.stallLimit.toNat ≤ 127) ∧
       p.readAhead.toNat ≤ 3 ∧ p.suspendLimit.toNat ≤ 7 ∧
       ∀ w ∈ on, w.flags.extractLsb' 1 2 ≠ 3 ∧ (w.device = 0 ∨ w.device = 1) ∧ 1 ≤ w.size.toNat ∧ w.size.toNat ≤ 8192
     let window (w : WindowRecord) : Option ReqResult :=
       if 32768 < w.hostBase.toNat + w.size.toNat then some .hostRange
       else if (if w.device = 0 then 8150 else 8160) < w.memBase.toNat + w.size.toNat then some .memoryRange
       else if (s.dev (if w.device = 0 then .d0 else .d1)).state = .absent then some .deviceAbsent
       else none
     let hostApart := on.Pairwise (fun v w => ¬(v.hostBase.toNat < w.hostBase.toNat + w.size.toNat ∧
       w.hostBase.toNat < v.hostBase.toNat + v.size.toNat))
     let memoryApart := on.Pairwise (fun v w => ¬(v.device = w.device ∧ v.memBase.toNat < w.memBase.toNat + w.size.toNat ∧
       w.memBase.toNat < v.memBase.toNat + v.size.toNat))
     (s.sc.state ≠ .run → s.commitRefusal = some .refusedState) ∧
     (s.sc.state = .run → ¬ranged → s.commitRefusal = some .invalidArgument) ∧
     (s.sc.state = .run → ranged →
       (∀ r, on.findSome? window = some r → s.commitRefusal = some r) ∧
       (on.findSome? window = none → ¬hostApart → s.commitRefusal = some .hostOverlap) ∧
       (on.findSome? window = none → hostApart → ¬memoryApart → s.commitRefusal = some .memoryOverlap) ∧
       (on.findSome? window = none → hostApart → memoryApart → s.commitRefusal = none))) ∧
  (∀ s : State, s.takesRequest →
     let b := s.byteTaken 0x0C
     (∀ r, s.settled → s.commitRefusal = some r →
       exec .commit s = .next { b with mgp := { b.mgp with code := 1, result := r } }) ∧
     (s.commitRefusal = none → s.heldPhase = none → exec .commit s = .next ({ b with
       wd := { s.wd with
         live := s.mgp.staged, image := none, change := s.wd.change + 1
         persist := if s.mu.config.fault then .failed else .pending }
       mu := { s.mu with config := { s.mu.config with pending := true } }
       mgp := { b.mgp with code := 1, result := .done, inHand := false } } : State).settle) ∧
     (s.commitRefusal = none → s.heldPhase ≠ none → exec .commit s = .next ({ b with
       wd := { s.wd with image := some s.mgp.staged }
       mgp := { b.mgp with code := 1, result := .accepted, inHand := true } } : State).settle)) ∧
  (∀ (s : State) (t : Table), s.alive = true → s.wd.image = some t → s.heldPhase = none →
     exec .commitSwap s = .next ({ s with
       wd := { s.wd with
         live := t, image := none, change := s.wd.change + 1, persist := if s.mu.config.fault then .failed else .pending }
       mu := { s.mu with config := { s.mu.config with pending := true } }
       mgp := { s.mgp with inHand := false, result := .done } } : State).settle)

/-- RESTART and RETIRE_PAGE (R89, R95, R99, R100, R163). RESTART is refused with REFUSED_STATE outside RUN and with a metadata
fault; in RUN without one it enters RESTARTING: READY falls, every OPEN entry is sealed, and a held access completes with NOT_READY.
RETIRE_PAGE is refused by the first check that fails: outside RUN; an argument that names no device, or a page that is no user page
of it, INVALID_ARGUMENT; a device not ONLINE, a metadata fault of the remap kind, a FAILED page, REFUSED_STATE; an engine that is
not IDLE, BUSY. Past its checks it gathers the page's entries, and asks for the read of the old page; with no free spare the page
cannot be remapped, and the same event makes it FAILED, or the device WRITE_LOCKED when 8 pages are FAILED already (R95 to R97;
RemapChanges spells `State.unremappable`). The byte is taken as `State.byteTaken` says (R176; log 17). -/
def Obligations.RestartAndRetire : Prop :=
  ∀ s : State, s.takesRequest →
    let b := s.byteTaken 0x0C
    (s.settled → s.sc.state ≠ .run ∨ s.metadataFault = true →
      exec .restart s = .next { b with mgp := { b.mgp with code := 3, result := .refusedState } }) ∧
    (s.sc.state = .run → s.metadataFault = false → ∃ t : State, exec .restart s = .next t.settle ∧
      t.sc = { s.sc with state := .restarting, step := none } ∧ t.pwb.entries = s.pwb.entries.map sealedEntry ∧
      (s.heldPhase = none → t.hp = s.hp ∧ t.mgp = { b.mgp with code := 3, result := .accepted }) ∧
      (∀ a, s.hp.access = some a → a.phase ≠ .complete →
        t.hp = { access := some a.failed, lastErr := some { cause := .notReady, addr := a.addr, dir := a.dir } } ∧
        t.mgp = { b.mgp with
          code := 3, result := .accepted, counters := s.mgp.counters.raise .errCompletions 1 }) ∧
      t.wd = s.wd ∧ t.ru = s.ru ∧ t.mu = s.mu) ∧
    (let page := s.mgp.arg2.toNat
     let refused (r : ReqResult) : State := { b with mgp := { b.mgp with code := 4, result := r } }
     (s.settled → s.sc.state ≠ .run → exec .retirePage s = .next (refused .refusedState)) ∧
     (s.settled → s.sc.state = .run →
       s.mgp.arg1 ≠ 0 ∧ s.mgp.arg1 ≠ 1 ∨ s.mgp.arg1 = 0 ∧ 8150 ≤ page ∨ s.mgp.arg1 = 1 ∧ 8160 ≤ page →
       exec .retirePage s = .next (refused .invalidArgument)) ∧
     (∀ d, s.sc.state = .run → s.mgp.arg1 = 0 ∧ d = .d0 ∧ page < 8150 ∨ s.mgp.arg1 = 1 ∧ d = .d1 ∧ page < 8160 →
       let checked := (s.dev d).state = .online ∧ s.mu.remap.fault = false ∧ s.ru.isFailed d page = false
       (s.settled → ¬checked → exec .retirePage s = .next (refused .refusedState)) ∧
       (s.settled → checked → s.ctx d ≠ none → exec .retirePage s = .next (refused .busy)) ∧
       (checked → s.ctx d = none →
         let taken (x : Entry) : Bool := x.loc.dev = d && x.loc.page = page && x.state != .draining
         let set := s.pwb.entries.filter taken
         let context : Ctx :=
           { home := page, phys := s.ru.physical d page, kind := .retireRequest, phase := .retireRead
             entrySet := set.map Entry.seq, batch := formBatch set, started := false, suspendStep := none
             suspendsUsed := 0, suspendSent := false, ackTime := none, programTime := 0, attempts := 0
             candidate := none, image := none, awaited := none, before := none }
         let accepted : State := { b with
           mgp := { b.mgp with code := 4, result := .accepted }
           pwb := { s.pwb with entries := s.pwb.entries.map (fun x =>
             if taken x then { x with state := .draining, deadline := none } else x) } }
         (s.ru.free.get d ≠ [] → (s.de.get d).stopping = false → exec .retirePage s = .next ({ accepted with
           de := s.de.set d { s.de.get d with ctx := some context }
           mp := { s.mp with reqs := s.mp.reqs ++ [⟨.engine, d, .read (s.ru.physical d page) 0 16⟩] } } : State).settle) ∧
         (s.ru.free.get d = [] → exec .retirePage s = .next ((accepted.unremappable d context false).settle)))))

/-- The requests of the management port's own state (R180, R183 to R186): POP_FAULT moves the oldest fault record into the fault
view, or empties it; SELECT_REMAP takes an index up to 71; CLEAR_COUNTERS sets the eight counters to 0; CLEAR_STATUS clears the
flags its argument selects; and a code that names no request is answered with INVALID_ARGUMENT. A value out of range is answered
so too, and changes nothing else. With a COMMIT in hand any request is answered with BUSY, and changes nothing but the code and the
result. The byte is taken as `State.byteTaken` says (R176; log 17). -/
def Obligations.PortRequests : Prop :=
  (∀ s : State, s.takesRequest → s.settled →
    let b := s.byteTaken 0x0C
    (exec .popFault s = .next { b with mgp := { b.mgp with
      code := 5, view := s.mgp.faults.head?, faults := s.mgp.faults.drop 1, result := .done } }) ∧
    (exec .selectRemap s = .next { b with mgp := if s.mgp.arg2.toNat ≤ 71 then
      { b.mgp with code := 6, remapIndex := s.mgp.arg2.toNat, result := .done }
      else { b.mgp with code := 6, result := .invalidArgument } }) ∧
    (exec .clearCounters s = .next { b with mgp := { b.mgp with
      code := 7, counters := ⟨0, 0, 0, 0, 0, 0, 0, 0⟩, result := .done } }) ∧
    (exec .clearStatus s = .next { b with mgp := if s.mgp.arg1 = 1 ∨ s.mgp.arg1 = 2 ∨ s.mgp.arg1 = 3 then
      { b.mgp with
        code := 8
        fenceLoss := s.mgp.fenceLoss && s.mgp.arg1 == 2
        overflow := s.mgp.overflow && s.mgp.arg1 == 1
        result := .done }
      else { b.mgp with code := 8, result := .invalidArgument } }) ∧
    (∀ code, code = 0 ∨ 8 < code.toNat →
      exec (.unknownRequestCode code) s =
        .next { b with mgp := { b.mgp with code := code, result := .invalidArgument } })) ∧
  (∀ (s : State) (i : Instr) (code : Byte), s.alive = true → s.settled → s.mgp.inHand = true →
    (i = .commit ∧ code = 1 ∨ i = .fence ∧ code = 2 ∨ i = .restart ∧ code = 3 ∨ i = .retirePage ∧ code = 4 ∨
      i = .popFault ∧ code = 5 ∨ i = .selectRemap ∧ code = 6 ∨ i = .clearCounters ∧ code = 7 ∨
      i = .clearStatus ∧ code = 8 ∨ i = .unknownRequestCode code) →
    let b := s.byteTaken 0x0C
    exec i s = .next { b with mgp := { b.mgp with code := code, result := .busy } })

/-- Bytes written to the map (R176, R179, R180, R187, R189): a 1 clears an event flag, the enables are held as written (that bits 7-4
are not is the model's choice, log 18), the remap view index takes 0 to 71, the arguments take their bytes, the request code makes its
request, a byte of the staged table replaces that byte alone, and an index of no field or of a read-only one ignores its byte; the
index then advances, and the byte is acknowledged. A field's own row takes its byte as `State.byteTaken` says (log 17). -/
def Obligations.MapWrites : Prop :=
  (∀ (s : State) (b : Byte), s.alive = true → s.settled →
    let at7 := s.byteTaken 0x07
    let at8 := s.byteTaken 0x08
    let atF := s.byteTaken 0x0F
    exec (.eventFlagsWrite b) s = .next { at7 with mgp := { at7.mgp with
      fenceDone := s.mgp.fenceDone && !b.getLsbD 0
      commitPersisted := s.mgp.commitPersisted && !b.getLsbD 1
      restored := s.mgp.restored && !b.getLsbD 2 } } ∧
    exec (.eventEnablesWrite b) s = .next { at8 with mgp := { at8.mgp with enables := b.setWidth 4 } } ∧
    exec (.remapViewIndexWrite b) s = .next { atF with mgp :=
      if b.toNat ≤ 71 then { atF.mgp with remapIndex := b.toNat } else atF.mgp }) ∧
  (∀ (s : State) (b : Byte), s.mgp.tx = .writing →
    (s.mgp.index = 0x07 → exec (.mapByteWrite b) s = exec (.eventFlagsWrite b) s) ∧
    (s.mgp.index = 0x08 → exec (.mapByteWrite b) s = exec (.eventEnablesWrite b) s) ∧
    (s.mgp.index = 0x0F → exec (.mapByteWrite b) s = exec (.remapViewIndexWrite b) s) ∧
    (s.mgp.index = 0x0C → exec (.mapByteWrite b) s = exec (match b.toNat with
      | 1 => .commit
      | 2 => .fence
      | 3 => .restart
      | 4 => .retirePage
      | 5 => .popFault
      | 6 => .selectRemap
      | 7 => .clearCounters
      | 8 => .clearStatus
      | _ => .unknownRequestCode b) s)) ∧
  (∀ (s : State) (b : Byte), s.alive = true → s.settled → s.mgp.tx = .writing →
    let written (m : ManagementPort) : State := { s with mgp := { m with index := s.mgp.index + 1, acked := true } }
    (s.mgp.index = 0x09 → exec (.mapByteWrite b) s = .next (written { s.mgp with arg1 := b })) ∧
    (s.mgp.index = 0x0A → exec (.mapByteWrite b) s =
      .next (written { s.mgp with arg2 := s.mgp.arg2.extractLsb' 8 8 ++ b })) ∧
    (s.mgp.index = 0x0B → exec (.mapByteWrite b) s =
      .next (written { s.mgp with arg2 := b ++ s.mgp.arg2.extractLsb' 0 8 })) ∧
    (0x60 ≤ s.mgp.index.toNat → s.mgp.index.toNat ≤ 0xA5 → s.mgp.staged.windows.length = 8 →
      ∃ table, exec (.mapByteWrite b) s = .next (written { s.mgp with staged := table }) ∧
        table.toBytes = s.mgp.staged.toBytes.set (s.mgp.index.toNat - 0x60) b) ∧
    (s.mgp.index.toNat < 0x07 ∨ 0x0D ≤ s.mgp.index.toNat ∧ s.mgp.index ≠ 0x0F ∧ s.mgp.index.toNat < 0x60 ∨
      0xA5 < s.mgp.index.toNat → exec (.mapByteWrite b) s = .next (written s.mgp)))

/-- Transactions (R176, R177): a start with the part's address is answered and opens a read or a write, any other is not; the
first byte of a write sets the index; a byte read is the map's, a field of several bytes is captured at its first byte and its
later bytes come from the capture, or, with no capture held, are the field's as it stands; a byte left unacknowledged is the last of
its transaction; a stop, and a start, release the captures. That the row SNAPSHOT_CAPTURE reads one byte, with its acknowledge, is the
model's choice (log 16). -/
def Obligations.Transactions : Prop :=
  (∀ (s : State) (b : Byte), s.alive = true → s.settled →
    (b.extractLsb' 1 7 = s.mgp.target → exec (.transactionStart b) s = .next { s with mgp := { s.mgp with
      captures := [], readByte := none, acked := true, tx := if b.getLsbD 0 then .reading else .writeIndex } }) ∧
    (b.extractLsb' 1 7 ≠ s.mgp.target → exec (.transactionStart b) s = .next { s with mgp := { s.mgp with
      captures := [], readByte := none, acked := false, tx := .idle } }) ∧
    (s.mgp.tx = .writeIndex → exec (.indexSet b) s = .next { s with mgp := { s.mgp with
      index := b, tx := .writing, acked := true } }) ∧
    exec .transactionEnd s = .next { s with mgp := { s.mgp with tx := .idle, captures := [] } }) ∧
  (∀ (s : State) (ack : Bool), s.alive = true → s.settled → s.mgp.tx = .reading →
    let i := s.mgp.index.toNat
    let read (b : Byte) : State := { s with mgp := { s.mgp with
      readByte := some b, index := s.mgp.index + 1, tx := if ack then .reading else .ended } }
    (snapshotField i = none → exec (.snapshotCapture ack) s = .next (read (s.plainByte i))) ∧
    (∀ n, snapshotField i = some (i, n) →
      let first := read (((s.snapshotBytes i)[0]?).getD 0)
      exec (.snapshotCapture ack) s = .next { first with mgp := { first.mgp with
        captures := { first := i, bytes := s.snapshotBytes i } :: s.mgp.captures.filter (fun c => c.first ≠ i) } }) ∧
    (∀ first n, snapshotField i = some (first, n) → first < i →
      (∀ c, s.mgp.captures.find? (fun c => c.first = first) = some c →
        exec (.snapshotCapture ack) s = .next (read ((c.bytes[i - first]?).getD 0))) ∧
      (s.mgp.captures.find? (fun c => c.first = first) = none →
        exec (.snapshotCapture ack) s = .next (read (((s.snapshotBytes first)[i - first]?).getD 0)))))

/-- What a byte of the map holds (R177, R184, R185, R189): the fields of one byte, the fields of several bytes with the indices of
their first bytes and their lengths, and what each holds; the staged and the live windows and parameters in their layout, which is
stated for tables of 8 windows; an index of no field reads 0. That the bits which no field names in the bytes 0x01, 0x02, 0x07, 0x08
and 0x0E, and in the presence byte of the fault view, read 0 is the model's choice (log 18). -/
def Obligations.MapReads : Prop :=
  (∀ i : Nat, snapshotField i =
     if 0x10 ≤ i ∧ i < 0x16 then some (0x10, 6)
     else if 0x18 ≤ i ∧ i < 0x22 then some (0x18, 10)
     else if 0x24 ≤ i ∧ i < 0x29 then some (0x24, 5)
     else if 0x40 ≤ i ∧ i < 0x60 then some (i - i % 4, 4)
     else if 0xB0 ≤ i ∧ i < 0xF0 then some (i - i % 8, 8)
     else if 0xF0 ≤ i ∧ i < 0xF6 then some (0xF0, 6)
     else none) ∧
  (∀ s : State,
     let device (d : Dev) : Nat := match (s.dev d).state with
       | .absent => 0
       | .online => 1
       | .writeLocked => 2
       | .offline => 3
     let flags := s.plainByte 0x02
     let events := s.plainByte 0x07
     s.plainByte 0x00 = (match s.sc.state with
       | .boot => 0
       | .replay => 1
       | .run => 2
       | .restarting => 3
       | .holdup => 4
       | .dumping => 5
       | .dumped => 6
       | .stopped => 7
       | .halted => 8) ∧
     s.plainByte 0x01 = BitVec.ofNat 8 (device .d0 + 4 * device .d1) ∧
     flags.getLsbD 0 = s.mu.config.fault ∧ flags.getLsbD 1 = s.mu.remap.fault ∧
     flags.extractLsb' 2 2 = (match s.wd.persist with
       | .done => 0
       | .pending => 1
       | .failed => 2) ∧
     flags.getLsbD 4 = s.mgp.fenceLoss ∧ flags.getLsbD 5 = s.mgp.overflow ∧ flags.getLsbD 6 = s.sc.noDevice0 ∧
     flags.getLsbD 7 = false ∧
     s.plainByte 0x03 = BitVec.ofNat 8 s.pwb.entries.length ∧ s.plainByte 0x04 = BitVec.ofNat 8 s.fu.queue.length ∧
     s.plainByte 0x05 = BitVec.ofNat 8 s.ru.free.d0.length ∧ s.plainByte 0x06 = BitVec.ofNat 8 s.ru.free.d1.length ∧
     events.getLsbD 0 = s.mgp.fenceDone ∧ events.getLsbD 1 = s.mgp.commitPersisted ∧ events.getLsbD 2 = s.mgp.restored ∧
     (events.getLsbD 3 = true ↔ s.mgp.faults ≠ []) ∧ events.extractLsb' 4 4 = 0 ∧
     s.plainByte 0x08 = s.mgp.enables.setWidth 8 ∧ s.plainByte 0x09 = s.mgp.arg1 ∧
     s.plainByte 0x0A = s.mgp.arg2.extractLsb' 0 8 ∧ s.plainByte 0x0B = s.mgp.arg2.extractLsb' 8 8 ∧
     s.plainByte 0x0C = s.mgp.code ∧
     s.plainByte 0x0D = (match s.mgp.result with
       | .none => 0
       | .done => 1
       | .accepted => 2
       | .busy => 3
       | .refusedState => 4
       | .invalidArgument => 5
       | .hostRange => 6
       | .memoryRange => 7
       | .deviceAbsent => 8
       | .hostOverlap => 9
       | .memoryOverlap => 10) ∧
     s.plainByte 0x0E = (if s.mgp.inHand then 1 else 0) ∧ s.plainByte 0x0F = BitVec.ofNat 8 s.mgp.remapIndex ∧
     ∀ i, snapshotField i = none → 0x10 ≤ i → ¬(0x60 ≤ i ∧ i < 0xA6) → s.plainByte i = 0) ∧
  (∀ s : State,
     let low (n : Nat) : Byte := BitVec.ofNat 8 n
     let high (n : Nat) : Byte := BitVec.ofNat 8 (n / 256)
     let number (d : Dev) : Byte := match d with
       | .d0 => 0
       | .d1 => 1
     s.snapshotBytes 0x10 = (match s.ru.table[s.mgp.remapIndex]? with
       | none => [0, 0, 0, 0, 0, 0]
       | some (.remap d h p) => [1, number d, low h, high h, low p, high p]
       | some (.failed d h) => [2, number d, low h, high h, 0, 0]
       | some (.retiredSpare d p) => [3, number d, 0, 0, low p, high p]) ∧
     (s.mgp.view = none → s.snapshotBytes 0x18 = [0, 0, 0, 0, 0, 0, 0, 0, 0, 0]) ∧
     (∀ r, s.mgp.view = some r →
       let kind : Byte := match r.kind with
         | .programFail => 1
         | .programTimeout => 2
         | .retireFail => 3
         | .retiredOnRequest => 4
         | .sparesLow => 5
         | .deviceWriteLocked => 6
         | .deviceOffline => 7
         | .metadataWrite => 8
         | .metaDefaulted => 9
         | .stallDiscard => 10
         | .dumpIncomplete => 11
         | .dumpCrc => 12
         | .dumpFailed => 13
         | .dumpImpossible => 14
       let presence := (if r.dev.isSome then 1 else 0) + (if r.page.isSome then 2 else 0) + (if r.count.isSome then 4 else 0)
       let device : Byte := match r.dev with
         | some d => number d
         | none => 0
       let page := r.page.getD 0
       let count := r.count.getD 0
       s.snapshotBytes 0x18 = [kind, low presence, device, 0, low page, high page, low count, high count,
         r.number.extractLsb' 0 8, r.number.extractLsb' 8 8]) ∧
     (s.hp.lastErr = none → s.snapshotBytes 0x24 = [0, 0, 0, 0, 0]) ∧
     (∀ e, s.hp.lastErr = some e →
       let cause : Byte := match e.cause with
         | .notReady => 1
         | .noWindow => 2
         | .readOnly => 3
         | .deviceUnavailable => 4
         | .writeRefused => 5
         | .failedPage => 6
         | .stallTimeout => 7
         | .wtIncomplete => 8
         | .abandoned => 9
       let addr := e.addr.setWidth 24
       s.snapshotBytes 0x24 = [cause, if e.dir = .read then 0 else 1, addr.extractLsb' 0 8, addr.extractLsb' 8 8,
         addr.extractLsb' 16 8]) ∧
     (let c := s.mgp.counters
      ∀ (k : Nat) (x : Word32), [c.writesAccepted, c.writesMerged, c.programsCompleted, c.retirements, c.entriesLost,
          c.stallTimeouts, c.errCompletions, c.fencesCompleted][k]? = some x →
        s.snapshotBytes (0x40 + 4 * k) =
          [x.extractLsb' 0 8, x.extractLsb' 8 8, x.extractLsb' 16 8, x.extractLsb' 24 8])) ∧
  (∀ s : State,
     let window (w : WindowRecord) : List Byte := [w.flags, w.device, w.hostBase.extractLsb' 0 8,
       w.hostBase.extractLsb' 8 8, w.size.extractLsb' 0 8, w.size.extractLsb' 8 8, w.memBase.extractLsb' 0 8,
       w.memBase.extractLsb' 8 8]
     let params (p : Params) : List Byte := [p.sealDelay.extractLsb' 0 8, p.sealDelay.extractLsb' 8 8, p.highWater,
       p.stallLimit, p.readAhead, p.suspendLimit]
     (s.wd.live.windows.length = 8 →
       (∀ k w, s.wd.live.windows[k]? = some w → s.snapshotBytes (0xB0 + 8 * k) = window w) ∧
       s.snapshotBytes 0xF0 = params s.wd.live.params) ∧
     (s.mgp.staged.windows.length = 8 →
       (∀ k w, s.mgp.staged.windows[k]? = some w →
         (List.range 8).map (fun j => s.plainByte (0x60 + 8 * k + j)) = window w) ∧
       (List.range 6).map (fun j => s.plainByte (0xA0 + j)) = params s.mgp.staged.params))
end

