-- ==== Sys2Proof/Laws/State.lean ====
section
/-! SUPPORT. One lemma for each field and each update of State, true by computation. -/

namespace Sys2Proof.Machine

@[simp] theorem State.setPending_pending (s : State) (x : List Instr) : (s.setPending x).pending = x := rfl
@[simp] theorem State.setPending_pins (s : State) (x : List Instr) : (s.setPending x).pins = s.pins := rfl
@[simp] theorem State.setPending_hp (s : State) (x : List Instr) : (s.setPending x).hp = s.hp := rfl
@[simp] theorem State.setPending_wd (s : State) (x : List Instr) : (s.setPending x).wd = s.wd := rfl
@[simp] theorem State.setPending_pwb (s : State) (x : List Instr) : (s.setPending x).pwb = s.pwb := rfl
@[simp] theorem State.setPending_rp (s : State) (x : List Instr) : (s.setPending x).rp = s.rp := rfl
@[simp] theorem State.setPending_fu (s : State) (x : List Instr) : (s.setPending x).fu = s.fu := rfl
@[simp] theorem State.setPending_de (s : State) (x : List Instr) : (s.setPending x).de = s.de := rfl
@[simp] theorem State.setPending_ru (s : State) (x : List Instr) : (s.setPending x).ru = s.ru := rfl
@[simp] theorem State.setPending_mp (s : State) (x : List Instr) : (s.setPending x).mp = s.mp := rfl
@[simp] theorem State.setPending_mu (s : State) (x : List Instr) : (s.setPending x).mu = s.mu := rfl
@[simp] theorem State.setPending_sc (s : State) (x : List Instr) : (s.setPending x).sc = s.sc := rfl
@[simp] theorem State.setPending_mgp (s : State) (x : List Instr) : (s.setPending x).mgp = s.mgp := rfl
@[simp] theorem State.setPending_nvm (s : State) (x : List Instr) : (s.setPending x).nvm = s.nvm := rfl
@[simp] theorem State.setPending_indet (s : State) (x : List Instr) : (s.setPending x).indet = s.indet := rfl
@[simp] theorem State.setPending_samples (s : State) (x : List Instr) : (s.setPending x).samples = s.samples := rfl

@[simp] theorem State.setPins_pending (s : State) (x : Pins) : (s.setPins x).pending = s.pending := rfl
@[simp] theorem State.setPins_pins (s : State) (x : Pins) : (s.setPins x).pins = x := rfl
@[simp] theorem State.setPins_hp (s : State) (x : Pins) : (s.setPins x).hp = s.hp := rfl
@[simp] theorem State.setPins_wd (s : State) (x : Pins) : (s.setPins x).wd = s.wd := rfl
@[simp] theorem State.setPins_pwb (s : State) (x : Pins) : (s.setPins x).pwb = s.pwb := rfl
@[simp] theorem State.setPins_rp (s : State) (x : Pins) : (s.setPins x).rp = s.rp := rfl
@[simp] theorem State.setPins_fu (s : State) (x : Pins) : (s.setPins x).fu = s.fu := rfl
@[simp] theorem State.setPins_de (s : State) (x : Pins) : (s.setPins x).de = s.de := rfl
@[simp] theorem State.setPins_ru (s : State) (x : Pins) : (s.setPins x).ru = s.ru := rfl
@[simp] theorem State.setPins_mp (s : State) (x : Pins) : (s.setPins x).mp = s.mp := rfl
@[simp] theorem State.setPins_mu (s : State) (x : Pins) : (s.setPins x).mu = s.mu := rfl
@[simp] theorem State.setPins_sc (s : State) (x : Pins) : (s.setPins x).sc = s.sc := rfl
@[simp] theorem State.setPins_mgp (s : State) (x : Pins) : (s.setPins x).mgp = s.mgp := rfl
@[simp] theorem State.setPins_nvm (s : State) (x : Pins) : (s.setPins x).nvm = s.nvm := rfl
@[simp] theorem State.setPins_indet (s : State) (x : Pins) : (s.setPins x).indet = s.indet := rfl
@[simp] theorem State.setPins_samples (s : State) (x : Pins) : (s.setPins x).samples = s.samples := rfl

@[simp] theorem State.setHp_pending (s : State) (x : HostPort) : (s.setHp x).pending = s.pending := rfl
@[simp] theorem State.setHp_pins (s : State) (x : HostPort) : (s.setHp x).pins = s.pins := rfl
@[simp] theorem State.setHp_hp (s : State) (x : HostPort) : (s.setHp x).hp = x := rfl
@[simp] theorem State.setHp_wd (s : State) (x : HostPort) : (s.setHp x).wd = s.wd := rfl
@[simp] theorem State.setHp_pwb (s : State) (x : HostPort) : (s.setHp x).pwb = s.pwb := rfl
@[simp] theorem State.setHp_rp (s : State) (x : HostPort) : (s.setHp x).rp = s.rp := rfl
@[simp] theorem State.setHp_fu (s : State) (x : HostPort) : (s.setHp x).fu = s.fu := rfl
@[simp] theorem State.setHp_de (s : State) (x : HostPort) : (s.setHp x).de = s.de := rfl
@[simp] theorem State.setHp_ru (s : State) (x : HostPort) : (s.setHp x).ru = s.ru := rfl
@[simp] theorem State.setHp_mp (s : State) (x : HostPort) : (s.setHp x).mp = s.mp := rfl
@[simp] theorem State.setHp_mu (s : State) (x : HostPort) : (s.setHp x).mu = s.mu := rfl
@[simp] theorem State.setHp_sc (s : State) (x : HostPort) : (s.setHp x).sc = s.sc := rfl
@[simp] theorem State.setHp_mgp (s : State) (x : HostPort) : (s.setHp x).mgp = s.mgp := rfl
@[simp] theorem State.setHp_nvm (s : State) (x : HostPort) : (s.setHp x).nvm = s.nvm := rfl
@[simp] theorem State.setHp_indet (s : State) (x : HostPort) : (s.setHp x).indet = s.indet := rfl
@[simp] theorem State.setHp_samples (s : State) (x : HostPort) : (s.setHp x).samples = s.samples := rfl

@[simp] theorem State.setWd_pending (s : State) (x : WindowDecoder) : (s.setWd x).pending = s.pending := rfl
@[simp] theorem State.setWd_pins (s : State) (x : WindowDecoder) : (s.setWd x).pins = s.pins := rfl
@[simp] theorem State.setWd_hp (s : State) (x : WindowDecoder) : (s.setWd x).hp = s.hp := rfl
@[simp] theorem State.setWd_wd (s : State) (x : WindowDecoder) : (s.setWd x).wd = x := rfl
@[simp] theorem State.setWd_pwb (s : State) (x : WindowDecoder) : (s.setWd x).pwb = s.pwb := rfl
@[simp] theorem State.setWd_rp (s : State) (x : WindowDecoder) : (s.setWd x).rp = s.rp := rfl
@[simp] theorem State.setWd_fu (s : State) (x : WindowDecoder) : (s.setWd x).fu = s.fu := rfl
@[simp] theorem State.setWd_de (s : State) (x : WindowDecoder) : (s.setWd x).de = s.de := rfl
@[simp] theorem State.setWd_ru (s : State) (x : WindowDecoder) : (s.setWd x).ru = s.ru := rfl
@[simp] theorem State.setWd_mp (s : State) (x : WindowDecoder) : (s.setWd x).mp = s.mp := rfl
@[simp] theorem State.setWd_mu (s : State) (x : WindowDecoder) : (s.setWd x).mu = s.mu := rfl
@[simp] theorem State.setWd_sc (s : State) (x : WindowDecoder) : (s.setWd x).sc = s.sc := rfl
@[simp] theorem State.setWd_mgp (s : State) (x : WindowDecoder) : (s.setWd x).mgp = s.mgp := rfl
@[simp] theorem State.setWd_nvm (s : State) (x : WindowDecoder) : (s.setWd x).nvm = s.nvm := rfl
@[simp] theorem State.setWd_indet (s : State) (x : WindowDecoder) : (s.setWd x).indet = s.indet := rfl
@[simp] theorem State.setWd_samples (s : State) (x : WindowDecoder) : (s.setWd x).samples = s.samples := rfl

@[simp] theorem State.setPwb_pending (s : State) (x : WriteBuffer) : (s.setPwb x).pending = s.pending := rfl
@[simp] theorem State.setPwb_pins (s : State) (x : WriteBuffer) : (s.setPwb x).pins = s.pins := rfl
@[simp] theorem State.setPwb_hp (s : State) (x : WriteBuffer) : (s.setPwb x).hp = s.hp := rfl
@[simp] theorem State.setPwb_wd (s : State) (x : WriteBuffer) : (s.setPwb x).wd = s.wd := rfl
@[simp] theorem State.setPwb_pwb (s : State) (x : WriteBuffer) : (s.setPwb x).pwb = x := rfl
@[simp] theorem State.setPwb_rp (s : State) (x : WriteBuffer) : (s.setPwb x).rp = s.rp := rfl
@[simp] theorem State.setPwb_fu (s : State) (x : WriteBuffer) : (s.setPwb x).fu = s.fu := rfl
@[simp] theorem State.setPwb_de (s : State) (x : WriteBuffer) : (s.setPwb x).de = s.de := rfl
@[simp] theorem State.setPwb_ru (s : State) (x : WriteBuffer) : (s.setPwb x).ru = s.ru := rfl
@[simp] theorem State.setPwb_mp (s : State) (x : WriteBuffer) : (s.setPwb x).mp = s.mp := rfl
@[simp] theorem State.setPwb_mu (s : State) (x : WriteBuffer) : (s.setPwb x).mu = s.mu := rfl
@[simp] theorem State.setPwb_sc (s : State) (x : WriteBuffer) : (s.setPwb x).sc = s.sc := rfl
@[simp] theorem State.setPwb_mgp (s : State) (x : WriteBuffer) : (s.setPwb x).mgp = s.mgp := rfl
@[simp] theorem State.setPwb_nvm (s : State) (x : WriteBuffer) : (s.setPwb x).nvm = s.nvm := rfl
@[simp] theorem State.setPwb_indet (s : State) (x : WriteBuffer) : (s.setPwb x).indet = s.indet := rfl
@[simp] theorem State.setPwb_samples (s : State) (x : WriteBuffer) : (s.setPwb x).samples = s.samples := rfl

@[simp] theorem State.setRp_pending (s : State) (x : ReadPath) : (s.setRp x).pending = s.pending := rfl
@[simp] theorem State.setRp_pins (s : State) (x : ReadPath) : (s.setRp x).pins = s.pins := rfl
@[simp] theorem State.setRp_hp (s : State) (x : ReadPath) : (s.setRp x).hp = s.hp := rfl
@[simp] theorem State.setRp_wd (s : State) (x : ReadPath) : (s.setRp x).wd = s.wd := rfl
@[simp] theorem State.setRp_pwb (s : State) (x : ReadPath) : (s.setRp x).pwb = s.pwb := rfl
@[simp] theorem State.setRp_rp (s : State) (x : ReadPath) : (s.setRp x).rp = x := rfl
@[simp] theorem State.setRp_fu (s : State) (x : ReadPath) : (s.setRp x).fu = s.fu := rfl
@[simp] theorem State.setRp_de (s : State) (x : ReadPath) : (s.setRp x).de = s.de := rfl
@[simp] theorem State.setRp_ru (s : State) (x : ReadPath) : (s.setRp x).ru = s.ru := rfl
@[simp] theorem State.setRp_mp (s : State) (x : ReadPath) : (s.setRp x).mp = s.mp := rfl
@[simp] theorem State.setRp_mu (s : State) (x : ReadPath) : (s.setRp x).mu = s.mu := rfl
@[simp] theorem State.setRp_sc (s : State) (x : ReadPath) : (s.setRp x).sc = s.sc := rfl
@[simp] theorem State.setRp_mgp (s : State) (x : ReadPath) : (s.setRp x).mgp = s.mgp := rfl
@[simp] theorem State.setRp_nvm (s : State) (x : ReadPath) : (s.setRp x).nvm = s.nvm := rfl
@[simp] theorem State.setRp_indet (s : State) (x : ReadPath) : (s.setRp x).indet = s.indet := rfl
@[simp] theorem State.setRp_samples (s : State) (x : ReadPath) : (s.setRp x).samples = s.samples := rfl

@[simp] theorem State.setFu_pending (s : State) (x : FenceUnit) : (s.setFu x).pending = s.pending := rfl
@[simp] theorem State.setFu_pins (s : State) (x : FenceUnit) : (s.setFu x).pins = s.pins := rfl
@[simp] theorem State.setFu_hp (s : State) (x : FenceUnit) : (s.setFu x).hp = s.hp := rfl
@[simp] theorem State.setFu_wd (s : State) (x : FenceUnit) : (s.setFu x).wd = s.wd := rfl
@[simp] theorem State.setFu_pwb (s : State) (x : FenceUnit) : (s.setFu x).pwb = s.pwb := rfl
@[simp] theorem State.setFu_rp (s : State) (x : FenceUnit) : (s.setFu x).rp = s.rp := rfl
@[simp] theorem State.setFu_fu (s : State) (x : FenceUnit) : (s.setFu x).fu = x := rfl
@[simp] theorem State.setFu_de (s : State) (x : FenceUnit) : (s.setFu x).de = s.de := rfl
@[simp] theorem State.setFu_ru (s : State) (x : FenceUnit) : (s.setFu x).ru = s.ru := rfl
@[simp] theorem State.setFu_mp (s : State) (x : FenceUnit) : (s.setFu x).mp = s.mp := rfl
@[simp] theorem State.setFu_mu (s : State) (x : FenceUnit) : (s.setFu x).mu = s.mu := rfl
@[simp] theorem State.setFu_sc (s : State) (x : FenceUnit) : (s.setFu x).sc = s.sc := rfl
@[simp] theorem State.setFu_mgp (s : State) (x : FenceUnit) : (s.setFu x).mgp = s.mgp := rfl
@[simp] theorem State.setFu_nvm (s : State) (x : FenceUnit) : (s.setFu x).nvm = s.nvm := rfl
@[simp] theorem State.setFu_indet (s : State) (x : FenceUnit) : (s.setFu x).indet = s.indet := rfl
@[simp] theorem State.setFu_samples (s : State) (x : FenceUnit) : (s.setFu x).samples = s.samples := rfl

@[simp] theorem State.setDe_pending (s : State) (x : PerDev Engine) : (s.setDe x).pending = s.pending := rfl
@[simp] theorem State.setDe_pins (s : State) (x : PerDev Engine) : (s.setDe x).pins = s.pins := rfl
@[simp] theorem State.setDe_hp (s : State) (x : PerDev Engine) : (s.setDe x).hp = s.hp := rfl
@[simp] theorem State.setDe_wd (s : State) (x : PerDev Engine) : (s.setDe x).wd = s.wd := rfl
@[simp] theorem State.setDe_pwb (s : State) (x : PerDev Engine) : (s.setDe x).pwb = s.pwb := rfl
@[simp] theorem State.setDe_rp (s : State) (x : PerDev Engine) : (s.setDe x).rp = s.rp := rfl
@[simp] theorem State.setDe_fu (s : State) (x : PerDev Engine) : (s.setDe x).fu = s.fu := rfl
@[simp] theorem State.setDe_de (s : State) (x : PerDev Engine) : (s.setDe x).de = x := rfl
@[simp] theorem State.setDe_ru (s : State) (x : PerDev Engine) : (s.setDe x).ru = s.ru := rfl
@[simp] theorem State.setDe_mp (s : State) (x : PerDev Engine) : (s.setDe x).mp = s.mp := rfl
@[simp] theorem State.setDe_mu (s : State) (x : PerDev Engine) : (s.setDe x).mu = s.mu := rfl
@[simp] theorem State.setDe_sc (s : State) (x : PerDev Engine) : (s.setDe x).sc = s.sc := rfl
@[simp] theorem State.setDe_mgp (s : State) (x : PerDev Engine) : (s.setDe x).mgp = s.mgp := rfl
@[simp] theorem State.setDe_nvm (s : State) (x : PerDev Engine) : (s.setDe x).nvm = s.nvm := rfl
@[simp] theorem State.setDe_indet (s : State) (x : PerDev Engine) : (s.setDe x).indet = s.indet := rfl
@[simp] theorem State.setDe_samples (s : State) (x : PerDev Engine) : (s.setDe x).samples = s.samples := rfl

@[simp] theorem State.setRu_pending (s : State) (x : RemapUnit) : (s.setRu x).pending = s.pending := rfl
@[simp] theorem State.setRu_pins (s : State) (x : RemapUnit) : (s.setRu x).pins = s.pins := rfl
@[simp] theorem State.setRu_hp (s : State) (x : RemapUnit) : (s.setRu x).hp = s.hp := rfl
@[simp] theorem State.setRu_wd (s : State) (x : RemapUnit) : (s.setRu x).wd = s.wd := rfl
@[simp] theorem State.setRu_pwb (s : State) (x : RemapUnit) : (s.setRu x).pwb = s.pwb := rfl
@[simp] theorem State.setRu_rp (s : State) (x : RemapUnit) : (s.setRu x).rp = s.rp := rfl
@[simp] theorem State.setRu_fu (s : State) (x : RemapUnit) : (s.setRu x).fu = s.fu := rfl
@[simp] theorem State.setRu_de (s : State) (x : RemapUnit) : (s.setRu x).de = s.de := rfl
@[simp] theorem State.setRu_ru (s : State) (x : RemapUnit) : (s.setRu x).ru = x := rfl
@[simp] theorem State.setRu_mp (s : State) (x : RemapUnit) : (s.setRu x).mp = s.mp := rfl
@[simp] theorem State.setRu_mu (s : State) (x : RemapUnit) : (s.setRu x).mu = s.mu := rfl
@[simp] theorem State.setRu_sc (s : State) (x : RemapUnit) : (s.setRu x).sc = s.sc := rfl
@[simp] theorem State.setRu_mgp (s : State) (x : RemapUnit) : (s.setRu x).mgp = s.mgp := rfl
@[simp] theorem State.setRu_nvm (s : State) (x : RemapUnit) : (s.setRu x).nvm = s.nvm := rfl
@[simp] theorem State.setRu_indet (s : State) (x : RemapUnit) : (s.setRu x).indet = s.indet := rfl
@[simp] theorem State.setRu_samples (s : State) (x : RemapUnit) : (s.setRu x).samples = s.samples := rfl

@[simp] theorem State.setMp_pending (s : State) (x : MemoryPort) : (s.setMp x).pending = s.pending := rfl
@[simp] theorem State.setMp_pins (s : State) (x : MemoryPort) : (s.setMp x).pins = s.pins := rfl
@[simp] theorem State.setMp_hp (s : State) (x : MemoryPort) : (s.setMp x).hp = s.hp := rfl
@[simp] theorem State.setMp_wd (s : State) (x : MemoryPort) : (s.setMp x).wd = s.wd := rfl
@[simp] theorem State.setMp_pwb (s : State) (x : MemoryPort) : (s.setMp x).pwb = s.pwb := rfl
@[simp] theorem State.setMp_rp (s : State) (x : MemoryPort) : (s.setMp x).rp = s.rp := rfl
@[simp] theorem State.setMp_fu (s : State) (x : MemoryPort) : (s.setMp x).fu = s.fu := rfl
@[simp] theorem State.setMp_de (s : State) (x : MemoryPort) : (s.setMp x).de = s.de := rfl
@[simp] theorem State.setMp_ru (s : State) (x : MemoryPort) : (s.setMp x).ru = s.ru := rfl
@[simp] theorem State.setMp_mp (s : State) (x : MemoryPort) : (s.setMp x).mp = x := rfl
@[simp] theorem State.setMp_mu (s : State) (x : MemoryPort) : (s.setMp x).mu = s.mu := rfl
@[simp] theorem State.setMp_sc (s : State) (x : MemoryPort) : (s.setMp x).sc = s.sc := rfl
@[simp] theorem State.setMp_mgp (s : State) (x : MemoryPort) : (s.setMp x).mgp = s.mgp := rfl
@[simp] theorem State.setMp_nvm (s : State) (x : MemoryPort) : (s.setMp x).nvm = s.nvm := rfl
@[simp] theorem State.setMp_indet (s : State) (x : MemoryPort) : (s.setMp x).indet = s.indet := rfl
@[simp] theorem State.setMp_samples (s : State) (x : MemoryPort) : (s.setMp x).samples = s.samples := rfl

@[simp] theorem State.setMu_pending (s : State) (x : MetadataUnit) : (s.setMu x).pending = s.pending := rfl
@[simp] theorem State.setMu_pins (s : State) (x : MetadataUnit) : (s.setMu x).pins = s.pins := rfl
@[simp] theorem State.setMu_hp (s : State) (x : MetadataUnit) : (s.setMu x).hp = s.hp := rfl
@[simp] theorem State.setMu_wd (s : State) (x : MetadataUnit) : (s.setMu x).wd = s.wd := rfl
@[simp] theorem State.setMu_pwb (s : State) (x : MetadataUnit) : (s.setMu x).pwb = s.pwb := rfl
@[simp] theorem State.setMu_rp (s : State) (x : MetadataUnit) : (s.setMu x).rp = s.rp := rfl
@[simp] theorem State.setMu_fu (s : State) (x : MetadataUnit) : (s.setMu x).fu = s.fu := rfl
@[simp] theorem State.setMu_de (s : State) (x : MetadataUnit) : (s.setMu x).de = s.de := rfl
@[simp] theorem State.setMu_ru (s : State) (x : MetadataUnit) : (s.setMu x).ru = s.ru := rfl
@[simp] theorem State.setMu_mp (s : State) (x : MetadataUnit) : (s.setMu x).mp = s.mp := rfl
@[simp] theorem State.setMu_mu (s : State) (x : MetadataUnit) : (s.setMu x).mu = x := rfl
@[simp] theorem State.setMu_sc (s : State) (x : MetadataUnit) : (s.setMu x).sc = s.sc := rfl
@[simp] theorem State.setMu_mgp (s : State) (x : MetadataUnit) : (s.setMu x).mgp = s.mgp := rfl
@[simp] theorem State.setMu_nvm (s : State) (x : MetadataUnit) : (s.setMu x).nvm = s.nvm := rfl
@[simp] theorem State.setMu_indet (s : State) (x : MetadataUnit) : (s.setMu x).indet = s.indet := rfl
@[simp] theorem State.setMu_samples (s : State) (x : MetadataUnit) : (s.setMu x).samples = s.samples := rfl

@[simp] theorem State.setSc_pending (s : State) (x : StateController) : (s.setSc x).pending = s.pending := rfl
@[simp] theorem State.setSc_pins (s : State) (x : StateController) : (s.setSc x).pins = s.pins := rfl
@[simp] theorem State.setSc_hp (s : State) (x : StateController) : (s.setSc x).hp = s.hp := rfl
@[simp] theorem State.setSc_wd (s : State) (x : StateController) : (s.setSc x).wd = s.wd := rfl
@[simp] theorem State.setSc_pwb (s : State) (x : StateController) : (s.setSc x).pwb = s.pwb := rfl
@[simp] theorem State.setSc_rp (s : State) (x : StateController) : (s.setSc x).rp = s.rp := rfl
@[simp] theorem State.setSc_fu (s : State) (x : StateController) : (s.setSc x).fu = s.fu := rfl
@[simp] theorem State.setSc_de (s : State) (x : StateController) : (s.setSc x).de = s.de := rfl
@[simp] theorem State.setSc_ru (s : State) (x : StateController) : (s.setSc x).ru = s.ru := rfl
@[simp] theorem State.setSc_mp (s : State) (x : StateController) : (s.setSc x).mp = s.mp := rfl
@[simp] theorem State.setSc_mu (s : State) (x : StateController) : (s.setSc x).mu = s.mu := rfl
@[simp] theorem State.setSc_sc (s : State) (x : StateController) : (s.setSc x).sc = x := rfl
@[simp] theorem State.setSc_mgp (s : State) (x : StateController) : (s.setSc x).mgp = s.mgp := rfl
@[simp] theorem State.setSc_nvm (s : State) (x : StateController) : (s.setSc x).nvm = s.nvm := rfl
@[simp] theorem State.setSc_indet (s : State) (x : StateController) : (s.setSc x).indet = s.indet := rfl
@[simp] theorem State.setSc_samples (s : State) (x : StateController) : (s.setSc x).samples = s.samples := rfl

@[simp] theorem State.setMgp_pending (s : State) (x : ManagementPort) : (s.setMgp x).pending = s.pending := rfl
@[simp] theorem State.setMgp_pins (s : State) (x : ManagementPort) : (s.setMgp x).pins = s.pins := rfl
@[simp] theorem State.setMgp_hp (s : State) (x : ManagementPort) : (s.setMgp x).hp = s.hp := rfl
@[simp] theorem State.setMgp_wd (s : State) (x : ManagementPort) : (s.setMgp x).wd = s.wd := rfl
@[simp] theorem State.setMgp_pwb (s : State) (x : ManagementPort) : (s.setMgp x).pwb = s.pwb := rfl
@[simp] theorem State.setMgp_rp (s : State) (x : ManagementPort) : (s.setMgp x).rp = s.rp := rfl
@[simp] theorem State.setMgp_fu (s : State) (x : ManagementPort) : (s.setMgp x).fu = s.fu := rfl
@[simp] theorem State.setMgp_de (s : State) (x : ManagementPort) : (s.setMgp x).de = s.de := rfl
@[simp] theorem State.setMgp_ru (s : State) (x : ManagementPort) : (s.setMgp x).ru = s.ru := rfl
@[simp] theorem State.setMgp_mp (s : State) (x : ManagementPort) : (s.setMgp x).mp = s.mp := rfl
@[simp] theorem State.setMgp_mu (s : State) (x : ManagementPort) : (s.setMgp x).mu = s.mu := rfl
@[simp] theorem State.setMgp_sc (s : State) (x : ManagementPort) : (s.setMgp x).sc = s.sc := rfl
@[simp] theorem State.setMgp_mgp (s : State) (x : ManagementPort) : (s.setMgp x).mgp = x := rfl
@[simp] theorem State.setMgp_nvm (s : State) (x : ManagementPort) : (s.setMgp x).nvm = s.nvm := rfl
@[simp] theorem State.setMgp_indet (s : State) (x : ManagementPort) : (s.setMgp x).indet = s.indet := rfl
@[simp] theorem State.setMgp_samples (s : State) (x : ManagementPort) : (s.setMgp x).samples = s.samples := rfl

@[simp] theorem State.setNvm_pending (s : State) (x : PerDev Nvm) : (s.setNvm x).pending = s.pending := rfl
@[simp] theorem State.setNvm_pins (s : State) (x : PerDev Nvm) : (s.setNvm x).pins = s.pins := rfl
@[simp] theorem State.setNvm_hp (s : State) (x : PerDev Nvm) : (s.setNvm x).hp = s.hp := rfl
@[simp] theorem State.setNvm_wd (s : State) (x : PerDev Nvm) : (s.setNvm x).wd = s.wd := rfl
@[simp] theorem State.setNvm_pwb (s : State) (x : PerDev Nvm) : (s.setNvm x).pwb = s.pwb := rfl
@[simp] theorem State.setNvm_rp (s : State) (x : PerDev Nvm) : (s.setNvm x).rp = s.rp := rfl
@[simp] theorem State.setNvm_fu (s : State) (x : PerDev Nvm) : (s.setNvm x).fu = s.fu := rfl
@[simp] theorem State.setNvm_de (s : State) (x : PerDev Nvm) : (s.setNvm x).de = s.de := rfl
@[simp] theorem State.setNvm_ru (s : State) (x : PerDev Nvm) : (s.setNvm x).ru = s.ru := rfl
@[simp] theorem State.setNvm_mp (s : State) (x : PerDev Nvm) : (s.setNvm x).mp = s.mp := rfl
@[simp] theorem State.setNvm_mu (s : State) (x : PerDev Nvm) : (s.setNvm x).mu = s.mu := rfl
@[simp] theorem State.setNvm_sc (s : State) (x : PerDev Nvm) : (s.setNvm x).sc = s.sc := rfl
@[simp] theorem State.setNvm_mgp (s : State) (x : PerDev Nvm) : (s.setNvm x).mgp = s.mgp := rfl
@[simp] theorem State.setNvm_nvm (s : State) (x : PerDev Nvm) : (s.setNvm x).nvm = x := rfl
@[simp] theorem State.setNvm_indet (s : State) (x : PerDev Nvm) : (s.setNvm x).indet = s.indet := rfl
@[simp] theorem State.setNvm_samples (s : State) (x : PerDev Nvm) : (s.setNvm x).samples = s.samples := rfl

@[simp] theorem State.setIndet_pending (s : State) (x : Nat) : (s.setIndet x).pending = s.pending := rfl
@[simp] theorem State.setIndet_pins (s : State) (x : Nat) : (s.setIndet x).pins = s.pins := rfl
@[simp] theorem State.setIndet_hp (s : State) (x : Nat) : (s.setIndet x).hp = s.hp := rfl
@[simp] theorem State.setIndet_wd (s : State) (x : Nat) : (s.setIndet x).wd = s.wd := rfl
@[simp] theorem State.setIndet_pwb (s : State) (x : Nat) : (s.setIndet x).pwb = s.pwb := rfl
@[simp] theorem State.setIndet_rp (s : State) (x : Nat) : (s.setIndet x).rp = s.rp := rfl
@[simp] theorem State.setIndet_fu (s : State) (x : Nat) : (s.setIndet x).fu = s.fu := rfl
@[simp] theorem State.setIndet_de (s : State) (x : Nat) : (s.setIndet x).de = s.de := rfl
@[simp] theorem State.setIndet_ru (s : State) (x : Nat) : (s.setIndet x).ru = s.ru := rfl
@[simp] theorem State.setIndet_mp (s : State) (x : Nat) : (s.setIndet x).mp = s.mp := rfl
@[simp] theorem State.setIndet_mu (s : State) (x : Nat) : (s.setIndet x).mu = s.mu := rfl
@[simp] theorem State.setIndet_sc (s : State) (x : Nat) : (s.setIndet x).sc = s.sc := rfl
@[simp] theorem State.setIndet_mgp (s : State) (x : Nat) : (s.setIndet x).mgp = s.mgp := rfl
@[simp] theorem State.setIndet_nvm (s : State) (x : Nat) : (s.setIndet x).nvm = s.nvm := rfl
@[simp] theorem State.setIndet_indet (s : State) (x : Nat) : (s.setIndet x).indet = x := rfl
@[simp] theorem State.setIndet_samples (s : State) (x : Nat) : (s.setIndet x).samples = s.samples := rfl

@[simp] theorem PerDev.get_set_same {α : Type} (p : PerDev α) (d : Dev) (x : α) : (p.set d x).get d = x := by
  cases d <;> rfl

theorem PerDev.get_set_other {α : Type} (p : PerDev α) {d e : Dev} (h : e ≠ d) (x : α) : (p.set d x).get e = p.get e := by
  cases d <;> cases e <;> first | rfl | exact absurd rfl h

@[simp] theorem State.setSamples_pending (s : State) (x : Nat) : (s.setSamples x).pending = s.pending := rfl
@[simp] theorem State.setSamples_pins (s : State) (x : Nat) : (s.setSamples x).pins = s.pins := rfl
@[simp] theorem State.setSamples_hp (s : State) (x : Nat) : (s.setSamples x).hp = s.hp := rfl
@[simp] theorem State.setSamples_wd (s : State) (x : Nat) : (s.setSamples x).wd = s.wd := rfl
@[simp] theorem State.setSamples_pwb (s : State) (x : Nat) : (s.setSamples x).pwb = s.pwb := rfl
@[simp] theorem State.setSamples_rp (s : State) (x : Nat) : (s.setSamples x).rp = s.rp := rfl
@[simp] theorem State.setSamples_fu (s : State) (x : Nat) : (s.setSamples x).fu = s.fu := rfl
@[simp] theorem State.setSamples_de (s : State) (x : Nat) : (s.setSamples x).de = s.de := rfl
@[simp] theorem State.setSamples_ru (s : State) (x : Nat) : (s.setSamples x).ru = s.ru := rfl
@[simp] theorem State.setSamples_mp (s : State) (x : Nat) : (s.setSamples x).mp = s.mp := rfl
@[simp] theorem State.setSamples_mu (s : State) (x : Nat) : (s.setSamples x).mu = s.mu := rfl
@[simp] theorem State.setSamples_sc (s : State) (x : Nat) : (s.setSamples x).sc = s.sc := rfl
@[simp] theorem State.setSamples_mgp (s : State) (x : Nat) : (s.setSamples x).mgp = s.mgp := rfl
@[simp] theorem State.setSamples_nvm (s : State) (x : Nat) : (s.setSamples x).nvm = s.nvm := rfl
@[simp] theorem State.setSamples_indet (s : State) (x : Nat) : (s.setSamples x).indet = s.indet := rfl
@[simp] theorem State.setSamples_samples (s : State) (x : Nat) : (s.setSamples x).samples = x := rfl

end Sys2Proof.Machine
end

