-- ==== Sys2Proof/Laws/Frames.lean ====
section
/-! SUPPORT. What each shared operation leaves alone: one lemma for each, to be cited in place of unfolding it. -/

namespace Sys2Proof.Machine

@[simp] theorem State.setDev_frame (s : State) (d : Dev) (r : DevRecord) :
    (s.setDev d r).pending = s.pending ∧ (s.setDev d r).pins = s.pins ∧ (s.setDev d r).hp = s.hp ∧
    (s.setDev d r).wd = s.wd ∧ (s.setDev d r).pwb = s.pwb ∧ (s.setDev d r).rp = s.rp ∧ (s.setDev d r).fu = s.fu ∧
    (s.setDev d r).de = s.de ∧ (s.setDev d r).ru = s.ru ∧ (s.setDev d r).mu = s.mu ∧ (s.setDev d r).sc = s.sc ∧
    (s.setDev d r).mgp = s.mgp ∧ (s.setDev d r).nvm = s.nvm ∧ (s.setDev d r).indet = s.indet ∧
    (s.setDev d r).samples = s.samples := by
  simp [State.setDev]

@[simp] theorem State.setCtx_frame (s : State) (d : Dev) (c : Option Ctx) :
    (s.setCtx d c).pending = s.pending ∧ (s.setCtx d c).pins = s.pins ∧ (s.setCtx d c).hp = s.hp ∧
    (s.setCtx d c).wd = s.wd ∧ (s.setCtx d c).pwb = s.pwb ∧ (s.setCtx d c).rp = s.rp ∧ (s.setCtx d c).fu = s.fu ∧
    (s.setCtx d c).ru = s.ru ∧ (s.setCtx d c).mp = s.mp ∧ (s.setCtx d c).mu = s.mu ∧ (s.setCtx d c).sc = s.sc ∧
    (s.setCtx d c).mgp = s.mgp ∧ (s.setCtx d c).nvm = s.nvm ∧ (s.setCtx d c).indet = s.indet ∧
    (s.setCtx d c).samples = s.samples := by
  simp [State.setCtx]

@[simp] theorem State.count_frame (s : State) (which : Counter) (n : Nat) :
    (s.count which n).pending = s.pending ∧ (s.count which n).pins = s.pins ∧ (s.count which n).hp = s.hp ∧
    (s.count which n).wd = s.wd ∧ (s.count which n).pwb = s.pwb ∧ (s.count which n).rp = s.rp ∧
    (s.count which n).fu = s.fu ∧ (s.count which n).de = s.de ∧ (s.count which n).ru = s.ru ∧
    (s.count which n).mp = s.mp ∧ (s.count which n).mu = s.mu ∧ (s.count which n).sc = s.sc ∧
    (s.count which n).nvm = s.nvm ∧ (s.count which n).indet = s.indet ∧ (s.count which n).samples = s.samples := by
  simp [State.count]

@[simp] theorem State.postFault_frame (s : State) (kind : FaultKind) (dev : Option Dev) (page count : Option Nat) :
    (s.postFault kind dev page count).pending = s.pending ∧ (s.postFault kind dev page count).pins = s.pins ∧
    (s.postFault kind dev page count).hp = s.hp ∧ (s.postFault kind dev page count).wd = s.wd ∧
    (s.postFault kind dev page count).pwb = s.pwb ∧ (s.postFault kind dev page count).rp = s.rp ∧
    (s.postFault kind dev page count).fu = s.fu ∧ (s.postFault kind dev page count).de = s.de ∧
    (s.postFault kind dev page count).ru = s.ru ∧ (s.postFault kind dev page count).mp = s.mp ∧
    (s.postFault kind dev page count).mu = s.mu ∧ (s.postFault kind dev page count).sc = s.sc ∧
    (s.postFault kind dev page count).nvm = s.nvm ∧ (s.postFault kind dev page count).indet = s.indet ∧
    (s.postFault kind dev page count).samples = s.samples := by
  refine ⟨?_, ?_, ?_, ?_, ?_, ?_, ?_, ?_, ?_, ?_, ?_, ?_, ?_, ?_, ?_⟩ <;>
    (unfold State.postFault; repeat' (first | split | dsimp only)) <;> simp

@[simp] theorem State.complete_frame (s : State) (err : Option Cause) (data : Half) :
    (s.complete err data).pending = s.pending ∧ (s.complete err data).pins = s.pins ∧
    (s.complete err data).wd = s.wd ∧ (s.complete err data).pwb = s.pwb ∧ (s.complete err data).rp = s.rp ∧
    (s.complete err data).fu = s.fu ∧ (s.complete err data).de = s.de ∧ (s.complete err data).ru = s.ru ∧
    (s.complete err data).mp = s.mp ∧ (s.complete err data).mu = s.mu ∧ (s.complete err data).sc = s.sc ∧
    (s.complete err data).nvm = s.nvm ∧ (s.complete err data).indet = s.indet ∧
    (s.complete err data).samples = s.samples := by
  refine ⟨?_, ?_, ?_, ?_, ?_, ?_, ?_, ?_, ?_, ?_, ?_, ?_, ?_, ?_⟩ <;>
    (unfold State.complete; repeat' (first | split | dsimp only)) <;> simp

@[simp] theorem State.holdAccess_frame (s : State) (p : AccessPhase) :
    (s.holdAccess p).pending = s.pending ∧ (s.holdAccess p).pins = s.pins ∧ (s.holdAccess p).wd = s.wd ∧
    (s.holdAccess p).pwb = s.pwb ∧ (s.holdAccess p).rp = s.rp ∧ (s.holdAccess p).fu = s.fu ∧
    (s.holdAccess p).de = s.de ∧ (s.holdAccess p).ru = s.ru ∧ (s.holdAccess p).mp = s.mp ∧
    (s.holdAccess p).mu = s.mu ∧ (s.holdAccess p).sc = s.sc ∧ (s.holdAccess p).mgp = s.mgp ∧
    (s.holdAccess p).nvm = s.nvm ∧ (s.holdAccess p).indet = s.indet ∧ (s.holdAccess p).samples = s.samples := by
  refine ⟨?_, ?_, ?_, ?_, ?_, ?_, ?_, ?_, ?_, ?_, ?_, ?_, ?_, ?_, ?_⟩ <;>
    (unfold State.holdAccess; repeat' (first | split | dsimp only)) <;> simp

@[simp] theorem State.join_frame (s : State) (r : Request) :
    (s.join r).pending = s.pending ∧ (s.join r).pins = s.pins ∧ (s.join r).hp = s.hp ∧ (s.join r).wd = s.wd ∧
    (s.join r).pwb = s.pwb ∧ (s.join r).rp = s.rp ∧ (s.join r).fu = s.fu ∧ (s.join r).de = s.de ∧
    (s.join r).ru = s.ru ∧ (s.join r).mu = s.mu ∧ (s.join r).sc = s.sc ∧ (s.join r).mgp = s.mgp ∧
    (s.join r).nvm = s.nvm ∧ (s.join r).indet = s.indet ∧ (s.join r).samples = s.samples := by
  refine ⟨?_, ?_, ?_, ?_, ?_, ?_, ?_, ?_, ?_, ?_, ?_, ?_, ?_, ?_, ?_⟩ <;>
    (unfold State.join; repeat' (first | split | dsimp only)) <;> simp

@[simp] theorem State.withdraw_frame (s : State) (p : Request → Bool) :
    (s.withdraw p).pending = s.pending ∧ (s.withdraw p).pins = s.pins ∧ (s.withdraw p).hp = s.hp ∧
    (s.withdraw p).wd = s.wd ∧ (s.withdraw p).pwb = s.pwb ∧ (s.withdraw p).rp = s.rp ∧ (s.withdraw p).fu = s.fu ∧
    (s.withdraw p).de = s.de ∧ (s.withdraw p).ru = s.ru ∧ (s.withdraw p).mu = s.mu ∧ (s.withdraw p).sc = s.sc ∧
    (s.withdraw p).mgp = s.mgp ∧ (s.withdraw p).nvm = s.nvm ∧ (s.withdraw p).indet = s.indet ∧
    (s.withdraw p).samples = s.samples := by
  simp [State.withdraw]

@[simp] theorem State.sealWhere_frame (s : State) (p : Entry → Bool) :
    (s.sealWhere p).pending = s.pending ∧ (s.sealWhere p).pins = s.pins ∧ (s.sealWhere p).hp = s.hp ∧
    (s.sealWhere p).wd = s.wd ∧ (s.sealWhere p).rp = s.rp ∧ (s.sealWhere p).fu = s.fu ∧ (s.sealWhere p).de = s.de ∧
    (s.sealWhere p).ru = s.ru ∧ (s.sealWhere p).mp = s.mp ∧ (s.sealWhere p).mu = s.mu ∧ (s.sealWhere p).sc = s.sc ∧
    (s.sealWhere p).mgp = s.mgp ∧ (s.sealWhere p).nvm = s.nvm ∧ (s.sealWhere p).indet = s.indet ∧
    (s.sealWhere p).samples = s.samples := by
  refine ⟨?_, ?_, ?_, ?_, ?_, ?_, ?_, ?_, ?_, ?_, ?_, ?_, ?_, ?_, ?_⟩ <;>
    (unfold State.sealWhere; repeat' (first | split | dsimp only)) <;> simp

@[simp] theorem State.sealAll_frame (s : State) :
    s.sealAll.pending = s.pending ∧ s.sealAll.pins = s.pins ∧ s.sealAll.hp = s.hp ∧ s.sealAll.wd = s.wd ∧
    s.sealAll.rp = s.rp ∧ s.sealAll.fu = s.fu ∧ s.sealAll.de = s.de ∧ s.sealAll.ru = s.ru ∧ s.sealAll.mp = s.mp ∧
    s.sealAll.mu = s.mu ∧ s.sealAll.sc = s.sc ∧ s.sealAll.mgp = s.mgp ∧ s.sealAll.nvm = s.nvm ∧
    s.sealAll.indet = s.indet ∧ s.sealAll.samples = s.samples := by
  simp [State.sealAll]

@[simp] theorem State.mergeWrite_frame (s : State) (w : PendingWrite) :
    (s.mergeWrite w).pending = s.pending ∧ (s.mergeWrite w).pins = s.pins ∧ (s.mergeWrite w).wd = s.wd ∧
    (s.mergeWrite w).rp = s.rp ∧ (s.mergeWrite w).fu = s.fu ∧ (s.mergeWrite w).de = s.de ∧
    (s.mergeWrite w).ru = s.ru ∧ (s.mergeWrite w).mp = s.mp ∧ (s.mergeWrite w).mu = s.mu ∧
    (s.mergeWrite w).sc = s.sc ∧ (s.mergeWrite w).nvm = s.nvm ∧ (s.mergeWrite w).indet = s.indet ∧
    (s.mergeWrite w).samples = s.samples := by
  refine ⟨?_, ?_, ?_, ?_, ?_, ?_, ?_, ?_, ?_, ?_, ?_, ?_, ?_⟩ <;>
    (unfold State.mergeWrite; repeat' (first | split | dsimp only)) <;> simp

@[simp] theorem State.allocate_frame (s : State) (w : PendingWrite) :
    (s.allocate w).pending = s.pending ∧ (s.allocate w).pins = s.pins ∧ (s.allocate w).hp = s.hp ∧
    (s.allocate w).wd = s.wd ∧ (s.allocate w).rp = s.rp ∧ (s.allocate w).fu = s.fu ∧ (s.allocate w).de = s.de ∧
    (s.allocate w).ru = s.ru ∧ (s.allocate w).mp = s.mp ∧ (s.allocate w).mu = s.mu ∧ (s.allocate w).sc = s.sc ∧
    (s.allocate w).mgp = s.mgp ∧ (s.allocate w).nvm = s.nvm ∧ (s.allocate w).indet = s.indet ∧
    (s.allocate w).samples = s.samples := by
  refine ⟨?_, ?_, ?_, ?_, ?_, ?_, ?_, ?_, ?_, ?_, ?_, ?_, ?_, ?_, ?_⟩ <;>
    (unfold State.allocate; repeat' (first | split | dsimp only)) <;> simp

@[simp] theorem State.allocateAndAccept_frame (s : State) (w : PendingWrite) :
    (s.allocateAndAccept w).pending = s.pending ∧ (s.allocateAndAccept w).pins = s.pins ∧
    (s.allocateAndAccept w).wd = s.wd ∧ (s.allocateAndAccept w).rp = s.rp ∧ (s.allocateAndAccept w).de = s.de ∧
    (s.allocateAndAccept w).ru = s.ru ∧ (s.allocateAndAccept w).mp = s.mp ∧ (s.allocateAndAccept w).mu = s.mu ∧
    (s.allocateAndAccept w).sc = s.sc ∧ (s.allocateAndAccept w).nvm = s.nvm ∧ (s.allocateAndAccept w).indet = s.indet ∧
    (s.allocateAndAccept w).samples = s.samples := by
  refine ⟨?_, ?_, ?_, ?_, ?_, ?_, ?_, ?_, ?_, ?_, ?_, ?_⟩ <;>
    (unfold State.allocateAndAccept; repeat' (first | split | dsimp only)) <;> simp

@[simp] theorem State.takeEntry_frame (s : State) (w : PendingWrite) :
    (s.takeEntry w).pending = s.pending ∧ (s.takeEntry w).pins = s.pins ∧ (s.takeEntry w).wd = s.wd ∧
    (s.takeEntry w).rp = s.rp ∧ (s.takeEntry w).de = s.de ∧ (s.takeEntry w).ru = s.ru ∧ (s.takeEntry w).mp = s.mp ∧
    (s.takeEntry w).mu = s.mu ∧ (s.takeEntry w).sc = s.sc ∧ (s.takeEntry w).nvm = s.nvm ∧
    (s.takeEntry w).indet = s.indet ∧ (s.takeEntry w).samples = s.samples := by
  refine ⟨?_, ?_, ?_, ?_, ?_, ?_, ?_, ?_, ?_, ?_, ?_, ?_⟩ <;>
    (unfold State.takeEntry; repeat' (first | split | dsimp only)) <;> simp

@[simp] theorem State.placeWrite_frame (s : State) (w : PendingWrite) :
    (s.placeWrite w).pending = s.pending ∧ (s.placeWrite w).pins = s.pins ∧ (s.placeWrite w).wd = s.wd ∧
    (s.placeWrite w).rp = s.rp ∧ (s.placeWrite w).de = s.de ∧ (s.placeWrite w).ru = s.ru ∧
    (s.placeWrite w).mp = s.mp ∧ (s.placeWrite w).mu = s.mu ∧ (s.placeWrite w).sc = s.sc ∧
    (s.placeWrite w).nvm = s.nvm ∧ (s.placeWrite w).indet = s.indet ∧ (s.placeWrite w).samples = s.samples := by
  refine ⟨?_, ?_, ?_, ?_, ?_, ?_, ?_, ?_, ?_, ?_, ?_, ?_⟩ <;>
    (unfold State.placeWrite; repeat' (first | split | dsimp only)) <;> simp

@[simp] theorem State.dropPending_frame (s : State) :
    s.dropPending.pending = s.pending ∧ s.dropPending.pins = s.pins ∧ s.dropPending.hp = s.hp ∧
    s.dropPending.wd = s.wd ∧ s.dropPending.rp = s.rp ∧ s.dropPending.fu = s.fu ∧ s.dropPending.de = s.de ∧
    s.dropPending.ru = s.ru ∧ s.dropPending.mp = s.mp ∧ s.dropPending.mu = s.mu ∧ s.dropPending.sc = s.sc ∧
    s.dropPending.mgp = s.mgp ∧ s.dropPending.nvm = s.nvm ∧ s.dropPending.indet = s.indet ∧
    s.dropPending.samples = s.samples := by
  simp [State.dropPending]

@[simp] theorem State.freeWhere_frame (s : State) (p : Entry → Bool) :
    (s.freeWhere p).pending = s.pending ∧ (s.freeWhere p).pins = s.pins ∧ (s.freeWhere p).hp = s.hp ∧
    (s.freeWhere p).wd = s.wd ∧ (s.freeWhere p).rp = s.rp ∧ (s.freeWhere p).fu = s.fu ∧ (s.freeWhere p).de = s.de ∧
    (s.freeWhere p).ru = s.ru ∧ (s.freeWhere p).mp = s.mp ∧ (s.freeWhere p).mu = s.mu ∧ (s.freeWhere p).sc = s.sc ∧
    (s.freeWhere p).mgp = s.mgp ∧ (s.freeWhere p).nvm = s.nvm ∧ (s.freeWhere p).indet = s.indet ∧
    (s.freeWhere p).samples = s.samples := by
  simp [State.freeWhere]

@[simp] theorem State.declareLost_frame (s : State) (p : Entry → Bool) :
    (s.declareLost p).pending = s.pending ∧ (s.declareLost p).pins = s.pins ∧ (s.declareLost p).hp = s.hp ∧
    (s.declareLost p).wd = s.wd ∧ (s.declareLost p).rp = s.rp ∧ (s.declareLost p).de = s.de ∧
    (s.declareLost p).ru = s.ru ∧ (s.declareLost p).mp = s.mp ∧ (s.declareLost p).mu = s.mu ∧
    (s.declareLost p).sc = s.sc ∧ (s.declareLost p).nvm = s.nvm ∧ (s.declareLost p).indet = s.indet ∧
    (s.declareLost p).samples = s.samples := by
  simp [State.declareLost]

@[simp] theorem State.markerDone_frame (s : State) (m : Marker) :
    (s.markerDone m).pending = s.pending ∧ (s.markerDone m).pins = s.pins ∧ (s.markerDone m).hp = s.hp ∧
    (s.markerDone m).wd = s.wd ∧ (s.markerDone m).pwb = s.pwb ∧ (s.markerDone m).rp = s.rp ∧
    (s.markerDone m).de = s.de ∧ (s.markerDone m).ru = s.ru ∧ (s.markerDone m).mp = s.mp ∧
    (s.markerDone m).mu = s.mu ∧ (s.markerDone m).sc = s.sc ∧ (s.markerDone m).nvm = s.nvm ∧
    (s.markerDone m).indet = s.indet ∧ (s.markerDone m).samples = s.samples := by
  simp [State.markerDone]

@[simp] theorem State.fenceArrival_frame (s : State) :
    s.fenceArrival.pending = s.pending ∧ s.fenceArrival.pins = s.pins ∧ s.fenceArrival.hp = s.hp ∧
    s.fenceArrival.wd = s.wd ∧ s.fenceArrival.rp = s.rp ∧ s.fenceArrival.de = s.de ∧ s.fenceArrival.ru = s.ru ∧
    s.fenceArrival.mp = s.mp ∧ s.fenceArrival.mu = s.mu ∧ s.fenceArrival.sc = s.sc ∧ s.fenceArrival.nvm = s.nvm ∧
    s.fenceArrival.indet = s.indet ∧ s.fenceArrival.samples = s.samples := by
  refine ⟨?_, ?_, ?_, ?_, ?_, ?_, ?_, ?_, ?_, ?_, ?_, ?_, ?_⟩ <;>
    (unfold State.fenceArrival; repeat' (first | split | dsimp only)) <;> simp

@[simp] theorem State.remapChanged_frame (s : State) :
    s.remapChanged.pending = s.pending ∧ s.remapChanged.pins = s.pins ∧ s.remapChanged.hp = s.hp ∧
    s.remapChanged.wd = s.wd ∧ s.remapChanged.pwb = s.pwb ∧ s.remapChanged.rp = s.rp ∧ s.remapChanged.fu = s.fu ∧
    s.remapChanged.de = s.de ∧ s.remapChanged.mp = s.mp ∧ s.remapChanged.sc = s.sc ∧ s.remapChanged.mgp = s.mgp ∧
    s.remapChanged.nvm = s.nvm ∧ s.remapChanged.indet = s.indet ∧ s.remapChanged.samples = s.samples := by
  simp [State.remapChanged]

@[simp] theorem State.dropRefill_frame (s : State) (p : Loc → Bool) :
    (s.dropRefill p).pending = s.pending ∧ (s.dropRefill p).pins = s.pins ∧ (s.dropRefill p).hp = s.hp ∧
    (s.dropRefill p).wd = s.wd ∧ (s.dropRefill p).pwb = s.pwb ∧ (s.dropRefill p).fu = s.fu ∧
    (s.dropRefill p).de = s.de ∧ (s.dropRefill p).ru = s.ru ∧ (s.dropRefill p).mu = s.mu ∧
    (s.dropRefill p).sc = s.sc ∧ (s.dropRefill p).mgp = s.mgp ∧ (s.dropRefill p).nvm = s.nvm ∧
    (s.dropRefill p).indet = s.indet ∧ (s.dropRefill p).samples = s.samples := by
  refine ⟨?_, ?_, ?_, ?_, ?_, ?_, ?_, ?_, ?_, ?_, ?_, ?_, ?_, ?_⟩ <;>
    (unfold State.dropRefill; repeat' (first | split | dsimp only)) <;> simp

@[simp] theorem State.invalidate_frame (s : State) (d : Dev) (page : Nat) :
    (s.invalidate d page).pending = s.pending ∧ (s.invalidate d page).pins = s.pins ∧
    (s.invalidate d page).hp = s.hp ∧ (s.invalidate d page).wd = s.wd ∧ (s.invalidate d page).pwb = s.pwb ∧
    (s.invalidate d page).fu = s.fu ∧ (s.invalidate d page).de = s.de ∧ (s.invalidate d page).ru = s.ru ∧
    (s.invalidate d page).mu = s.mu ∧ (s.invalidate d page).sc = s.sc ∧ (s.invalidate d page).mgp = s.mgp ∧
    (s.invalidate d page).nvm = s.nvm ∧ (s.invalidate d page).indet = s.indet ∧
    (s.invalidate d page).samples = s.samples := by
  simp [State.invalidate]

@[simp] theorem State.answerReads_frame (s : State) (d : Dev) (p q : ReadPhase) :
    (s.answerReads d p q).pending = s.pending ∧ (s.answerReads d p q).pins = s.pins ∧
    (s.answerReads d p q).hp = s.hp ∧ (s.answerReads d p q).wd = s.wd ∧ (s.answerReads d p q).pwb = s.pwb ∧
    (s.answerReads d p q).fu = s.fu ∧ (s.answerReads d p q).de = s.de ∧ (s.answerReads d p q).ru = s.ru ∧
    (s.answerReads d p q).mp = s.mp ∧ (s.answerReads d p q).mu = s.mu ∧ (s.answerReads d p q).sc = s.sc ∧
    (s.answerReads d p q).mgp = s.mgp ∧ (s.answerReads d p q).nvm = s.nvm ∧ (s.answerReads d p q).indet = s.indet ∧
    (s.answerReads d p q).samples = s.samples := by
  refine ⟨?_, ?_, ?_, ?_, ?_, ?_, ?_, ?_, ?_, ?_, ?_, ?_, ?_, ?_, ?_⟩ <;>
    (unfold State.answerReads; repeat' (first | split | dsimp only)) <;> simp

@[simp] theorem State.forgetAsked_frame (s : State) (d : Dev) :
    (s.forgetAsked d).pending = s.pending ∧ (s.forgetAsked d).pins = s.pins ∧ (s.forgetAsked d).hp = s.hp ∧
    (s.forgetAsked d).wd = s.wd ∧ (s.forgetAsked d).pwb = s.pwb ∧ (s.forgetAsked d).fu = s.fu ∧
    (s.forgetAsked d).de = s.de ∧ (s.forgetAsked d).ru = s.ru ∧ (s.forgetAsked d).mp = s.mp ∧
    (s.forgetAsked d).mu = s.mu ∧ (s.forgetAsked d).sc = s.sc ∧ (s.forgetAsked d).mgp = s.mgp ∧
    (s.forgetAsked d).nvm = s.nvm ∧ (s.forgetAsked d).indet = s.indet ∧ (s.forgetAsked d).samples = s.samples := by
  refine ⟨?_, ?_, ?_, ?_, ?_, ?_, ?_, ?_, ?_, ?_, ?_, ?_, ?_, ?_, ?_⟩ <;>
    (unfold State.forgetAsked; repeat' (first | split | dsimp only)) <;> simp

@[simp] theorem State.requesterGone_frame (s : State) (d : Dev) :
    (s.requesterGone d).pending = s.pending ∧ (s.requesterGone d).pins = s.pins ∧ (s.requesterGone d).hp = s.hp ∧
    (s.requesterGone d).wd = s.wd ∧ (s.requesterGone d).pwb = s.pwb ∧ (s.requesterGone d).rp = s.rp ∧
    (s.requesterGone d).fu = s.fu ∧ (s.requesterGone d).ru = s.ru ∧ (s.requesterGone d).mu = s.mu ∧
    (s.requesterGone d).sc = s.sc ∧ (s.requesterGone d).mgp = s.mgp ∧ (s.requesterGone d).nvm = s.nvm ∧
    (s.requesterGone d).indet = s.indet ∧ (s.requesterGone d).samples = s.samples := by
  refine ⟨?_, ?_, ?_, ?_, ?_, ?_, ?_, ?_, ?_, ?_, ?_, ?_, ?_, ?_⟩ <;>
    (unfold State.requesterGone; repeat' (first | split | dsimp only)) <;> simp

@[simp] theorem State.acceptSuspend_frame (s : State) (d : Dev) (c : Ctx) :
    (s.acceptSuspend d c).pending = s.pending ∧ (s.acceptSuspend d c).pins = s.pins ∧
    (s.acceptSuspend d c).hp = s.hp ∧ (s.acceptSuspend d c).wd = s.wd ∧ (s.acceptSuspend d c).pwb = s.pwb ∧
    (s.acceptSuspend d c).rp = s.rp ∧ (s.acceptSuspend d c).fu = s.fu ∧ (s.acceptSuspend d c).ru = s.ru ∧
    (s.acceptSuspend d c).mu = s.mu ∧ (s.acceptSuspend d c).sc = s.sc ∧ (s.acceptSuspend d c).mgp = s.mgp ∧
    (s.acceptSuspend d c).nvm = s.nvm ∧ (s.acceptSuspend d c).indet = s.indet ∧
    (s.acceptSuspend d c).samples = s.samples := by
  simp [State.acceptSuspend]

theorem State.hostAsks_frame {s t : State} (h : s.hostAsks = some t) :
    t.pending = s.pending ∧ t.pins = s.pins ∧ t.hp = s.hp ∧ t.wd = s.wd ∧ t.pwb = s.pwb ∧ t.fu = s.fu ∧ t.ru = s.ru ∧
    t.mu = s.mu ∧ t.sc = s.sc ∧ t.mgp = s.mgp ∧ t.nvm = s.nvm ∧ t.indet = s.indet ∧ t.samples = s.samples := by
  unfold State.hostAsks at h
  (repeat' (first | split at h | dsimp only at h)) <;> simp at h <;> (subst h; simp)

theorem State.fetchAsks_frame {s t : State} (h : s.fetchAsks = some t) :
    t.pending = s.pending ∧ t.pins = s.pins ∧ t.hp = s.hp ∧ t.wd = s.wd ∧ t.pwb = s.pwb ∧ t.fu = s.fu ∧ t.ru = s.ru ∧
    t.mu = s.mu ∧ t.sc = s.sc ∧ t.mgp = s.mgp ∧ t.nvm = s.nvm ∧ t.indet = s.indet ∧ t.samples = s.samples := by
  unfold State.fetchAsks at h
  (repeat' (first | split at h | dsimp only at h)) <;> simp at h <;> (subst h; simp)

@[simp] theorem State.endSuspendOf_frame (s : State) (d : Dev) (p : ReadPhase) :
    (s.endSuspendOf d p).pending = s.pending ∧ (s.endSuspendOf d p).pins = s.pins ∧ (s.endSuspendOf d p).hp = s.hp ∧
    (s.endSuspendOf d p).wd = s.wd ∧ (s.endSuspendOf d p).pwb = s.pwb ∧ (s.endSuspendOf d p).rp = s.rp ∧
    (s.endSuspendOf d p).fu = s.fu ∧ (s.endSuspendOf d p).ru = s.ru ∧ (s.endSuspendOf d p).mu = s.mu ∧
    (s.endSuspendOf d p).sc = s.sc ∧ (s.endSuspendOf d p).mgp = s.mgp ∧ (s.endSuspendOf d p).nvm = s.nvm ∧
    (s.endSuspendOf d p).indet = s.indet ∧ (s.endSuspendOf d p).samples = s.samples := by
  refine ⟨?_, ?_, ?_, ?_, ?_, ?_, ?_, ?_, ?_, ?_, ?_, ?_, ?_, ?_⟩ <;>
    (unfold State.endSuspendOf; repeat' (first | split | dsimp only)) <;> simp

@[simp] theorem State.closeHostRead_frame (s : State) :
    s.closeHostRead.pending = s.pending ∧ s.closeHostRead.pins = s.pins ∧ s.closeHostRead.hp = s.hp ∧
    s.closeHostRead.wd = s.wd ∧ s.closeHostRead.pwb = s.pwb ∧ s.closeHostRead.fu = s.fu ∧ s.closeHostRead.ru = s.ru ∧
    s.closeHostRead.mu = s.mu ∧ s.closeHostRead.sc = s.sc ∧ s.closeHostRead.mgp = s.mgp ∧
    s.closeHostRead.nvm = s.nvm ∧ s.closeHostRead.indet = s.indet ∧ s.closeHostRead.samples = s.samples := by
  refine ⟨?_, ?_, ?_, ?_, ?_, ?_, ?_, ?_, ?_, ?_, ?_, ?_, ?_⟩ <;>
    (unfold State.closeHostRead; repeat' (first | split | dsimp only)) <;> simp

@[simp] theorem State.closeFetch_frame (s : State) :
    s.closeFetch.pending = s.pending ∧ s.closeFetch.pins = s.pins ∧ s.closeFetch.hp = s.hp ∧ s.closeFetch.wd = s.wd ∧
    s.closeFetch.pwb = s.pwb ∧ s.closeFetch.fu = s.fu ∧ s.closeFetch.ru = s.ru ∧ s.closeFetch.mu = s.mu ∧
    s.closeFetch.sc = s.sc ∧ s.closeFetch.mgp = s.mgp ∧ s.closeFetch.nvm = s.nvm ∧ s.closeFetch.indet = s.indet ∧
    s.closeFetch.samples = s.samples := by
  refine ⟨?_, ?_, ?_, ?_, ?_, ?_, ?_, ?_, ?_, ?_, ?_, ?_, ?_⟩ <;>
    (unfold State.closeFetch; repeat' (first | split | dsimp only)) <;> simp

@[simp] theorem State.abandonRead_frame (s : State) :
    s.abandonRead.pending = s.pending ∧ s.abandonRead.pins = s.pins ∧ s.abandonRead.hp = s.hp ∧
    s.abandonRead.wd = s.wd ∧ s.abandonRead.pwb = s.pwb ∧ s.abandonRead.fu = s.fu ∧ s.abandonRead.de = s.de ∧
    s.abandonRead.ru = s.ru ∧ s.abandonRead.mu = s.mu ∧ s.abandonRead.sc = s.sc ∧ s.abandonRead.mgp = s.mgp ∧
    s.abandonRead.nvm = s.nvm ∧ s.abandonRead.indet = s.indet ∧ s.abandonRead.samples = s.samples := by
  refine ⟨?_, ?_, ?_, ?_, ?_, ?_, ?_, ?_, ?_, ?_, ?_, ?_, ?_, ?_⟩ <;>
    (unfold State.abandonRead; repeat' (first | split | dsimp only)) <;> simp

@[simp] theorem State.leaveRunReads_frame (s : State) :
    s.leaveRunReads.pending = s.pending ∧ s.leaveRunReads.pins = s.pins ∧ s.leaveRunReads.hp = s.hp ∧
    s.leaveRunReads.wd = s.wd ∧ s.leaveRunReads.pwb = s.pwb ∧ s.leaveRunReads.fu = s.fu ∧ s.leaveRunReads.ru = s.ru ∧
    s.leaveRunReads.mu = s.mu ∧ s.leaveRunReads.sc = s.sc ∧ s.leaveRunReads.mgp = s.mgp ∧
    s.leaveRunReads.nvm = s.nvm ∧ s.leaveRunReads.indet = s.indet ∧ s.leaveRunReads.samples = s.samples := by
  simp [State.leaveRunReads]

@[simp] theorem State.readsOffline_frame (s : State) (d : Dev) :
    (s.readsOffline d).pending = s.pending ∧ (s.readsOffline d).pins = s.pins ∧ (s.readsOffline d).wd = s.wd ∧
    (s.readsOffline d).pwb = s.pwb ∧ (s.readsOffline d).fu = s.fu ∧ (s.readsOffline d).ru = s.ru ∧
    (s.readsOffline d).mu = s.mu ∧ (s.readsOffline d).sc = s.sc ∧ (s.readsOffline d).nvm = s.nvm ∧
    (s.readsOffline d).indet = s.indet ∧ (s.readsOffline d).samples = s.samples := by
  refine ⟨?_, ?_, ?_, ?_, ?_, ?_, ?_, ?_, ?_, ?_, ?_⟩ <;>
    (unfold State.readsOffline; repeat' (first | split | dsimp only)) <;> simp

@[simp] theorem State.considerRefill_frame (s : State) (loc : Loc) :
    (s.considerRefill loc).pending = s.pending ∧ (s.considerRefill loc).pins = s.pins ∧
    (s.considerRefill loc).hp = s.hp ∧ (s.considerRefill loc).wd = s.wd ∧ (s.considerRefill loc).pwb = s.pwb ∧
    (s.considerRefill loc).fu = s.fu ∧ (s.considerRefill loc).de = s.de ∧ (s.considerRefill loc).ru = s.ru ∧
    (s.considerRefill loc).mu = s.mu ∧ (s.considerRefill loc).sc = s.sc ∧ (s.considerRefill loc).mgp = s.mgp ∧
    (s.considerRefill loc).nvm = s.nvm ∧ (s.considerRefill loc).indet = s.indet ∧
    (s.considerRefill loc).samples = s.samples := by
  refine ⟨?_, ?_, ?_, ?_, ?_, ?_, ?_, ?_, ?_, ?_, ?_, ?_, ?_, ?_⟩ <;>
    (unfold State.considerRefill; repeat' (first | split | dsimp only)) <;> simp

@[simp] theorem State.requestFetch_frame (s : State) (loc : Loc) (positions : List Nat) :
    (s.requestFetch loc positions).pending = s.pending ∧ (s.requestFetch loc positions).pins = s.pins ∧
    (s.requestFetch loc positions).wd = s.wd ∧ (s.requestFetch loc positions).pwb = s.pwb ∧
    (s.requestFetch loc positions).fu = s.fu ∧ (s.requestFetch loc positions).ru = s.ru ∧
    (s.requestFetch loc positions).mu = s.mu ∧ (s.requestFetch loc positions).sc = s.sc ∧
    (s.requestFetch loc positions).mgp = s.mgp ∧ (s.requestFetch loc positions).nvm = s.nvm ∧
    (s.requestFetch loc positions).indet = s.indet ∧ (s.requestFetch loc positions).samples = s.samples := by
  simp [State.requestFetch]

@[simp] theorem State.readArrives_frame (s : State) (loc : Loc) (positions : List Nat) :
    (s.readArrives loc positions).pending = s.pending ∧ (s.readArrives loc positions).pins = s.pins ∧
    (s.readArrives loc positions).wd = s.wd ∧ (s.readArrives loc positions).pwb = s.pwb ∧
    (s.readArrives loc positions).fu = s.fu ∧ (s.readArrives loc positions).ru = s.ru ∧
    (s.readArrives loc positions).mu = s.mu ∧ (s.readArrives loc positions).sc = s.sc ∧
    (s.readArrives loc positions).nvm = s.nvm ∧ (s.readArrives loc positions).indet = s.indet ∧
    (s.readArrives loc positions).samples = s.samples := by
  refine ⟨?_, ?_, ?_, ?_, ?_, ?_, ?_, ?_, ?_, ?_, ?_⟩ <;>
    (unfold State.readArrives; repeat' (first | split | dsimp only)) <;> simp

@[simp] theorem State.deliverRead_frame (s : State) (bytes : List Byte) :
    (s.deliverRead bytes).pending = s.pending ∧ (s.deliverRead bytes).pins = s.pins ∧
    (s.deliverRead bytes).wd = s.wd ∧ (s.deliverRead bytes).pwb = s.pwb ∧ (s.deliverRead bytes).fu = s.fu ∧
    (s.deliverRead bytes).de = s.de ∧ (s.deliverRead bytes).ru = s.ru ∧ (s.deliverRead bytes).mp = s.mp ∧
    (s.deliverRead bytes).mu = s.mu ∧ (s.deliverRead bytes).sc = s.sc ∧ (s.deliverRead bytes).nvm = s.nvm ∧
    (s.deliverRead bytes).indet = s.indet ∧ (s.deliverRead bytes).samples = s.samples := by
  refine ⟨?_, ?_, ?_, ?_, ?_, ?_, ?_, ?_, ?_, ?_, ?_, ?_, ?_⟩ <;>
    (unfold State.deliverRead; repeat' (first | split | dsimp only)) <;> simp

@[simp] theorem State.remapTo_frame (s : State) (d : Dev) (home spare : Nat) :
    (s.remapTo d home spare).pending = s.pending ∧ (s.remapTo d home spare).pins = s.pins ∧
    (s.remapTo d home spare).hp = s.hp ∧ (s.remapTo d home spare).wd = s.wd ∧ (s.remapTo d home spare).pwb = s.pwb ∧
    (s.remapTo d home spare).rp = s.rp ∧ (s.remapTo d home spare).fu = s.fu ∧ (s.remapTo d home spare).de = s.de ∧
    (s.remapTo d home spare).mp = s.mp ∧ (s.remapTo d home spare).sc = s.sc ∧ (s.remapTo d home spare).mgp = s.mgp ∧
    (s.remapTo d home spare).nvm = s.nvm ∧ (s.remapTo d home spare).indet = s.indet ∧
    (s.remapTo d home spare).samples = s.samples := by
  simp [State.remapTo]

@[simp] theorem State.retireCandidate_frame (s : State) (d : Dev) (spare : Nat) :
    (s.retireCandidate d spare).pending = s.pending ∧ (s.retireCandidate d spare).pins = s.pins ∧
    (s.retireCandidate d spare).hp = s.hp ∧ (s.retireCandidate d spare).wd = s.wd ∧
    (s.retireCandidate d spare).pwb = s.pwb ∧ (s.retireCandidate d spare).rp = s.rp ∧
    (s.retireCandidate d spare).fu = s.fu ∧ (s.retireCandidate d spare).de = s.de ∧
    (s.retireCandidate d spare).mp = s.mp ∧ (s.retireCandidate d spare).sc = s.sc ∧
    (s.retireCandidate d spare).mgp = s.mgp ∧ (s.retireCandidate d spare).nvm = s.nvm ∧
    (s.retireCandidate d spare).indet = s.indet ∧ (s.retireCandidate d spare).samples = s.samples := by
  simp [State.retireCandidate]

@[simp] theorem State.markFailed_frame (s : State) (d : Dev) (home : Nat) (changed : Bool) :
    (s.markFailed d home changed).pending = s.pending ∧ (s.markFailed d home changed).pins = s.pins ∧
    (s.markFailed d home changed).hp = s.hp ∧ (s.markFailed d home changed).wd = s.wd ∧
    (s.markFailed d home changed).pwb = s.pwb ∧ (s.markFailed d home changed).rp = s.rp ∧
    (s.markFailed d home changed).fu = s.fu ∧ (s.markFailed d home changed).de = s.de ∧
    (s.markFailed d home changed).mp = s.mp ∧ (s.markFailed d home changed).sc = s.sc ∧
    (s.markFailed d home changed).mgp = s.mgp ∧ (s.markFailed d home changed).nvm = s.nvm ∧
    (s.markFailed d home changed).indet = s.indet ∧ (s.markFailed d home changed).samples = s.samples := by
  refine ⟨?_, ?_, ?_, ?_, ?_, ?_, ?_, ?_, ?_, ?_, ?_, ?_, ?_, ?_⟩ <;>
    (unfold State.markFailed; repeat' (first | split | dsimp only)) <;> simp

theorem State.takeSpare_frame {s t : State} {d : Dev} {p : Nat} (h : s.takeSpare d = some (p, t)) :
    t.pending = s.pending ∧ t.pins = s.pins ∧ t.hp = s.hp ∧ t.wd = s.wd ∧ t.pwb = s.pwb ∧ t.rp = s.rp ∧ t.fu = s.fu ∧
    t.de = s.de ∧ t.mp = s.mp ∧ t.mu = s.mu ∧ t.sc = s.sc ∧ t.nvm = s.nvm ∧ t.indet = s.indet ∧ t.samples = s.samples := by
  unfold State.takeSpare at h
  (repeat' (first | split at h | dsimp only at h)) <;> simp at h <;> (obtain ⟨-, h⟩ := h; subst h; (try split) <;> simp)

@[simp] theorem State.gatherPage_frame (s : State) (d : Dev) (page : Nat) :
    (s.gatherPage d page).pending = s.pending ∧ (s.gatherPage d page).pins = s.pins ∧
    (s.gatherPage d page).hp = s.hp ∧ (s.gatherPage d page).wd = s.wd ∧ (s.gatherPage d page).rp = s.rp ∧
    (s.gatherPage d page).fu = s.fu ∧ (s.gatherPage d page).de = s.de ∧ (s.gatherPage d page).ru = s.ru ∧
    (s.gatherPage d page).mp = s.mp ∧ (s.gatherPage d page).mu = s.mu ∧ (s.gatherPage d page).sc = s.sc ∧
    (s.gatherPage d page).mgp = s.mgp ∧ (s.gatherPage d page).nvm = s.nvm ∧ (s.gatherPage d page).indet = s.indet ∧
    (s.gatherPage d page).samples = s.samples := by
  refine ⟨?_, ?_, ?_, ?_, ?_, ?_, ?_, ?_, ?_, ?_, ?_, ?_, ?_, ?_, ?_⟩ <;>
    (unfold State.gatherPage; repeat' (first | split | dsimp only)) <;> simp

theorem State.gather_frame {s t : State} (d : Dev) (h : s.gather d = some t) :
    t.pending = s.pending ∧ t.pins = s.pins ∧ t.hp = s.hp ∧ t.wd = s.wd ∧ t.rp = s.rp ∧ t.ru = s.ru ∧ t.mu = s.mu ∧
    t.sc = s.sc ∧ t.nvm = s.nvm ∧ t.indet = s.indet ∧ t.samples = s.samples := by
  unfold State.gather at h
  (repeat' (first | split at h | dsimp only at h)) <;> simp at h <;> (subst h; simp)

@[simp] theorem State.loseContext_frame (s : State) (d : Dev) (c : Ctx) (kind : FaultKind) :
    (s.loseContext d c kind).pending = s.pending ∧ (s.loseContext d c kind).pins = s.pins ∧
    (s.loseContext d c kind).hp = s.hp ∧ (s.loseContext d c kind).wd = s.wd ∧ (s.loseContext d c kind).rp = s.rp ∧
    (s.loseContext d c kind).ru = s.ru ∧ (s.loseContext d c kind).mp = s.mp ∧ (s.loseContext d c kind).mu = s.mu ∧
    (s.loseContext d c kind).sc = s.sc ∧ (s.loseContext d c kind).nvm = s.nvm ∧
    (s.loseContext d c kind).indet = s.indet ∧ (s.loseContext d c kind).samples = s.samples := by
  simp [State.loseContext]

@[simp] theorem State.endByPersist_frame (s : State) (d : Dev) (c : Ctx) :
    (s.endByPersist d c).pending = s.pending ∧ (s.endByPersist d c).pins = s.pins ∧ (s.endByPersist d c).hp = s.hp ∧
    (s.endByPersist d c).wd = s.wd ∧ (s.endByPersist d c).rp = s.rp ∧ (s.endByPersist d c).ru = s.ru ∧
    (s.endByPersist d c).mp = s.mp ∧ (s.endByPersist d c).mu = s.mu ∧ (s.endByPersist d c).sc = s.sc ∧
    (s.endByPersist d c).nvm = s.nvm ∧ (s.endByPersist d c).indet = s.indet ∧ (s.endByPersist d c).samples = s.samples := by
  refine ⟨?_, ?_, ?_, ?_, ?_, ?_, ?_, ?_, ?_, ?_, ?_, ?_⟩ <;>
    (unfold State.endByPersist; repeat' (first | split | dsimp only)) <;> simp

@[simp] theorem State.batchPasses_frame (s : State) (d : Dev) (c : Ctx) :
    (s.batchPasses d c).pending = s.pending ∧ (s.batchPasses d c).pins = s.pins ∧ (s.batchPasses d c).hp = s.hp ∧
    (s.batchPasses d c).wd = s.wd ∧ (s.batchPasses d c).fu = s.fu ∧ (s.batchPasses d c).ru = s.ru ∧
    (s.batchPasses d c).mu = s.mu ∧ (s.batchPasses d c).sc = s.sc ∧ (s.batchPasses d c).nvm = s.nvm ∧
    (s.batchPasses d c).indet = s.indet ∧ (s.batchPasses d c).samples = s.samples := by
  simp [State.batchPasses]

@[simp] theorem State.memoryStep_frame (s : State) (d : Dev) (c : Ctx) (cmd : Cmd) :
    (s.memoryStep d c cmd).pending = s.pending ∧ (s.memoryStep d c cmd).pins = s.pins ∧
    (s.memoryStep d c cmd).hp = s.hp ∧ (s.memoryStep d c cmd).wd = s.wd ∧ (s.memoryStep d c cmd).pwb = s.pwb ∧
    (s.memoryStep d c cmd).rp = s.rp ∧ (s.memoryStep d c cmd).fu = s.fu ∧ (s.memoryStep d c cmd).ru = s.ru ∧
    (s.memoryStep d c cmd).mu = s.mu ∧ (s.memoryStep d c cmd).sc = s.sc ∧ (s.memoryStep d c cmd).mgp = s.mgp ∧
    (s.memoryStep d c cmd).nvm = s.nvm ∧ (s.memoryStep d c cmd).indet = s.indet ∧
    (s.memoryStep d c cmd).samples = s.samples := by
  refine ⟨?_, ?_, ?_, ?_, ?_, ?_, ?_, ?_, ?_, ?_, ?_, ?_, ?_, ?_⟩ <;>
    (unfold State.memoryStep; repeat' (first | split | dsimp only)) <;> simp

@[simp] theorem State.enterAwait_frame (s : State) (d : Dev) (c : Ctx) :
    (s.enterAwait d c).pending = s.pending ∧ (s.enterAwait d c).pins = s.pins ∧ (s.enterAwait d c).hp = s.hp ∧
    (s.enterAwait d c).wd = s.wd ∧ (s.enterAwait d c).rp = s.rp ∧ (s.enterAwait d c).ru = s.ru ∧
    (s.enterAwait d c).mp = s.mp ∧ (s.enterAwait d c).mu = s.mu ∧ (s.enterAwait d c).sc = s.sc ∧
    (s.enterAwait d c).nvm = s.nvm ∧ (s.enterAwait d c).indet = s.indet ∧ (s.enterAwait d c).samples = s.samples := by
  refine ⟨?_, ?_, ?_, ?_, ?_, ?_, ?_, ?_, ?_, ?_, ?_, ?_⟩ <;>
    (unfold State.enterAwait; repeat' (first | split | dsimp only)) <;> simp

@[simp] theorem State.unremappable_frame (s : State) (d : Dev) (c : Ctx) (changed : Bool) :
    (s.unremappable d c changed).pending = s.pending ∧ (s.unremappable d c changed).pins = s.pins ∧
    (s.unremappable d c changed).hp = s.hp ∧ (s.unremappable d c changed).wd = s.wd ∧
    (s.unremappable d c changed).sc = s.sc ∧ (s.unremappable d c changed).nvm = s.nvm ∧
    (s.unremappable d c changed).indet = s.indet ∧ (s.unremappable d c changed).samples = s.samples := by
  refine ⟨?_, ?_, ?_, ?_, ?_, ?_, ?_, ?_⟩ <;> (unfold State.unremappable; repeat' (first | split | dsimp only)) <;> simp

@[simp] theorem State.retireProgram_frame (s : State) (d : Dev) (c : Ctx) (image : List Byte) :
    (s.retireProgram d c image).pending = s.pending ∧ (s.retireProgram d c image).pins = s.pins ∧
    (s.retireProgram d c image).hp = s.hp ∧ (s.retireProgram d c image).wd = s.wd ∧
    (s.retireProgram d c image).sc = s.sc ∧ (s.retireProgram d c image).nvm = s.nvm ∧
    (s.retireProgram d c image).indet = s.indet ∧ (s.retireProgram d c image).samples = s.samples := by
  unfold State.retireProgram
  split
  · simp
  · split
    · have h := State.takeSpare_frame ‹_›
      simp [h]
    · simp

@[simp] theorem State.retireRead_frame (s : State) (d : Dev) (c : Ctx) (changed : Bool) :
    (s.retireRead d c changed).pending = s.pending ∧ (s.retireRead d c changed).pins = s.pins ∧
    (s.retireRead d c changed).hp = s.hp ∧ (s.retireRead d c changed).wd = s.wd ∧
    (s.retireRead d c changed).sc = s.sc ∧ (s.retireRead d c changed).nvm = s.nvm ∧
    (s.retireRead d c changed).indet = s.indet ∧ (s.retireRead d c changed).samples = s.samples := by
  refine ⟨?_, ?_, ?_, ?_, ?_, ?_, ?_, ?_⟩ <;> (unfold State.retireRead; repeat' (first | split | dsimp only)) <;> simp

@[simp] theorem State.batchFails_frame (s : State) (d : Dev) (c : Ctx) :
    (s.batchFails d c).pending = s.pending ∧ (s.batchFails d c).pins = s.pins ∧ (s.batchFails d c).hp = s.hp ∧
    (s.batchFails d c).wd = s.wd ∧ (s.batchFails d c).sc = s.sc ∧ (s.batchFails d c).nvm = s.nvm ∧
    (s.batchFails d c).indet = s.indet ∧ (s.batchFails d c).samples = s.samples := by
  simp [State.batchFails]

@[simp] theorem State.spareFails_frame (s : State) (d : Dev) (c : Ctx) (spare : Nat) :
    (s.spareFails d c spare).pending = s.pending ∧ (s.spareFails d c spare).pins = s.pins ∧
    (s.spareFails d c spare).hp = s.hp ∧ (s.spareFails d c spare).wd = s.wd ∧ (s.spareFails d c spare).sc = s.sc ∧
    (s.spareFails d c spare).nvm = s.nvm ∧ (s.spareFails d c spare).indet = s.indet ∧
    (s.spareFails d c spare).samples = s.samples := by
  simp [State.spareFails]

@[simp] theorem State.sparePasses_frame (s : State) (d : Dev) (c : Ctx) (spare : Nat) :
    (s.sparePasses d c spare).pending = s.pending ∧ (s.sparePasses d c spare).pins = s.pins ∧
    (s.sparePasses d c spare).hp = s.hp ∧ (s.sparePasses d c spare).wd = s.wd ∧ (s.sparePasses d c spare).sc = s.sc ∧
    (s.sparePasses d c spare).nvm = s.nvm ∧ (s.sparePasses d c spare).indet = s.indet ∧
    (s.sparePasses d c spare).samples = s.samples := by
  refine ⟨?_, ?_, ?_, ?_, ?_, ?_, ?_, ?_⟩ <;> (unfold State.sparePasses; repeat' (first | split | dsimp only)) <;> simp

@[simp] theorem State.giveUpSuspend_frame (s : State) (d : Dev) (c : Ctx) :
    (s.giveUpSuspend d c).pending = s.pending ∧ (s.giveUpSuspend d c).pins = s.pins ∧
    (s.giveUpSuspend d c).hp = s.hp ∧ (s.giveUpSuspend d c).wd = s.wd ∧ (s.giveUpSuspend d c).pwb = s.pwb ∧
    (s.giveUpSuspend d c).fu = s.fu ∧ (s.giveUpSuspend d c).de = s.de ∧ (s.giveUpSuspend d c).ru = s.ru ∧
    (s.giveUpSuspend d c).mu = s.mu ∧ (s.giveUpSuspend d c).sc = s.sc ∧ (s.giveUpSuspend d c).mgp = s.mgp ∧
    (s.giveUpSuspend d c).nvm = s.nvm ∧ (s.giveUpSuspend d c).indet = s.indet ∧
    (s.giveUpSuspend d c).samples = s.samples := by
  refine ⟨?_, ?_, ?_, ?_, ?_, ?_, ?_, ?_, ?_, ?_, ?_, ?_, ?_, ?_⟩ <;>
    (unfold State.giveUpSuspend; repeat' (first | split | dsimp only)) <;> simp

@[simp] theorem State.programStarts_frame (s : State) (d : Dev) :
    (s.programStarts d).pending = s.pending ∧ (s.programStarts d).pins = s.pins ∧ (s.programStarts d).hp = s.hp ∧
    (s.programStarts d).wd = s.wd ∧ (s.programStarts d).pwb = s.pwb ∧ (s.programStarts d).rp = s.rp ∧
    (s.programStarts d).fu = s.fu ∧ (s.programStarts d).ru = s.ru ∧ (s.programStarts d).mp = s.mp ∧
    (s.programStarts d).mu = s.mu ∧ (s.programStarts d).sc = s.sc ∧ (s.programStarts d).mgp = s.mgp ∧
    (s.programStarts d).nvm = s.nvm ∧ (s.programStarts d).indet = s.indet ∧ (s.programStarts d).samples = s.samples := by
  refine ⟨?_, ?_, ?_, ?_, ?_, ?_, ?_, ?_, ?_, ?_, ?_, ?_, ?_, ?_, ?_⟩ <;>
    (unfold State.programStarts; repeat' (first | split | dsimp only)) <;> simp

@[simp] theorem State.programCompletes_frame (s : State) (d : Dev) (pass : Bool) :
    (s.programCompletes d pass).pending = s.pending ∧ (s.programCompletes d pass).pins = s.pins ∧
    (s.programCompletes d pass).hp = s.hp ∧ (s.programCompletes d pass).wd = s.wd ∧
    (s.programCompletes d pass).sc = s.sc ∧ (s.programCompletes d pass).nvm = s.nvm ∧
    (s.programCompletes d pass).indet = s.indet ∧ (s.programCompletes d pass).samples = s.samples := by
  refine ⟨?_, ?_, ?_, ?_, ?_, ?_, ?_, ?_⟩ <;>
    (unfold State.programCompletes; repeat' (first | split | dsimp only)) <;> simp

@[simp] theorem State.deviceSuspends_frame (s : State) (d : Dev) :
    (s.deviceSuspends d).pending = s.pending ∧ (s.deviceSuspends d).pins = s.pins ∧ (s.deviceSuspends d).hp = s.hp ∧
    (s.deviceSuspends d).wd = s.wd ∧ (s.deviceSuspends d).sc = s.sc ∧ (s.deviceSuspends d).nvm = s.nvm ∧
    (s.deviceSuspends d).indet = s.indet ∧ (s.deviceSuspends d).samples = s.samples := by
  refine ⟨?_, ?_, ?_, ?_, ?_, ?_, ?_, ?_⟩ <;>
    (unfold State.deviceSuspends; repeat' (first | split | dsimp only)) <;> simp

@[simp] theorem State.suspendSent_frame (s : State) (d : Dev) :
    (s.suspendSent d).pending = s.pending ∧ (s.suspendSent d).pins = s.pins ∧ (s.suspendSent d).hp = s.hp ∧
    (s.suspendSent d).wd = s.wd ∧ (s.suspendSent d).pwb = s.pwb ∧ (s.suspendSent d).rp = s.rp ∧
    (s.suspendSent d).fu = s.fu ∧ (s.suspendSent d).ru = s.ru ∧ (s.suspendSent d).mp = s.mp ∧
    (s.suspendSent d).mu = s.mu ∧ (s.suspendSent d).sc = s.sc ∧ (s.suspendSent d).mgp = s.mgp ∧
    (s.suspendSent d).nvm = s.nvm ∧ (s.suspendSent d).indet = s.indet ∧ (s.suspendSent d).samples = s.samples := by
  refine ⟨?_, ?_, ?_, ?_, ?_, ?_, ?_, ?_, ?_, ?_, ?_, ?_, ?_, ?_, ?_⟩ <;>
    (unfold State.suspendSent; repeat' (first | split | dsimp only)) <;> simp

@[simp] theorem State.engineResumed_frame (s : State) (d : Dev) :
    (s.engineResumed d).pending = s.pending ∧ (s.engineResumed d).pins = s.pins ∧ (s.engineResumed d).hp = s.hp ∧
    (s.engineResumed d).wd = s.wd ∧ (s.engineResumed d).pwb = s.pwb ∧ (s.engineResumed d).rp = s.rp ∧
    (s.engineResumed d).fu = s.fu ∧ (s.engineResumed d).ru = s.ru ∧ (s.engineResumed d).mp = s.mp ∧
    (s.engineResumed d).mu = s.mu ∧ (s.engineResumed d).sc = s.sc ∧ (s.engineResumed d).mgp = s.mgp ∧
    (s.engineResumed d).nvm = s.nvm ∧ (s.engineResumed d).indet = s.indet ∧ (s.engineResumed d).samples = s.samples := by
  refine ⟨?_, ?_, ?_, ?_, ?_, ?_, ?_, ?_, ?_, ?_, ?_, ?_, ?_, ?_, ?_⟩ <;>
    (unfold State.engineResumed; repeat' (first | split | dsimp only)) <;> simp

@[simp] theorem State.readUnderSuspendEnds_frame (s : State) (d : Dev) :
    (s.readUnderSuspendEnds d).pending = s.pending ∧ (s.readUnderSuspendEnds d).pins = s.pins ∧
    (s.readUnderSuspendEnds d).hp = s.hp ∧ (s.readUnderSuspendEnds d).wd = s.wd ∧
    (s.readUnderSuspendEnds d).pwb = s.pwb ∧ (s.readUnderSuspendEnds d).rp = s.rp ∧
    (s.readUnderSuspendEnds d).fu = s.fu ∧ (s.readUnderSuspendEnds d).ru = s.ru ∧
    (s.readUnderSuspendEnds d).mu = s.mu ∧ (s.readUnderSuspendEnds d).sc = s.sc ∧
    (s.readUnderSuspendEnds d).mgp = s.mgp ∧ (s.readUnderSuspendEnds d).nvm = s.nvm ∧
    (s.readUnderSuspendEnds d).indet = s.indet ∧ (s.readUnderSuspendEnds d).samples = s.samples := by
  refine ⟨?_, ?_, ?_, ?_, ?_, ?_, ?_, ?_, ?_, ?_, ?_, ?_, ?_, ?_⟩ <;>
    (unfold State.readUnderSuspendEnds; repeat' (first | split | dsimp only)) <;> simp

@[simp] theorem State.engineResetDone_frame (s : State) (d : Dev) :
    (s.engineResetDone d).pending = s.pending ∧ (s.engineResetDone d).pins = s.pins ∧
    (s.engineResetDone d).hp = s.hp ∧ (s.engineResetDone d).wd = s.wd ∧ (s.engineResetDone d).sc = s.sc ∧
    (s.engineResetDone d).nvm = s.nvm ∧ (s.engineResetDone d).indet = s.indet ∧
    (s.engineResetDone d).samples = s.samples := by
  refine ⟨?_, ?_, ?_, ?_, ?_, ?_, ?_, ?_⟩ <;>
    (unfold State.engineResetDone; repeat' (first | split | dsimp only)) <;> simp

@[simp] theorem State.ackExpires_frame (s : State) (d : Dev) :
    (s.ackExpires d).pending = s.pending ∧ (s.ackExpires d).pins = s.pins ∧ (s.ackExpires d).hp = s.hp ∧
    (s.ackExpires d).wd = s.wd ∧ (s.ackExpires d).pwb = s.pwb ∧ (s.ackExpires d).fu = s.fu ∧
    (s.ackExpires d).ru = s.ru ∧ (s.ackExpires d).mp = s.mp ∧ (s.ackExpires d).mu = s.mu ∧
    (s.ackExpires d).sc = s.sc ∧ (s.ackExpires d).mgp = s.mgp ∧ (s.ackExpires d).nvm = s.nvm ∧
    (s.ackExpires d).indet = s.indet ∧ (s.ackExpires d).samples = s.samples := by
  refine ⟨?_, ?_, ?_, ?_, ?_, ?_, ?_, ?_, ?_, ?_, ?_, ?_, ?_, ?_⟩ <;>
    (unfold State.ackExpires; repeat' (first | split | dsimp only)) <;> simp

@[simp] theorem State.programExpires_frame (s : State) (d : Dev) :
    (s.programExpires d).pending = s.pending ∧ (s.programExpires d).pins = s.pins ∧ (s.programExpires d).hp = s.hp ∧
    (s.programExpires d).wd = s.wd ∧ (s.programExpires d).pwb = s.pwb ∧ (s.programExpires d).fu = s.fu ∧
    (s.programExpires d).ru = s.ru ∧ (s.programExpires d).mu = s.mu ∧ (s.programExpires d).sc = s.sc ∧
    (s.programExpires d).nvm = s.nvm ∧ (s.programExpires d).indet = s.indet ∧ (s.programExpires d).samples = s.samples := by
  refine ⟨?_, ?_, ?_, ?_, ?_, ?_, ?_, ?_, ?_, ?_, ?_, ?_⟩ <;>
    (unfold State.programExpires; repeat' (first | split | dsimp only)) <;> simp

@[simp] theorem State.stopEngine_frame (s : State) (d : Dev) :
    (s.stopEngine d).pending = s.pending ∧ (s.stopEngine d).pins = s.pins ∧ (s.stopEngine d).hp = s.hp ∧
    (s.stopEngine d).wd = s.wd ∧ (s.stopEngine d).sc = s.sc ∧ (s.stopEngine d).nvm = s.nvm ∧
    (s.stopEngine d).indet = s.indet ∧ (s.stopEngine d).samples = s.samples := by
  refine ⟨?_, ?_, ?_, ?_, ?_, ?_, ?_, ?_⟩ <;> (unfold State.stopEngine; repeat' (first | split | dsimp only)) <;> simp

@[simp] theorem State.awaitAgain_frame (s : State) (d : Dev) (c : Ctx) :
    (s.awaitAgain d c).pending = s.pending ∧ (s.awaitAgain d c).pins = s.pins ∧ (s.awaitAgain d c).hp = s.hp ∧
    (s.awaitAgain d c).wd = s.wd ∧ (s.awaitAgain d c).rp = s.rp ∧ (s.awaitAgain d c).ru = s.ru ∧
    (s.awaitAgain d c).mp = s.mp ∧ (s.awaitAgain d c).mu = s.mu ∧ (s.awaitAgain d c).sc = s.sc ∧
    (s.awaitAgain d c).nvm = s.nvm ∧ (s.awaitAgain d c).indet = s.indet ∧ (s.awaitAgain d c).samples = s.samples := by
  refine ⟨?_, ?_, ?_, ?_, ?_, ?_, ?_, ?_, ?_, ?_, ?_, ?_⟩ <;>
    (unfold State.awaitAgain; repeat' (first | split | dsimp only)) <;> simp

@[simp] theorem State.resumeEngine_frame (s : State) (d : Dev) :
    (s.resumeEngine d).pending = s.pending ∧ (s.resumeEngine d).pins = s.pins ∧ (s.resumeEngine d).hp = s.hp ∧
    (s.resumeEngine d).wd = s.wd ∧ (s.resumeEngine d).sc = s.sc ∧ (s.resumeEngine d).nvm = s.nvm ∧
    (s.resumeEngine d).indet = s.indet ∧ (s.resumeEngine d).samples = s.samples := by
  refine ⟨?_, ?_, ?_, ?_, ?_, ?_, ?_, ?_⟩ <;> (unfold State.resumeEngine; repeat' (first | split | dsimp only)) <;> simp

@[simp] theorem State.nvmStart_frame (s : State) (d : Dev) (page : Nat) (bytes : List (Option Byte)) :
    (s.nvmStart d page bytes).pending = s.pending ∧ (s.nvmStart d page bytes).pins = s.pins ∧
    (s.nvmStart d page bytes).hp = s.hp ∧ (s.nvmStart d page bytes).wd = s.wd ∧
    (s.nvmStart d page bytes).pwb = s.pwb ∧ (s.nvmStart d page bytes).rp = s.rp ∧
    (s.nvmStart d page bytes).fu = s.fu ∧ (s.nvmStart d page bytes).de = s.de ∧ (s.nvmStart d page bytes).ru = s.ru ∧
    (s.nvmStart d page bytes).mp = s.mp ∧ (s.nvmStart d page bytes).mu = s.mu ∧ (s.nvmStart d page bytes).sc = s.sc ∧
    (s.nvmStart d page bytes).mgp = s.mgp ∧ (s.nvmStart d page bytes).indet = s.indet ∧
    (s.nvmStart d page bytes).samples = s.samples := by
  simp [State.nvmStart]

@[simp] theorem State.nvmPass_frame (s : State) (d : Dev) :
    (s.nvmPass d).pending = s.pending ∧ (s.nvmPass d).pins = s.pins ∧ (s.nvmPass d).hp = s.hp ∧
    (s.nvmPass d).wd = s.wd ∧ (s.nvmPass d).pwb = s.pwb ∧ (s.nvmPass d).rp = s.rp ∧ (s.nvmPass d).fu = s.fu ∧
    (s.nvmPass d).de = s.de ∧ (s.nvmPass d).ru = s.ru ∧ (s.nvmPass d).mp = s.mp ∧ (s.nvmPass d).mu = s.mu ∧
    (s.nvmPass d).sc = s.sc ∧ (s.nvmPass d).mgp = s.mgp ∧ (s.nvmPass d).indet = s.indet ∧
    (s.nvmPass d).samples = s.samples := by
  refine ⟨?_, ?_, ?_, ?_, ?_, ?_, ?_, ?_, ?_, ?_, ?_, ?_, ?_, ?_, ?_⟩ <;>
    (unfold State.nvmPass; repeat' (first | split | dsimp only)) <;> simp

@[simp] theorem State.nvmSpoil_frame (s : State) (d : Dev) :
    (s.nvmSpoil d).pending = s.pending ∧ (s.nvmSpoil d).pins = s.pins ∧ (s.nvmSpoil d).hp = s.hp ∧
    (s.nvmSpoil d).wd = s.wd ∧ (s.nvmSpoil d).pwb = s.pwb ∧ (s.nvmSpoil d).rp = s.rp ∧ (s.nvmSpoil d).fu = s.fu ∧
    (s.nvmSpoil d).de = s.de ∧ (s.nvmSpoil d).ru = s.ru ∧ (s.nvmSpoil d).mp = s.mp ∧ (s.nvmSpoil d).mu = s.mu ∧
    (s.nvmSpoil d).sc = s.sc ∧ (s.nvmSpoil d).mgp = s.mgp := by
  refine ⟨?_, ?_, ?_, ?_, ?_, ?_, ?_, ?_, ?_, ?_, ?_, ?_, ?_⟩ <;>
    (unfold State.nvmSpoil; repeat' (first | split | dsimp only)) <;> simp

@[simp] theorem State.setOp_frame (s : State) (op : Option MuOp) :
    (s.setOp op).pending = s.pending ∧ (s.setOp op).pins = s.pins ∧ (s.setOp op).hp = s.hp ∧ (s.setOp op).wd = s.wd ∧
    (s.setOp op).pwb = s.pwb ∧ (s.setOp op).rp = s.rp ∧ (s.setOp op).fu = s.fu ∧ (s.setOp op).de = s.de ∧
    (s.setOp op).ru = s.ru ∧ (s.setOp op).mp = s.mp ∧ (s.setOp op).sc = s.sc ∧ (s.setOp op).mgp = s.mgp ∧
    (s.setOp op).nvm = s.nvm ∧ (s.setOp op).indet = s.indet ∧ (s.setOp op).samples = s.samples := by
  simp [State.setOp]

@[simp] theorem State.muRequest_frame (s : State) (cmd : Cmd) :
    (s.muRequest cmd).pending = s.pending ∧ (s.muRequest cmd).pins = s.pins ∧ (s.muRequest cmd).hp = s.hp ∧
    (s.muRequest cmd).wd = s.wd ∧ (s.muRequest cmd).pwb = s.pwb ∧ (s.muRequest cmd).rp = s.rp ∧
    (s.muRequest cmd).fu = s.fu ∧ (s.muRequest cmd).de = s.de ∧ (s.muRequest cmd).ru = s.ru ∧
    (s.muRequest cmd).mu = s.mu ∧ (s.muRequest cmd).sc = s.sc ∧ (s.muRequest cmd).mgp = s.mgp ∧
    (s.muRequest cmd).nvm = s.nvm ∧ (s.muRequest cmd).indet = s.indet ∧ (s.muRequest cmd).samples = s.samples := by
  simp [State.muRequest]

@[simp] theorem State.breakOff_frame (s : State) (p : Persist) (touched : Bool) :
    (s.breakOff p touched).pending = s.pending ∧ (s.breakOff p touched).pins = s.pins ∧
    (s.breakOff p touched).hp = s.hp ∧ (s.breakOff p touched).wd = s.wd ∧ (s.breakOff p touched).pwb = s.pwb ∧
    (s.breakOff p touched).rp = s.rp ∧ (s.breakOff p touched).fu = s.fu ∧ (s.breakOff p touched).de = s.de ∧
    (s.breakOff p touched).ru = s.ru ∧ (s.breakOff p touched).mp = s.mp ∧ (s.breakOff p touched).sc = s.sc ∧
    (s.breakOff p touched).mgp = s.mgp ∧ (s.breakOff p touched).nvm = s.nvm ∧ (s.breakOff p touched).indet = s.indet ∧
    (s.breakOff p touched).samples = s.samples := by
  refine ⟨?_, ?_, ?_, ?_, ?_, ?_, ?_, ?_, ?_, ?_, ?_, ?_, ?_, ?_, ?_⟩ <;>
    (unfold State.breakOff; repeat' (first | split | dsimp only)) <;> simp

@[simp] theorem State.stopPersist_frame (s : State) :
    s.stopPersist.pending = s.pending ∧ s.stopPersist.pins = s.pins ∧ s.stopPersist.hp = s.hp ∧
    s.stopPersist.wd = s.wd ∧ s.stopPersist.pwb = s.pwb ∧ s.stopPersist.rp = s.rp ∧ s.stopPersist.fu = s.fu ∧
    s.stopPersist.de = s.de ∧ s.stopPersist.ru = s.ru ∧ s.stopPersist.sc = s.sc ∧ s.stopPersist.mgp = s.mgp ∧
    s.stopPersist.nvm = s.nvm ∧ s.stopPersist.indet = s.indet ∧ s.stopPersist.samples = s.samples := by
  refine ⟨?_, ?_, ?_, ?_, ?_, ?_, ?_, ?_, ?_, ?_, ?_, ?_, ?_, ?_⟩ <;>
    (unfold State.stopPersist; repeat' (first | split | dsimp only)) <;> simp

@[simp] theorem State.askWrite_frame (s : State) (w : ScWrite) :
    (s.askWrite w).pending = s.pending ∧ (s.askWrite w).pins = s.pins ∧ (s.askWrite w).hp = s.hp ∧
    (s.askWrite w).wd = s.wd ∧ (s.askWrite w).pwb = s.pwb ∧ (s.askWrite w).rp = s.rp ∧ (s.askWrite w).fu = s.fu ∧
    (s.askWrite w).de = s.de ∧ (s.askWrite w).ru = s.ru ∧ (s.askWrite w).mp = s.mp ∧ (s.askWrite w).sc = s.sc ∧
    (s.askWrite w).mgp = s.mgp ∧ (s.askWrite w).nvm = s.nvm ∧ (s.askWrite w).indet = s.indet ∧
    (s.askWrite w).samples = s.samples := by
  simp [State.askWrite]

@[simp] theorem State.setHeader_frame (s : State) (h : HeaderView) :
    (s.setHeader h).pending = s.pending ∧ (s.setHeader h).pins = s.pins ∧ (s.setHeader h).hp = s.hp ∧
    (s.setHeader h).wd = s.wd ∧ (s.setHeader h).pwb = s.pwb ∧ (s.setHeader h).rp = s.rp ∧ (s.setHeader h).fu = s.fu ∧
    (s.setHeader h).de = s.de ∧ (s.setHeader h).ru = s.ru ∧ (s.setHeader h).mp = s.mp ∧ (s.setHeader h).mu = s.mu ∧
    (s.setHeader h).mgp = s.mgp ∧ (s.setHeader h).nvm = s.nvm ∧ (s.setHeader h).indet = s.indet ∧
    (s.setHeader h).samples = s.samples := by
  simp [State.setHeader]

@[simp] theorem State.enterRun_frame (s : State) :
    s.enterRun.pending = s.pending ∧ s.enterRun.pins = s.pins ∧ s.enterRun.hp = s.hp ∧ s.enterRun.wd = s.wd ∧
    s.enterRun.nvm = s.nvm ∧ s.enterRun.indet = s.indet ∧ s.enterRun.samples = s.samples := by
  simp [State.enterRun]

@[simp] theorem State.halt_frame (s : State) :
    s.halt.pending = s.pending ∧ s.halt.pins = s.pins ∧ s.halt.hp = s.hp ∧ s.halt.wd = s.wd ∧ s.halt.pwb = s.pwb ∧
    s.halt.rp = s.rp ∧ s.halt.fu = s.fu ∧ s.halt.de = s.de ∧ s.halt.ru = s.ru ∧ s.halt.mp = s.mp ∧ s.halt.mu = s.mu ∧
    s.halt.mgp = s.mgp ∧ s.halt.nvm = s.nvm ∧ s.halt.indet = s.indet ∧ s.halt.samples = s.samples := by
  simp [State.halt]

@[simp] theorem State.cleanFailed_frame (s : State) :
    s.cleanFailed.pending = s.pending ∧ s.cleanFailed.pins = s.pins ∧ s.cleanFailed.hp = s.hp ∧
    s.cleanFailed.wd = s.wd ∧ s.cleanFailed.pwb = s.pwb ∧ s.cleanFailed.rp = s.rp ∧ s.cleanFailed.fu = s.fu ∧
    s.cleanFailed.de = s.de ∧ s.cleanFailed.ru = s.ru ∧ s.cleanFailed.mp = s.mp ∧ s.cleanFailed.mu = s.mu ∧
    s.cleanFailed.nvm = s.nvm ∧ s.cleanFailed.indet = s.indet ∧ s.cleanFailed.samples = s.samples := by
  simp [State.cleanFailed]

@[simp] theorem State.refuseHeld_frame (s : State) :
    s.refuseHeld.pending = s.pending ∧ s.refuseHeld.pins = s.pins ∧ s.refuseHeld.wd = s.wd ∧ s.refuseHeld.rp = s.rp ∧
    s.refuseHeld.de = s.de ∧ s.refuseHeld.ru = s.ru ∧ s.refuseHeld.mp = s.mp ∧ s.refuseHeld.mu = s.mu ∧
    s.refuseHeld.sc = s.sc ∧ s.refuseHeld.nvm = s.nvm ∧ s.refuseHeld.indet = s.indet ∧
    s.refuseHeld.samples = s.samples := by
  refine ⟨?_, ?_, ?_, ?_, ?_, ?_, ?_, ?_, ?_, ?_, ?_, ?_⟩ <;>
    (unfold State.refuseHeld; repeat' (first | split | dsimp only)) <;> simp

@[simp] theorem State.leaveRun_frame (s : State) :
    s.leaveRun.pending = s.pending ∧ s.leaveRun.pins = s.pins ∧ s.leaveRun.wd = s.wd ∧ s.leaveRun.ru = s.ru ∧
    s.leaveRun.mu = s.mu ∧ s.leaveRun.sc = s.sc ∧ s.leaveRun.nvm = s.nvm ∧ s.leaveRun.indet = s.indet ∧
    s.leaveRun.samples = s.samples := by
  simp [State.leaveRun]

@[simp] theorem State.enterHoldup_frame (s : State) :
    s.enterHoldup.pending = s.pending ∧ s.enterHoldup.pins = s.pins ∧ s.enterHoldup.wd = s.wd ∧
    s.enterHoldup.nvm = s.nvm ∧ s.enterHoldup.indet = s.indet ∧ s.enterHoldup.samples = s.samples := by
  simp [State.enterHoldup]

@[simp] theorem State.stopBootReads_frame (s : State) :
    s.stopBootReads.pending = s.pending ∧ s.stopBootReads.pins = s.pins ∧ s.stopBootReads.hp = s.hp ∧
    s.stopBootReads.wd = s.wd ∧ s.stopBootReads.pwb = s.pwb ∧ s.stopBootReads.rp = s.rp ∧ s.stopBootReads.fu = s.fu ∧
    s.stopBootReads.de = s.de ∧ s.stopBootReads.ru = s.ru ∧ s.stopBootReads.sc = s.sc ∧ s.stopBootReads.mgp = s.mgp ∧
    s.stopBootReads.nvm = s.nvm ∧ s.stopBootReads.indet = s.indet ∧ s.stopBootReads.samples = s.samples := by
  refine ⟨?_, ?_, ?_, ?_, ?_, ?_, ?_, ?_, ?_, ?_, ?_, ?_, ?_, ?_⟩ <;>
    (unfold State.stopBootReads; repeat' (first | split | dsimp only)) <;> simp

@[simp] theorem State.enterStopped_frame (s : State) :
    s.enterStopped.pending = s.pending ∧ s.enterStopped.pins = s.pins ∧ s.enterStopped.hp = s.hp ∧
    s.enterStopped.wd = s.wd ∧ s.enterStopped.nvm = s.nvm ∧ s.enterStopped.indet = s.indet ∧
    s.enterStopped.samples = s.samples := by
  simp [State.enterStopped]

@[simp] theorem State.enterRestarting_frame (s : State) :
    s.enterRestarting.pending = s.pending ∧ s.enterRestarting.pins = s.pins ∧ s.enterRestarting.wd = s.wd ∧
    s.enterRestarting.ru = s.ru ∧ s.enterRestarting.mu = s.mu ∧ s.enterRestarting.nvm = s.nvm ∧
    s.enterRestarting.indet = s.indet ∧ s.enterRestarting.samples = s.samples := by
  simp [State.enterRestarting]

@[simp] theorem State.beginReturn_frame (s : State) :
    s.beginReturn.pending = s.pending ∧ s.beginReturn.pins = s.pins ∧ s.beginReturn.hp = s.hp ∧
    s.beginReturn.wd = s.wd ∧ s.beginReturn.nvm = s.nvm ∧ s.beginReturn.indet = s.indet ∧
    s.beginReturn.samples = s.samples := by
  refine ⟨?_, ?_, ?_, ?_, ?_, ?_, ?_⟩ <;> (unfold State.beginReturn; repeat' (first | split | dsimp only)) <;> simp

@[simp] theorem State.enterDumped_frame (s : State) :
    s.enterDumped.pending = s.pending ∧ s.enterDumped.pins = s.pins ∧ s.enterDumped.hp = s.hp ∧
    s.enterDumped.wd = s.wd ∧ s.enterDumped.nvm = s.nvm ∧ s.enterDumped.indet = s.indet ∧
    s.enterDumped.samples = s.samples := by
  refine ⟨?_, ?_, ?_, ?_, ?_, ?_, ?_⟩ <;> (unfold State.enterDumped; repeat' (first | split | dsimp only)) <;> simp

@[simp] theorem State.holdupEnds_frame (s : State) :
    s.holdupEnds.pending = s.pending ∧ s.holdupEnds.pins = s.pins ∧ s.holdupEnds.hp = s.hp ∧ s.holdupEnds.wd = s.wd ∧
    s.holdupEnds.nvm = s.nvm ∧ s.holdupEnds.indet = s.indet ∧ s.holdupEnds.samples = s.samples := by
  refine ⟨?_, ?_, ?_, ?_, ?_, ?_, ?_⟩ <;> (unfold State.holdupEnds; repeat' (first | split | dsimp only)) <;> simp

@[simp] theorem State.dumpNext_frame (s : State) (plan : DumpPlan) (w : ScWrite) :
    (s.dumpNext plan w).pending = s.pending ∧ (s.dumpNext plan w).pins = s.pins ∧ (s.dumpNext plan w).hp = s.hp ∧
    (s.dumpNext plan w).wd = s.wd ∧ (s.dumpNext plan w).pwb = s.pwb ∧ (s.dumpNext plan w).rp = s.rp ∧
    (s.dumpNext plan w).fu = s.fu ∧ (s.dumpNext plan w).de = s.de ∧ (s.dumpNext plan w).ru = s.ru ∧
    (s.dumpNext plan w).mp = s.mp ∧ (s.dumpNext plan w).mgp = s.mgp ∧ (s.dumpNext plan w).nvm = s.nvm ∧
    (s.dumpNext plan w).indet = s.indet ∧ (s.dumpNext plan w).samples = s.samples := by
  simp [State.dumpNext]

@[simp] theorem State.writeDone_frame (s : State) (w : ScWrite) :
    (s.writeDone w).pending = s.pending ∧ (s.writeDone w).pins = s.pins ∧ (s.writeDone w).wd = s.wd ∧
    (s.writeDone w).nvm = s.nvm ∧ (s.writeDone w).indet = s.indet ∧ (s.writeDone w).samples = s.samples := by
  refine ⟨?_, ?_, ?_, ?_, ?_, ?_⟩ <;> (unfold State.writeDone; repeat' (first | split | dsimp only)) <;> simp

@[simp] theorem State.writeFailed_frame (s : State) (w : ScWrite) :
    (s.writeFailed w).pending = s.pending ∧ (s.writeFailed w).pins = s.pins ∧ (s.writeFailed w).hp = s.hp ∧
    (s.writeFailed w).wd = s.wd ∧ (s.writeFailed w).nvm = s.nvm ∧ (s.writeFailed w).indet = s.indet ∧
    (s.writeFailed w).samples = s.samples := by
  refine ⟨?_, ?_, ?_, ?_, ?_, ?_, ?_⟩ <;> (unfold State.writeFailed; repeat' (first | split | dsimp only)) <;> simp

@[simp] theorem State.bootCleanWrite_frame (s : State) :
    s.bootCleanWrite.pending = s.pending ∧ s.bootCleanWrite.pins = s.pins ∧ s.bootCleanWrite.hp = s.hp ∧
    s.bootCleanWrite.wd = s.wd ∧ s.bootCleanWrite.pwb = s.pwb ∧ s.bootCleanWrite.rp = s.rp ∧
    s.bootCleanWrite.fu = s.fu ∧ s.bootCleanWrite.de = s.de ∧ s.bootCleanWrite.ru = s.ru ∧
    s.bootCleanWrite.mp = s.mp ∧ s.bootCleanWrite.mgp = s.mgp ∧ s.bootCleanWrite.nvm = s.nvm ∧
    s.bootCleanWrite.indet = s.indet ∧ s.bootCleanWrite.samples = s.samples := by
  simp [State.bootCleanWrite]

@[simp] theorem State.enterReplay_frame (s : State) (records : List DumpRecord) :
    (s.enterReplay records).pending = s.pending ∧ (s.enterReplay records).pins = s.pins ∧
    (s.enterReplay records).hp = s.hp ∧ (s.enterReplay records).wd = s.wd ∧ (s.enterReplay records).rp = s.rp ∧
    (s.enterReplay records).fu = s.fu ∧ (s.enterReplay records).de = s.de ∧ (s.enterReplay records).ru = s.ru ∧
    (s.enterReplay records).mp = s.mp ∧ (s.enterReplay records).mu = s.mu ∧ (s.enterReplay records).mgp = s.mgp ∧
    (s.enterReplay records).nvm = s.nvm ∧ (s.enterReplay records).indet = s.indet ∧
    (s.enterReplay records).samples = s.samples := by
  simp [State.enterReplay]

@[simp] theorem State.headerReported_frame (s : State) (r : HeaderReport) :
    (s.headerReported r).pending = s.pending ∧ (s.headerReported r).pins = s.pins ∧ (s.headerReported r).hp = s.hp ∧
    (s.headerReported r).wd = s.wd ∧ (s.headerReported r).nvm = s.nvm ∧ (s.headerReported r).indet = s.indet ∧
    (s.headerReported r).samples = s.samples := by
  refine ⟨?_, ?_, ?_, ?_, ?_, ?_, ?_⟩ <;> (unfold State.headerReported; repeat' (first | split | dsimp only)) <;> simp

@[simp] theorem State.startProbe_frame (s : State) :
    s.startProbe.pending = s.pending ∧ s.startProbe.pins = s.pins ∧ s.startProbe.hp = s.hp ∧ s.startProbe.wd = s.wd ∧
    s.startProbe.pwb = s.pwb ∧ s.startProbe.rp = s.rp ∧ s.startProbe.fu = s.fu ∧ s.startProbe.de = s.de ∧
    s.startProbe.ru = s.ru ∧ s.startProbe.mu = s.mu ∧ s.startProbe.mgp = s.mgp ∧ s.startProbe.nvm = s.nvm ∧
    s.startProbe.indet = s.indet ∧ s.startProbe.samples = s.samples := by
  simp [State.startProbe]

@[simp] theorem State.probeReported_frame (s : State) :
    s.probeReported.pending = s.pending ∧ s.probeReported.pins = s.pins ∧ s.probeReported.hp = s.hp ∧
    s.probeReported.wd = s.wd ∧ s.probeReported.pwb = s.pwb ∧ s.probeReported.rp = s.rp ∧ s.probeReported.fu = s.fu ∧
    s.probeReported.de = s.de ∧ s.probeReported.ru = s.ru ∧ s.probeReported.mgp = s.mgp ∧
    s.probeReported.nvm = s.nvm ∧ s.probeReported.indet = s.indet ∧ s.probeReported.samples = s.samples := by
  refine ⟨?_, ?_, ?_, ?_, ?_, ?_, ?_, ?_, ?_, ?_, ?_, ?_, ?_⟩ <;>
    (unfold State.probeReported; repeat' (first | split | dsimp only)) <;> simp

@[simp] theorem State.coldReset_frame (s : State) :
    s.coldReset.pending = s.pending ∧ s.coldReset.pins = s.pins ∧ s.coldReset.nvm = s.nvm ∧
    s.coldReset.indet = s.indet ∧ s.coldReset.samples = s.samples := by
  refine ⟨?_, ?_, ?_, ?_, ?_⟩ <;> (unfold State.coldReset; repeat' (first | split | dsimp only)) <;> simp

@[simp] theorem State.internalReset_frame (s : State) :
    s.internalReset.pending = s.pending ∧ s.internalReset.pins = { s.pins with madr := Config.madrLevel s.samples } ∧
    s.internalReset.nvm = s.nvm ∧ s.internalReset.indet = s.indet ∧ s.internalReset.samples = s.samples + 1 := by
  simp [State.internalReset]

theorem State.bootStarts_frame {s t : State} (h : s.bootStarts = some t) :
    t.pending = s.pending ∧ t.pins = s.pins ∧ t.hp = s.hp ∧ t.wd = s.wd ∧ t.nvm = s.nvm ∧ t.indet = s.indet ∧
    t.samples = s.samples := by
  unfold State.bootStarts at h
  (repeat' (first | split at h | dsimp only at h)) <;> simp at h <;> (subst h; simp)

@[simp] theorem State.raiseFault_frame (s : State) (k : Kind) :
    (s.raiseFault k).pending = s.pending ∧ (s.raiseFault k).pins = s.pins ∧ (s.raiseFault k).hp = s.hp ∧
    (s.raiseFault k).nvm = s.nvm ∧ (s.raiseFault k).indet = s.indet ∧ (s.raiseFault k).samples = s.samples := by
  refine ⟨?_, ?_, ?_, ?_, ?_, ?_⟩ <;> (unfold State.raiseFault; repeat' (first | split | dsimp only)) <;> simp

@[simp] theorem State.requestPart_frame (s : State) (p : Persist) :
    (s.requestPart p).pending = s.pending ∧ (s.requestPart p).pins = s.pins ∧ (s.requestPart p).hp = s.hp ∧
    (s.requestPart p).wd = s.wd ∧ (s.requestPart p).pwb = s.pwb ∧ (s.requestPart p).rp = s.rp ∧
    (s.requestPart p).fu = s.fu ∧ (s.requestPart p).de = s.de ∧ (s.requestPart p).ru = s.ru ∧
    (s.requestPart p).sc = s.sc ∧ (s.requestPart p).mgp = s.mgp ∧ (s.requestPart p).nvm = s.nvm ∧
    (s.requestPart p).indet = s.indet ∧ (s.requestPart p).samples = s.samples := by
  simp [State.requestPart]

theorem State.startPersist_frame {s t : State} (h : s.startPersist = some t) :
    t.pending = s.pending ∧ t.pins = s.pins ∧ t.hp = s.hp ∧ t.wd = s.wd ∧ t.pwb = s.pwb ∧ t.rp = s.rp ∧ t.fu = s.fu ∧
    t.de = s.de ∧ t.ru = s.ru ∧ t.sc = s.sc ∧ t.mgp = s.mgp ∧ t.nvm = s.nvm ∧ t.indet = s.indet ∧
    t.samples = s.samples := by
  unfold State.startPersist at h
  (repeat' (first | split at h | dsimp only at h)) <;> simp at h <;> (subst h; simp)

@[simp] theorem State.persistDone_frame (s : State) (p : Persist) :
    (s.persistDone p).pending = s.pending ∧ (s.persistDone p).pins = s.pins ∧ (s.persistDone p).hp = s.hp ∧
    (s.persistDone p).pwb = s.pwb ∧ (s.persistDone p).rp = s.rp ∧ (s.persistDone p).fu = s.fu ∧
    (s.persistDone p).de = s.de ∧ (s.persistDone p).mp = s.mp ∧ (s.persistDone p).sc = s.sc ∧
    (s.persistDone p).nvm = s.nvm ∧ (s.persistDone p).indet = s.indet ∧ (s.persistDone p).samples = s.samples := by
  refine ⟨?_, ?_, ?_, ?_, ?_, ?_, ?_, ?_, ?_, ?_, ?_, ?_⟩ <;>
    (unfold State.persistDone; repeat' (first | split | dsimp only)) <;> simp

@[simp] theorem State.attemptFails_frame (s : State) (p : Persist) :
    (s.attemptFails p).pending = s.pending ∧ (s.attemptFails p).pins = s.pins ∧ (s.attemptFails p).hp = s.hp ∧
    (s.attemptFails p).nvm = s.nvm ∧ (s.attemptFails p).indet = s.indet ∧ (s.attemptFails p).samples = s.samples := by
  refine ⟨?_, ?_, ?_, ?_, ?_, ?_⟩ <;> (unfold State.attemptFails; repeat' (first | split | dsimp only)) <;> simp

theorem State.takeWrite_frame {s t : State} (h : s.takeWrite = some t) :
    t.pending = s.pending ∧ t.pins = s.pins ∧ t.hp = s.hp ∧ t.wd = s.wd ∧ t.nvm = s.nvm ∧ t.indet = s.indet ∧
    t.samples = s.samples := by
  unfold State.takeWrite at h
  (repeat' (first | split at h | dsimp only at h)) <;> simp at h <;> (subst h; simp)

@[simp] theorem State.writeFails_frame (s : State) (w : ScWrite) (attempt : Nat) :
    (s.writeFails w attempt).pending = s.pending ∧ (s.writeFails w attempt).pins = s.pins ∧
    (s.writeFails w attempt).hp = s.hp ∧ (s.writeFails w attempt).wd = s.wd ∧ (s.writeFails w attempt).nvm = s.nvm ∧
    (s.writeFails w attempt).indet = s.indet ∧ (s.writeFails w attempt).samples = s.samples := by
  refine ⟨?_, ?_, ?_, ?_, ?_, ?_, ?_⟩ <;> (unfold State.writeFails; repeat' (first | split | dsimp only)) <;> simp

@[simp] theorem State.muProgramEnds_frame (s : State) (pass : Bool) :
    (s.muProgramEnds pass).pending = s.pending ∧ (s.muProgramEnds pass).pins = s.pins ∧
    (s.muProgramEnds pass).nvm = s.nvm ∧ (s.muProgramEnds pass).indet = s.indet ∧
    (s.muProgramEnds pass).samples = s.samples := by
  refine ⟨?_, ?_, ?_, ?_, ?_⟩ <;> (unfold State.muProgramEnds; repeat' (first | split | dsimp only)) <;> simp

@[simp] theorem State.muOffline_frame (s : State) :
    s.muOffline.pending = s.pending ∧ s.muOffline.pins = s.pins ∧ s.muOffline.hp = s.hp ∧ s.muOffline.nvm = s.nvm ∧
    s.muOffline.indet = s.indet ∧ s.muOffline.samples = s.samples := by
  refine ⟨?_, ?_, ?_, ?_, ?_, ?_⟩ <;> (unfold State.muOffline; repeat' (first | split | dsimp only)) <;> simp

@[simp] theorem State.loadConfig_frame (s : State) (a b : List Byte) :
    (s.loadConfig a b).pending = s.pending ∧ (s.loadConfig a b).pins = s.pins ∧ (s.loadConfig a b).hp = s.hp ∧
    (s.loadConfig a b).pwb = s.pwb ∧ (s.loadConfig a b).rp = s.rp ∧ (s.loadConfig a b).fu = s.fu ∧
    (s.loadConfig a b).de = s.de ∧ (s.loadConfig a b).ru = s.ru ∧ (s.loadConfig a b).mp = s.mp ∧
    (s.loadConfig a b).sc = s.sc ∧ (s.loadConfig a b).nvm = s.nvm ∧ (s.loadConfig a b).indet = s.indet ∧
    (s.loadConfig a b).samples = s.samples := by
  refine ⟨?_, ?_, ?_, ?_, ?_, ?_, ?_, ?_, ?_, ?_, ?_, ?_, ?_⟩ <;>
    (unfold State.loadConfig; repeat' (first | split | dsimp only)) <;> simp

@[simp] theorem State.loadRemap_frame (s : State) (a b : List Byte) :
    (s.loadRemap a b).pending = s.pending ∧ (s.loadRemap a b).pins = s.pins ∧ (s.loadRemap a b).hp = s.hp ∧
    (s.loadRemap a b).wd = s.wd ∧ (s.loadRemap a b).pwb = s.pwb ∧ (s.loadRemap a b).rp = s.rp ∧
    (s.loadRemap a b).fu = s.fu ∧ (s.loadRemap a b).de = s.de ∧ (s.loadRemap a b).mp = s.mp ∧
    (s.loadRemap a b).sc = s.sc ∧ (s.loadRemap a b).nvm = s.nvm ∧ (s.loadRemap a b).indet = s.indet ∧
    (s.loadRemap a b).samples = s.samples := by
  refine ⟨?_, ?_, ?_, ?_, ?_, ?_, ?_, ?_, ?_, ?_, ?_, ?_, ?_⟩ <;>
    (unfold State.loadRemap; repeat' (first | split | dsimp only)) <;> simp

@[simp] theorem State.sparesLowAtLoad_frame (s : State) (d : Dev) :
    (s.sparesLowAtLoad d).pending = s.pending ∧ (s.sparesLowAtLoad d).pins = s.pins ∧
    (s.sparesLowAtLoad d).hp = s.hp ∧ (s.sparesLowAtLoad d).wd = s.wd ∧ (s.sparesLowAtLoad d).pwb = s.pwb ∧
    (s.sparesLowAtLoad d).rp = s.rp ∧ (s.sparesLowAtLoad d).fu = s.fu ∧ (s.sparesLowAtLoad d).de = s.de ∧
    (s.sparesLowAtLoad d).ru = s.ru ∧ (s.sparesLowAtLoad d).mp = s.mp ∧ (s.sparesLowAtLoad d).mu = s.mu ∧
    (s.sparesLowAtLoad d).sc = s.sc ∧ (s.sparesLowAtLoad d).nvm = s.nvm ∧ (s.sparesLowAtLoad d).indet = s.indet ∧
    (s.sparesLowAtLoad d).samples = s.samples := by
  refine ⟨?_, ?_, ?_, ?_, ?_, ?_, ?_, ?_, ?_, ?_, ?_, ?_, ?_, ?_, ?_⟩ <;>
    (unfold State.sparesLowAtLoad; repeat' (first | split | dsimp only)) <;> simp

@[simp] theorem State.loadDone_frame (s : State) (pages : List (List Byte)) :
    (s.loadDone pages).pending = s.pending ∧ (s.loadDone pages).pins = s.pins ∧ (s.loadDone pages).hp = s.hp ∧
    (s.loadDone pages).pwb = s.pwb ∧ (s.loadDone pages).rp = s.rp ∧ (s.loadDone pages).fu = s.fu ∧
    (s.loadDone pages).de = s.de ∧ (s.loadDone pages).nvm = s.nvm ∧ (s.loadDone pages).indet = s.indet ∧
    (s.loadDone pages).samples = s.samples := by
  simp [State.loadDone]

@[simp] theorem State.readDumpPage_frame (s : State) (n : Nat) (crc : Word32) (bytes : List Byte) (k : Nat) :
    (s.readDumpPage n crc bytes k).pending = s.pending ∧ (s.readDumpPage n crc bytes k).pins = s.pins ∧
    (s.readDumpPage n crc bytes k).hp = s.hp ∧ (s.readDumpPage n crc bytes k).wd = s.wd ∧
    (s.readDumpPage n crc bytes k).pwb = s.pwb ∧ (s.readDumpPage n crc bytes k).rp = s.rp ∧
    (s.readDumpPage n crc bytes k).fu = s.fu ∧ (s.readDumpPage n crc bytes k).de = s.de ∧
    (s.readDumpPage n crc bytes k).ru = s.ru ∧ (s.readDumpPage n crc bytes k).sc = s.sc ∧
    (s.readDumpPage n crc bytes k).mgp = s.mgp ∧ (s.readDumpPage n crc bytes k).nvm = s.nvm ∧
    (s.readDumpPage n crc bytes k).indet = s.indet ∧ (s.readDumpPage n crc bytes k).samples = s.samples := by
  refine ⟨?_, ?_, ?_, ?_, ?_, ?_, ?_, ?_, ?_, ?_, ?_, ?_, ?_, ?_⟩ <;>
    (unfold State.readDumpPage; repeat' (first | split | dsimp only)) <;> simp

@[simp] theorem State.headerRead_frame (s : State) (bytes : List Byte) :
    (s.headerRead bytes).pending = s.pending ∧ (s.headerRead bytes).pins = s.pins ∧ (s.headerRead bytes).hp = s.hp ∧
    (s.headerRead bytes).wd = s.wd ∧ (s.headerRead bytes).nvm = s.nvm ∧ (s.headerRead bytes).indet = s.indet ∧
    (s.headerRead bytes).samples = s.samples := by
  refine ⟨?_, ?_, ?_, ?_, ?_, ?_, ?_⟩ <;> (unfold State.headerRead; repeat' (first | split | dsimp only)) <;> simp

@[simp] theorem State.recordsRead_frame (s : State) (n : Nat) (crc : Word32) (acc : List Byte) (k : Nat) (bytes : List Byte) :
    (s.recordsRead n crc acc k bytes).pending = s.pending ∧ (s.recordsRead n crc acc k bytes).pins = s.pins ∧
    (s.recordsRead n crc acc k bytes).hp = s.hp ∧ (s.recordsRead n crc acc k bytes).wd = s.wd ∧
    (s.recordsRead n crc acc k bytes).nvm = s.nvm ∧ (s.recordsRead n crc acc k bytes).indet = s.indet ∧
    (s.recordsRead n crc acc k bytes).samples = s.samples := by
  refine ⟨?_, ?_, ?_, ?_, ?_, ?_, ?_⟩ <;> (unfold State.recordsRead; repeat' (first | split | dsimp only)) <;> simp

@[simp] theorem State.muReadEnds_frame (s : State) (bytes : List Byte) :
    (s.muReadEnds bytes).pending = s.pending ∧ (s.muReadEnds bytes).pins = s.pins ∧ (s.muReadEnds bytes).hp = s.hp ∧
    (s.muReadEnds bytes).nvm = s.nvm ∧ (s.muReadEnds bytes).indet = s.indet ∧ (s.muReadEnds bytes).samples = s.samples := by
  refine ⟨?_, ?_, ?_, ?_, ?_, ?_⟩ <;> (unfold State.muReadEnds; repeat' (first | split | dsimp only)) <;> simp

@[simp] theorem State.startTransfer_frame (s : State) (r : Request) (cmd : Cmd) (home : Nat) (underSuspend : Bool) :
    (s.startTransfer r cmd home underSuspend).pending = s.pending ∧
    (s.startTransfer r cmd home underSuspend).pins = s.pins ∧ (s.startTransfer r cmd home underSuspend).hp = s.hp ∧
    (s.startTransfer r cmd home underSuspend).wd = s.wd ∧ (s.startTransfer r cmd home underSuspend).pwb = s.pwb ∧
    (s.startTransfer r cmd home underSuspend).rp = s.rp ∧ (s.startTransfer r cmd home underSuspend).fu = s.fu ∧
    (s.startTransfer r cmd home underSuspend).de = s.de ∧ (s.startTransfer r cmd home underSuspend).ru = s.ru ∧
    (s.startTransfer r cmd home underSuspend).mu = s.mu ∧ (s.startTransfer r cmd home underSuspend).sc = s.sc ∧
    (s.startTransfer r cmd home underSuspend).mgp = s.mgp ∧ (s.startTransfer r cmd home underSuspend).nvm = s.nvm ∧
    (s.startTransfer r cmd home underSuspend).indet = s.indet ∧
    (s.startTransfer r cmd home underSuspend).samples = s.samples := by
  simp [State.startTransfer]

@[simp] theorem State.grantTo_frame (s : State) (r : Request) :
    (s.grantTo r).pending = s.pending ∧ (s.grantTo r).pins = s.pins ∧ (s.grantTo r).wd = s.wd ∧
    (s.grantTo r).pwb = s.pwb ∧ (s.grantTo r).fu = s.fu ∧ (s.grantTo r).ru = s.ru ∧ (s.grantTo r).mu = s.mu ∧
    (s.grantTo r).sc = s.sc ∧ (s.grantTo r).nvm = s.nvm ∧ (s.grantTo r).indet = s.indet ∧
    (s.grantTo r).samples = s.samples := by
  refine ⟨?_, ?_, ?_, ?_, ?_, ?_, ?_, ?_, ?_, ?_, ?_⟩ <;>
    (unfold State.grantTo; repeat' (first | split | dsimp only)) <;> simp

theorem State.grant_frame {s t : State} (h : s.grant = some t) :
    t.pending = s.pending ∧ t.pins = s.pins ∧ t.wd = s.wd ∧ t.pwb = s.pwb ∧ t.fu = s.fu ∧ t.ru = s.ru ∧ t.mu = s.mu ∧
    t.sc = s.sc ∧ t.nvm = s.nvm ∧ t.indet = s.indet ∧ t.samples = s.samples := by
  unfold State.grant at h
  (repeat' (first | split at h | dsimp only at h)) <;> simp at h <;> (obtain ⟨r, -, h⟩ := h; subst h; simp)

@[simp] theorem State.probeNext_frame (s : State) :
    s.probeNext.pending = s.pending ∧ s.probeNext.pins = s.pins ∧ s.probeNext.hp = s.hp ∧ s.probeNext.wd = s.wd ∧
    s.probeNext.pwb = s.pwb ∧ s.probeNext.rp = s.rp ∧ s.probeNext.fu = s.fu ∧ s.probeNext.de = s.de ∧
    s.probeNext.ru = s.ru ∧ s.probeNext.mgp = s.mgp ∧ s.probeNext.nvm = s.nvm ∧ s.probeNext.indet = s.indet ∧
    s.probeNext.samples = s.samples := by
  refine ⟨?_, ?_, ?_, ?_, ?_, ?_, ?_, ?_, ?_, ?_, ?_, ?_, ?_⟩ <;>
    (unfold State.probeNext; repeat' (first | split | dsimp only)) <;> simp

@[simp] theorem State.probeResetSettled_frame (s : State) (d : Dev) (ready : Bool) :
    (s.probeResetSettled d ready).pending = s.pending ∧ (s.probeResetSettled d ready).pins = s.pins ∧
    (s.probeResetSettled d ready).hp = s.hp ∧ (s.probeResetSettled d ready).wd = s.wd ∧
    (s.probeResetSettled d ready).pwb = s.pwb ∧ (s.probeResetSettled d ready).rp = s.rp ∧
    (s.probeResetSettled d ready).fu = s.fu ∧ (s.probeResetSettled d ready).de = s.de ∧
    (s.probeResetSettled d ready).ru = s.ru ∧ (s.probeResetSettled d ready).mgp = s.mgp ∧
    (s.probeResetSettled d ready).nvm = s.nvm ∧ (s.probeResetSettled d ready).indet = s.indet ∧
    (s.probeResetSettled d ready).samples = s.samples := by
  refine ⟨?_, ?_, ?_, ?_, ?_, ?_, ?_, ?_, ?_, ?_, ?_, ?_, ?_⟩ <;>
    (unfold State.probeResetSettled; repeat' (first | split | dsimp only)) <;> simp

@[simp] theorem State.identified_frame (s : State) (d : Dev) (answer : BusAnswer) :
    (s.identified d answer).pending = s.pending ∧ (s.identified d answer).pins = s.pins ∧
    (s.identified d answer).hp = s.hp ∧ (s.identified d answer).wd = s.wd ∧ (s.identified d answer).pwb = s.pwb ∧
    (s.identified d answer).rp = s.rp ∧ (s.identified d answer).fu = s.fu ∧ (s.identified d answer).de = s.de ∧
    (s.identified d answer).ru = s.ru ∧ (s.identified d answer).mgp = s.mgp ∧ (s.identified d answer).nvm = s.nvm ∧
    (s.identified d answer).indet = s.indet ∧ (s.identified d answer).samples = s.samples := by
  refine ⟨?_, ?_, ?_, ?_, ?_, ?_, ?_, ?_, ?_, ?_, ?_, ?_, ?_⟩ <;>
    (unfold State.identified; repeat' (first | split | dsimp only)) <;> simp

@[simp] theorem State.turnBusy_frame (s : State) (d : Dev) (r : DevRecord) :
    (s.turnBusy d r).pending = s.pending ∧ (s.turnBusy d r).pins = s.pins ∧ (s.turnBusy d r).hp = s.hp ∧
    (s.turnBusy d r).wd = s.wd ∧ (s.turnBusy d r).pwb = s.pwb ∧ (s.turnBusy d r).fu = s.fu ∧
    (s.turnBusy d r).de = s.de ∧ (s.turnBusy d r).ru = s.ru ∧ (s.turnBusy d r).mu = s.mu ∧
    (s.turnBusy d r).sc = s.sc ∧ (s.turnBusy d r).mgp = s.mgp ∧ (s.turnBusy d r).nvm = s.nvm ∧
    (s.turnBusy d r).indet = s.indet ∧ (s.turnBusy d r).samples = s.samples := by
  simp [State.turnBusy]

@[simp] theorem State.programTaken_frame (s : State) (q : Requester) (d : Dev) (page : Nat) (bytes : List (Option Byte)) :
    (s.programTaken q d page bytes).pending = s.pending ∧ (s.programTaken q d page bytes).pins = s.pins ∧
    (s.programTaken q d page bytes).hp = s.hp ∧ (s.programTaken q d page bytes).wd = s.wd ∧
    (s.programTaken q d page bytes).pwb = s.pwb ∧ (s.programTaken q d page bytes).fu = s.fu ∧
    (s.programTaken q d page bytes).ru = s.ru ∧ (s.programTaken q d page bytes).mu = s.mu ∧
    (s.programTaken q d page bytes).sc = s.sc ∧ (s.programTaken q d page bytes).mgp = s.mgp ∧
    (s.programTaken q d page bytes).indet = s.indet ∧ (s.programTaken q d page bytes).samples = s.samples := by
  refine ⟨?_, ?_, ?_, ?_, ?_, ?_, ?_, ?_, ?_, ?_, ?_, ?_⟩ <;>
    (unfold State.programTaken; repeat' (first | split | dsimp only)) <;> simp

@[simp] theorem State.resetTaken_frame (s : State) (q : Requester) (d : Dev) :
    (s.resetTaken q d).pending = s.pending ∧ (s.resetTaken q d).pins = s.pins ∧ (s.resetTaken q d).hp = s.hp ∧
    (s.resetTaken q d).wd = s.wd ∧ (s.resetTaken q d).pwb = s.pwb ∧ (s.resetTaken q d).fu = s.fu ∧
    (s.resetTaken q d).de = s.de ∧ (s.resetTaken q d).ru = s.ru ∧ (s.resetTaken q d).mu = s.mu ∧
    (s.resetTaken q d).sc = s.sc ∧ (s.resetTaken q d).mgp = s.mgp := by
  refine ⟨?_, ?_, ?_, ?_, ?_, ?_, ?_, ?_, ?_, ?_, ?_⟩ <;>
    (unfold State.resetTaken; repeat' (first | split | dsimp only)) <;> simp

@[simp] theorem State.resumeTaken_frame (s : State) (d : Dev) :
    (s.resumeTaken d).pending = s.pending ∧ (s.resumeTaken d).pins = s.pins ∧ (s.resumeTaken d).hp = s.hp ∧
    (s.resumeTaken d).wd = s.wd ∧ (s.resumeTaken d).pwb = s.pwb ∧ (s.resumeTaken d).rp = s.rp ∧
    (s.resumeTaken d).fu = s.fu ∧ (s.resumeTaken d).ru = s.ru ∧ (s.resumeTaken d).mu = s.mu ∧
    (s.resumeTaken d).sc = s.sc ∧ (s.resumeTaken d).mgp = s.mgp ∧ (s.resumeTaken d).nvm = s.nvm ∧
    (s.resumeTaken d).indet = s.indet ∧ (s.resumeTaken d).samples = s.samples := by
  refine ⟨?_, ?_, ?_, ?_, ?_, ?_, ?_, ?_, ?_, ?_, ?_, ?_, ?_, ?_⟩ <;>
    (unfold State.resumeTaken; repeat' (first | split | dsimp only)) <;> simp

@[simp] theorem State.pollAgain_frame (s : State) (d : Dev) :
    (s.pollAgain d).pending = s.pending ∧ (s.pollAgain d).pins = s.pins ∧ (s.pollAgain d).hp = s.hp ∧
    (s.pollAgain d).wd = s.wd ∧ (s.pollAgain d).pwb = s.pwb ∧ (s.pollAgain d).rp = s.rp ∧ (s.pollAgain d).fu = s.fu ∧
    (s.pollAgain d).de = s.de ∧ (s.pollAgain d).ru = s.ru ∧ (s.pollAgain d).mu = s.mu ∧ (s.pollAgain d).sc = s.sc ∧
    (s.pollAgain d).mgp = s.mgp ∧ (s.pollAgain d).nvm = s.nvm ∧ (s.pollAgain d).indet = s.indet ∧
    (s.pollAgain d).samples = s.samples := by
  simp [State.pollAgain]

@[simp] theorem State.resetCompletes_frame (s : State) (d : Dev) :
    (s.resetCompletes d).pending = s.pending ∧ (s.resetCompletes d).pins = s.pins ∧
    (s.resetCompletes d).nvm = s.nvm ∧ (s.resetCompletes d).indet = s.indet ∧ (s.resetCompletes d).samples = s.samples := by
  refine ⟨?_, ?_, ?_, ?_, ?_⟩ <;> (unfold State.resetCompletes; repeat' (first | split | dsimp only)) <;> simp

@[simp] theorem State.programReady_frame (s : State) (d : Dev) (pass : Bool) :
    (s.programReady d pass).pending = s.pending ∧ (s.programReady d pass).pins = s.pins := by
  refine ⟨?_, ?_⟩ <;> (unfold State.programReady; repeat' (first | split | dsimp only)) <;> simp

@[simp] theorem State.suspendedReported_frame (s : State) (d : Dev) :
    (s.suspendedReported d).pending = s.pending ∧ (s.suspendedReported d).pins = s.pins ∧
    (s.suspendedReported d).hp = s.hp ∧ (s.suspendedReported d).wd = s.wd ∧ (s.suspendedReported d).sc = s.sc ∧
    (s.suspendedReported d).nvm = s.nvm ∧ (s.suspendedReported d).indet = s.indet ∧
    (s.suspendedReported d).samples = s.samples := by
  refine ⟨?_, ?_, ?_, ?_, ?_, ?_, ?_, ?_⟩ <;>
    (unfold State.suspendedReported; repeat' (first | split | dsimp only)) <;> simp

@[simp] theorem State.statusReturned_frame (s : State) (d : Dev) (r : StatusResult) :
    (s.statusReturned d r).pending = s.pending ∧ (s.statusReturned d r).pins = s.pins := by
  refine ⟨?_, ?_⟩ <;> (unfold State.statusReturned; repeat' (first | split | dsimp only)) <;> simp

@[simp] theorem State.readReturned_frame (s : State) (t : Transfer) (page line n : Nat) :
    (s.readReturned t page line n).pending = s.pending ∧ (s.readReturned t page line n).pins = s.pins ∧
    (s.readReturned t page line n).wd = s.wd ∧ (s.readReturned t page line n).pwb = s.pwb ∧
    (s.readReturned t page line n).fu = s.fu ∧ (s.readReturned t page line n).ru = s.ru ∧
    (s.readReturned t page line n).mu = s.mu ∧ (s.readReturned t page line n).sc = s.sc ∧
    (s.readReturned t page line n).nvm = s.nvm ∧ (s.readReturned t page line n).indet = s.indet ∧
    (s.readReturned t page line n).samples = s.samples := by
  refine ⟨?_, ?_, ?_, ?_, ?_, ?_, ?_, ?_, ?_, ?_, ?_⟩ <;>
    (unfold State.readReturned; repeat' (first | split | dsimp only)) <;> simp

@[simp] theorem State.retireReadReturned_frame (s : State) (d : Dev) (bytes : List Byte) :
    (s.retireReadReturned d bytes).pending = s.pending ∧ (s.retireReadReturned d bytes).pins = s.pins ∧
    (s.retireReadReturned d bytes).hp = s.hp ∧ (s.retireReadReturned d bytes).wd = s.wd ∧
    (s.retireReadReturned d bytes).sc = s.sc ∧ (s.retireReadReturned d bytes).nvm = s.nvm ∧
    (s.retireReadReturned d bytes).indet = s.indet ∧ (s.retireReadReturned d bytes).samples = s.samples := by
  refine ⟨?_, ?_, ?_, ?_, ?_, ?_, ?_, ?_⟩ <;>
    (unfold State.retireReadReturned; repeat' (first | split | dsimp only)) <;> simp

@[simp] theorem State.transferEnds_frame (s : State) (answer : BusAnswer) :
    (s.transferEnds answer).pending = s.pending ∧ (s.transferEnds answer).pins = s.pins := by
  refine ⟨?_, ?_⟩ <;> (unfold State.transferEnds; repeat' (first | split | dsimp only)) <;> simp

@[simp] theorem State.markOffline_frame (s : State) (d : Dev) :
    (s.markOffline d).pending = s.pending ∧ (s.markOffline d).pins = s.pins ∧ (s.markOffline d).nvm = s.nvm ∧
    (s.markOffline d).indet = s.indet ∧ (s.markOffline d).samples = s.samples := by
  refine ⟨?_, ?_, ?_, ?_, ?_⟩ <;> (unfold State.markOffline; repeat' (first | split | dsimp only)) <;> simp

@[simp] theorem State.resetExpires_frame (s : State) (d : Dev) :
    (s.resetExpires d).pending = s.pending ∧ (s.resetExpires d).pins = s.pins ∧ (s.resetExpires d).nvm = s.nvm ∧
    (s.resetExpires d).indet = s.indet ∧ (s.resetExpires d).samples = s.samples := by
  refine ⟨?_, ?_, ?_, ?_, ?_⟩ <;> (unfold State.resetExpires; repeat' (first | split | dsimp only)) <;> simp

@[simp] theorem State.pollDue_frame (s : State) (d : Dev) :
    (s.pollDue d).pending = s.pending ∧ (s.pollDue d).pins = s.pins ∧ (s.pollDue d).hp = s.hp ∧
    (s.pollDue d).wd = s.wd ∧ (s.pollDue d).pwb = s.pwb ∧ (s.pollDue d).rp = s.rp ∧ (s.pollDue d).fu = s.fu ∧
    (s.pollDue d).de = s.de ∧ (s.pollDue d).ru = s.ru ∧ (s.pollDue d).mu = s.mu ∧ (s.pollDue d).sc = s.sc ∧
    (s.pollDue d).mgp = s.mgp ∧ (s.pollDue d).nvm = s.nvm ∧ (s.pollDue d).indet = s.indet ∧
    (s.pollDue d).samples = s.samples := by
  refine ⟨?_, ?_, ?_, ?_, ?_, ?_, ?_, ?_, ?_, ?_, ?_, ?_, ?_, ?_, ?_⟩ <;>
    (unfold State.pollDue; repeat' (first | split | dsimp only)) <;> simp

@[simp] theorem State.muProgramExpires_frame (s : State) :
    s.muProgramExpires.pending = s.pending ∧ s.muProgramExpires.pins = s.pins ∧ s.muProgramExpires.hp = s.hp ∧
    s.muProgramExpires.wd = s.wd ∧ s.muProgramExpires.pwb = s.pwb ∧ s.muProgramExpires.rp = s.rp ∧
    s.muProgramExpires.fu = s.fu ∧ s.muProgramExpires.de = s.de ∧ s.muProgramExpires.ru = s.ru ∧
    s.muProgramExpires.mu = s.mu ∧ s.muProgramExpires.sc = s.sc ∧ s.muProgramExpires.nvm = s.nvm ∧
    s.muProgramExpires.indet = s.indet ∧ s.muProgramExpires.samples = s.samples := by
  refine ⟨?_, ?_, ?_, ?_, ?_, ?_, ?_, ?_, ?_, ?_, ?_, ?_, ?_, ?_⟩ <;>
    (unfold State.muProgramExpires; repeat' (first | split | dsimp only)) <;> simp

theorem State.fillPending_frame {s t : State} (h : s.fillPending = some t) :
    t.pending = s.pending ∧ t.pins = s.pins ∧ t.wd = s.wd ∧ t.rp = s.rp ∧ t.de = s.de ∧ t.ru = s.ru ∧ t.mp = s.mp ∧
    t.mu = s.mu ∧ t.sc = s.sc ∧ t.nvm = s.nvm ∧ t.indet = s.indet ∧ t.samples = s.samples := by
  unfold State.fillPending at h
  (repeat' (first | split at h | dsimp only at h)) <;> simp at h <;> (subst h; simp)

theorem State.completeHead_frame {s t : State} (h : s.completeHead = some t) :
    t.pending = s.pending ∧ t.pins = s.pins ∧ t.hp = s.hp ∧ t.wd = s.wd ∧ t.pwb = s.pwb ∧ t.rp = s.rp ∧ t.de = s.de ∧
    t.ru = s.ru ∧ t.mp = s.mp ∧ t.mu = s.mu ∧ t.sc = s.sc ∧ t.nvm = s.nvm ∧ t.indet = s.indet ∧ t.samples = s.samples := by
  unfold State.completeHead at h
  (repeat' (first | split at h | dsimp only at h)) <;> simp at h <;> (subst h; simp)

theorem State.completeWait_frame {s t : State} (h : s.completeWait = some t) :
    t.pending = s.pending ∧ t.pins = s.pins ∧ t.wd = s.wd ∧ t.pwb = s.pwb ∧ t.rp = s.rp ∧ t.de = s.de ∧ t.ru = s.ru ∧
    t.mp = s.mp ∧ t.mu = s.mu ∧ t.sc = s.sc ∧ t.nvm = s.nvm ∧ t.indet = s.indet ∧ t.samples = s.samples := by
  unfold State.completeWait at h
  (repeat' (first | split at h | dsimp only at h)) <;> simp at h <;> (subst h; simp)

theorem State.swap_frame {s t : State} (h : s.swap = some t) :
    t.pending = s.pending ∧ t.pins = s.pins ∧ t.hp = s.hp ∧ t.pwb = s.pwb ∧ t.rp = s.rp ∧ t.fu = s.fu ∧ t.de = s.de ∧
    t.ru = s.ru ∧ t.mp = s.mp ∧ t.sc = s.sc ∧ t.nvm = s.nvm ∧ t.indet = s.indet ∧ t.samples = s.samples := by
  unfold State.swap at h
  (repeat' (first | split at h | dsimp only at h)) <;> simp at h <;> (subst h; simp)

theorem State.endContext_frame {s t : State} (d : Dev) (h : s.endContext d = some t) :
    t.pending = s.pending ∧ t.pins = s.pins ∧ t.hp = s.hp ∧ t.wd = s.wd ∧ t.rp = s.rp ∧ t.ru = s.ru ∧ t.mp = s.mp ∧
    t.mu = s.mu ∧ t.sc = s.sc ∧ t.nvm = s.nvm ∧ t.indet = s.indet ∧ t.samples = s.samples := by
  unfold State.endContext at h
  (repeat' (first | split at h | dsimp only at h)) <;> simp at h <;> (subst h; simp)

theorem State.endByFault_frame {s t : State} (d : Dev) (h : s.endByFault d = some t) :
    t.pending = s.pending ∧ t.pins = s.pins ∧ t.hp = s.hp ∧ t.wd = s.wd ∧ t.rp = s.rp ∧ t.ru = s.ru ∧ t.mp = s.mp ∧
    t.mu = s.mu ∧ t.sc = s.sc ∧ t.nvm = s.nvm ∧ t.indet = s.indet ∧ t.samples = s.samples := by
  unfold State.endByFault at h
  (repeat' (first | split at h | dsimp only at h)) <;> simp at h <;> (subst h; simp)

theorem State.holdupEnd_frame {s t : State} (h : s.holdupEnd = some t) :
    t.pending = s.pending ∧ t.pins = s.pins ∧ t.hp = s.hp ∧ t.wd = s.wd ∧ t.nvm = s.nvm ∧ t.indet = s.indet ∧
    t.samples = s.samples := by
  unfold State.holdupEnd at h
  (repeat' (first | split at h | dsimp only at h)) <;> simp at h <;> (subst h; simp)

theorem State.stoppedReset_frame {s t : State} (h : s.stoppedReset = some t) :
    t.pending = s.pending ∧ t.pins = { s.pins with madr := Config.madrLevel s.samples } ∧ t.nvm = s.nvm ∧
    t.indet = s.indet ∧ t.samples = s.samples + 1 := by
  unfold State.stoppedReset at h
  (repeat' (first | split at h | dsimp only at h)) <;> simp at h <;> (subst h; simp)

theorem State.replayEnd_frame {s t : State} (h : s.replayEnd = some t) :
    t.pending = s.pending ∧ t.pins = s.pins ∧ t.hp = s.hp ∧ t.wd = s.wd ∧ t.pwb = s.pwb ∧ t.rp = s.rp ∧ t.fu = s.fu ∧
    t.de = s.de ∧ t.ru = s.ru ∧ t.mp = s.mp ∧ t.sc = s.sc ∧ t.mgp = s.mgp ∧ t.nvm = s.nvm ∧ t.indet = s.indet ∧
    t.samples = s.samples := by
  unfold State.replayEnd at h
  (repeat' (first | split at h | dsimp only at h)) <;> simp at h <;> (subst h; simp)

theorem State.restartEnd_frame {s t : State} (h : s.restartEnd = some t) :
    t.pending = s.pending ∧ t.pins = { s.pins with madr := Config.madrLevel s.samples } ∧ t.nvm = s.nvm ∧
    t.indet = s.indet ∧ t.samples = s.samples + 1 := by
  unfold State.restartEnd at h
  (repeat' (first | split at h | dsimp only at h)) <;> simp at h <;> (subst h; simp)

@[simp] theorem State.tick_frame (s : State) :
    s.tick.pending = s.pending ∧ s.tick.pins = s.pins ∧ s.tick.wd = s.wd ∧ s.tick.rp = s.rp ∧ s.tick.ru = s.ru ∧
    s.tick.mu = s.mu ∧ s.tick.sc = s.sc ∧ s.tick.mgp = s.mgp ∧ s.tick.nvm = s.nvm ∧ s.tick.indet = s.indet ∧
    s.tick.samples = s.samples := by
  simp [State.tick]

@[simp] theorem State.openAccess_frame (s : State) (addr : BitVec 23) (even odd : Bool) (dir : Dir) (hd : Half) :
    (s.openAccess addr even odd dir hd).pending = s.pending ∧ (s.openAccess addr even odd dir hd).pins = s.pins ∧
    (s.openAccess addr even odd dir hd).wd = s.wd ∧ (s.openAccess addr even odd dir hd).pwb = s.pwb ∧
    (s.openAccess addr even odd dir hd).rp = s.rp ∧ (s.openAccess addr even odd dir hd).fu = s.fu ∧
    (s.openAccess addr even odd dir hd).de = s.de ∧ (s.openAccess addr even odd dir hd).ru = s.ru ∧
    (s.openAccess addr even odd dir hd).mp = s.mp ∧ (s.openAccess addr even odd dir hd).mu = s.mu ∧
    (s.openAccess addr even odd dir hd).sc = s.sc ∧ (s.openAccess addr even odd dir hd).mgp = s.mgp ∧
    (s.openAccess addr even odd dir hd).nvm = s.nvm ∧ (s.openAccess addr even odd dir hd).indet = s.indet ∧
    (s.openAccess addr even odd dir hd).samples = s.samples := by
  simp [State.openAccess]

@[simp] theorem State.noteDecode_frame (s : State) (x : Decoded) :
    (s.noteDecode x).pending = s.pending ∧ (s.noteDecode x).pins = s.pins ∧ (s.noteDecode x).wd = s.wd ∧
    (s.noteDecode x).pwb = s.pwb ∧ (s.noteDecode x).rp = s.rp ∧ (s.noteDecode x).fu = s.fu ∧
    (s.noteDecode x).de = s.de ∧ (s.noteDecode x).ru = s.ru ∧ (s.noteDecode x).mp = s.mp ∧
    (s.noteDecode x).mu = s.mu ∧ (s.noteDecode x).sc = s.sc ∧ (s.noteDecode x).mgp = s.mgp ∧
    (s.noteDecode x).nvm = s.nvm ∧ (s.noteDecode x).indet = s.indet ∧ (s.noteDecode x).samples = s.samples := by
  simp [State.noteDecode]

@[simp] theorem State.handOn_frame (s : State) (x : Decoded) (addr : BitVec 23) (even odd : Bool) (dir : Dir) (hd : Half) :
    (s.handOn x addr even odd dir hd).pending = s.pending ∧ (s.handOn x addr even odd dir hd).pins = s.pins ∧
    (s.handOn x addr even odd dir hd).wd = s.wd ∧ (s.handOn x addr even odd dir hd).ru = s.ru ∧
    (s.handOn x addr even odd dir hd).mu = s.mu ∧ (s.handOn x addr even odd dir hd).sc = s.sc ∧
    (s.handOn x addr even odd dir hd).nvm = s.nvm ∧ (s.handOn x addr even odd dir hd).indet = s.indet ∧
    (s.handOn x addr even odd dir hd).samples = s.samples := by
  refine ⟨?_, ?_, ?_, ?_, ?_, ?_, ?_, ?_, ?_⟩ <;> (unfold State.handOn; repeat' (first | split | dsimp only)) <;> simp

@[simp] theorem State.decodeAccess_frame (s : State) (addr : BitVec 23) (even odd : Bool) (dir : Dir) (hd : Half) :
    (s.decodeAccess addr even odd dir hd).pending = s.pending ∧ (s.decodeAccess addr even odd dir hd).pins = s.pins ∧
    (s.decodeAccess addr even odd dir hd).wd = s.wd ∧ (s.decodeAccess addr even odd dir hd).ru = s.ru ∧
    (s.decodeAccess addr even odd dir hd).mu = s.mu ∧ (s.decodeAccess addr even odd dir hd).sc = s.sc ∧
    (s.decodeAccess addr even odd dir hd).nvm = s.nvm ∧ (s.decodeAccess addr even odd dir hd).indet = s.indet ∧
    (s.decodeAccess addr even odd dir hd).samples = s.samples := by
  refine ⟨?_, ?_, ?_, ?_, ?_, ?_, ?_, ?_, ?_⟩ <;>
    (unfold State.decodeAccess; repeat' (first | split | dsimp only)) <;> simp

@[simp] theorem State.accessArrives_frame (s : State) (ha : BitVec 22) (hbl hbh hrd hwr : Bool) (hd : Half) :
    (s.accessArrives ha hbl hbh hrd hwr hd).pending = s.pending ∧
    (s.accessArrives ha hbl hbh hrd hwr hd).pins = s.pins ∧ (s.accessArrives ha hbl hbh hrd hwr hd).wd = s.wd ∧
    (s.accessArrives ha hbl hbh hrd hwr hd).ru = s.ru ∧ (s.accessArrives ha hbl hbh hrd hwr hd).mu = s.mu ∧
    (s.accessArrives ha hbl hbh hrd hwr hd).sc = s.sc ∧ (s.accessArrives ha hbl hbh hrd hwr hd).nvm = s.nvm ∧
    (s.accessArrives ha hbl hbh hrd hwr hd).indet = s.indet ∧
    (s.accessArrives ha hbl hbh hrd hwr hd).samples = s.samples := by
  refine ⟨?_, ?_, ?_, ?_, ?_, ?_, ?_, ?_, ?_⟩ <;>
    (unfold State.accessArrives; repeat' (first | split | dsimp only)) <;> simp

@[simp] theorem State.abandon_frame (s : State) (a : Access) :
    (s.abandon a).pending = s.pending ∧ (s.abandon a).pins = s.pins ∧ (s.abandon a).wd = s.wd ∧
    (s.abandon a).de = s.de ∧ (s.abandon a).ru = s.ru ∧ (s.abandon a).mu = s.mu ∧ (s.abandon a).sc = s.sc ∧
    (s.abandon a).nvm = s.nvm ∧ (s.abandon a).indet = s.indet ∧ (s.abandon a).samples = s.samples := by
  refine ⟨?_, ?_, ?_, ?_, ?_, ?_, ?_, ?_, ?_, ?_⟩ <;>
    (unfold State.abandon; repeat' (first | split | dsimp only)) <;> simp

@[simp] theorem State.strobeReleased_frame (s : State) :
    s.strobeReleased.pending = s.pending ∧ s.strobeReleased.pins = s.pins ∧ s.strobeReleased.wd = s.wd ∧
    s.strobeReleased.de = s.de ∧ s.strobeReleased.ru = s.ru ∧ s.strobeReleased.mu = s.mu ∧
    s.strobeReleased.sc = s.sc ∧ s.strobeReleased.nvm = s.nvm ∧ s.strobeReleased.indet = s.indet ∧
    s.strobeReleased.samples = s.samples := by
  refine ⟨?_, ?_, ?_, ?_, ?_, ?_, ?_, ?_, ?_, ?_⟩ <;>
    (unfold State.strobeReleased; repeat' (first | split | dsimp only)) <;> simp

@[simp] theorem State.timeoutAccess_frame (s : State) (a : Access) :
    (s.timeoutAccess a).pending = s.pending ∧ (s.timeoutAccess a).pins = s.pins ∧ (s.timeoutAccess a).wd = s.wd ∧
    (s.timeoutAccess a).pwb = s.pwb ∧ (s.timeoutAccess a).rp = s.rp ∧ (s.timeoutAccess a).fu = s.fu ∧
    (s.timeoutAccess a).de = s.de ∧ (s.timeoutAccess a).ru = s.ru ∧ (s.timeoutAccess a).mp = s.mp ∧
    (s.timeoutAccess a).mu = s.mu ∧ (s.timeoutAccess a).sc = s.sc ∧ (s.timeoutAccess a).nvm = s.nvm ∧
    (s.timeoutAccess a).indet = s.indet ∧ (s.timeoutAccess a).samples = s.samples := by
  simp [State.timeoutAccess]

@[simp] theorem State.stallExpires_frame (s : State) :
    s.stallExpires.pending = s.pending ∧ s.stallExpires.pins = s.pins ∧ s.stallExpires.wd = s.wd ∧
    s.stallExpires.ru = s.ru ∧ s.stallExpires.mu = s.mu ∧ s.stallExpires.sc = s.sc ∧ s.stallExpires.nvm = s.nvm ∧
    s.stallExpires.indet = s.indet ∧ s.stallExpires.samples = s.samples := by
  refine ⟨?_, ?_, ?_, ?_, ?_, ?_, ?_, ?_, ?_⟩ <;>
    (unfold State.stallExpires; repeat' (first | split | dsimp only)) <;> simp

@[simp] theorem State.setPfail_frame (s : State) (level : Bool) :
    (s.setPfail level).pending = s.pending ∧ (s.setPfail level).pins = s.pins ∧ (s.setPfail level).hp = s.hp ∧
    (s.setPfail level).wd = s.wd ∧ (s.setPfail level).pwb = s.pwb ∧ (s.setPfail level).rp = s.rp ∧
    (s.setPfail level).fu = s.fu ∧ (s.setPfail level).de = s.de ∧ (s.setPfail level).ru = s.ru ∧
    (s.setPfail level).mp = s.mp ∧ (s.setPfail level).mu = s.mu ∧ (s.setPfail level).mgp = s.mgp ∧
    (s.setPfail level).nvm = s.nvm ∧ (s.setPfail level).indet = s.indet ∧ (s.setPfail level).samples = s.samples := by
  simp [State.setPfail]

@[simp] theorem State.pfailRises_frame (s : State) :
    s.pfailRises.pending = s.pending ∧ s.pfailRises.pins = s.pins ∧ s.pfailRises.wd = s.wd ∧
    s.pfailRises.nvm = s.nvm ∧ s.pfailRises.indet = s.indet ∧ s.pfailRises.samples = s.samples := by
  refine ⟨?_, ?_, ?_, ?_, ?_, ?_⟩ <;> (unfold State.pfailRises; repeat' (first | split | dsimp only)) <;> simp

@[simp] theorem State.pfailFalls_frame (s : State) :
    s.pfailFalls.pending = s.pending ∧ s.pfailFalls.pins = s.pins ∧ s.pfailFalls.hp = s.hp ∧ s.pfailFalls.wd = s.wd ∧
    s.pfailFalls.nvm = s.nvm ∧ s.pfailFalls.indet = s.indet ∧ s.pfailFalls.samples = s.samples := by
  refine ⟨?_, ?_, ?_, ?_, ?_, ?_, ?_⟩ <;> (unfold State.pfailFalls; repeat' (first | split | dsimp only)) <;> simp

@[simp] theorem State.pfailLine_frame (s : State) (level : Bool) :
    (s.pfailLine level).pending = s.pending ∧ (s.pfailLine level).hp = s.hp ∧ (s.pfailLine level).wd = s.wd ∧
    (s.pfailLine level).pwb = s.pwb ∧ (s.pfailLine level).rp = s.rp ∧ (s.pfailLine level).fu = s.fu ∧
    (s.pfailLine level).de = s.de ∧ (s.pfailLine level).ru = s.ru ∧ (s.pfailLine level).mp = s.mp ∧
    (s.pfailLine level).mu = s.mu ∧ (s.pfailLine level).sc = s.sc ∧ (s.pfailLine level).mgp = s.mgp ∧
    (s.pfailLine level).nvm = s.nvm ∧ (s.pfailLine level).indet = s.indet ∧ (s.pfailLine level).samples = s.samples := by
  simp [State.pfailLine]

@[simp] theorem State.resetAsserted_frame (s : State) :
    s.resetAsserted.pending = s.pending ∧ s.resetAsserted.nvm = s.nvm ∧ s.resetAsserted.indet = s.indet ∧
    s.resetAsserted.samples = s.samples := by
  simp [State.resetAsserted]

@[simp] theorem State.resetReleased_frame (s : State) (madr : Bool) :
    (s.resetReleased madr).pending = s.pending ∧ (s.resetReleased madr).nvm = s.nvm ∧
    (s.resetReleased madr).indet = s.indet ∧ (s.resetReleased madr).samples = s.samples := by
  simp [State.resetReleased]

@[simp] theorem State.supplyLost_frame (s : State) :
    s.supplyLost.pending = s.pending := by
  simp [State.supplyLost]

@[simp] theorem State.supplyUp_frame (s : State) (pfail madr : Bool) :
    (s.supplyUp pfail madr).pending = s.pending ∧ (s.supplyUp pfail madr).nvm = s.nvm ∧
    (s.supplyUp pfail madr).indet = s.indet ∧ (s.supplyUp pfail madr).samples = s.samples := by
  simp [State.supplyUp]

@[simp] theorem State.setResult_frame (s : State) (r : ReqResult) :
    (s.setResult r).pending = s.pending ∧ (s.setResult r).pins = s.pins ∧ (s.setResult r).hp = s.hp ∧
    (s.setResult r).wd = s.wd ∧ (s.setResult r).pwb = s.pwb ∧ (s.setResult r).rp = s.rp ∧ (s.setResult r).fu = s.fu ∧
    (s.setResult r).de = s.de ∧ (s.setResult r).ru = s.ru ∧ (s.setResult r).mp = s.mp ∧ (s.setResult r).mu = s.mu ∧
    (s.setResult r).sc = s.sc ∧ (s.setResult r).nvm = s.nvm ∧ (s.setResult r).indet = s.indet ∧
    (s.setResult r).samples = s.samples := by
  simp [State.setResult]

@[simp] theorem State.takeCommit_frame (s : State) :
    s.takeCommit.pending = s.pending ∧ s.takeCommit.pins = s.pins ∧ s.takeCommit.hp = s.hp ∧
    s.takeCommit.pwb = s.pwb ∧ s.takeCommit.rp = s.rp ∧ s.takeCommit.fu = s.fu ∧ s.takeCommit.de = s.de ∧
    s.takeCommit.ru = s.ru ∧ s.takeCommit.mp = s.mp ∧ s.takeCommit.sc = s.sc ∧ s.takeCommit.nvm = s.nvm ∧
    s.takeCommit.indet = s.indet ∧ s.takeCommit.samples = s.samples := by
  unfold State.takeCommit
  split
  · simp
  · dsimp only
    cases h : State.swap ((s.setWd { s.wd with image := some s.mgp.staged }).setMgp
        { s.mgp with result := .accepted, inHand := true }) with
    | none =>
      simp only [State.setWd_mgp] at h ⊢
      simp [h]
    | some t =>
      have f := State.swap_frame h
      simp only [State.setWd_mgp] at h ⊢
      simp [h, f]

@[simp] theorem State.takeFence_frame (s : State) :
    s.takeFence.pending = s.pending ∧ s.takeFence.pins = s.pins ∧ s.takeFence.hp = s.hp ∧ s.takeFence.wd = s.wd ∧
    s.takeFence.rp = s.rp ∧ s.takeFence.de = s.de ∧ s.takeFence.ru = s.ru ∧ s.takeFence.mp = s.mp ∧
    s.takeFence.mu = s.mu ∧ s.takeFence.sc = s.sc ∧ s.takeFence.nvm = s.nvm ∧ s.takeFence.indet = s.indet ∧
    s.takeFence.samples = s.samples := by
  refine ⟨?_, ?_, ?_, ?_, ?_, ?_, ?_, ?_, ?_, ?_, ?_, ?_, ?_⟩ <;>
    (unfold State.takeFence; repeat' (first | split | dsimp only)) <;> simp

@[simp] theorem State.takeRestart_frame (s : State) :
    s.takeRestart.pending = s.pending ∧ s.takeRestart.pins = s.pins ∧ s.takeRestart.wd = s.wd ∧
    s.takeRestart.ru = s.ru ∧ s.takeRestart.mu = s.mu ∧ s.takeRestart.nvm = s.nvm ∧ s.takeRestart.indet = s.indet ∧
    s.takeRestart.samples = s.samples := by
  refine ⟨?_, ?_, ?_, ?_, ?_, ?_, ?_, ?_⟩ <;> (unfold State.takeRestart; repeat' (first | split | dsimp only)) <;> simp

@[simp] theorem State.retireOnRequest_frame (s : State) (d : Dev) (page : Nat) :
    (s.retireOnRequest d page).pending = s.pending ∧ (s.retireOnRequest d page).pins = s.pins ∧
    (s.retireOnRequest d page).hp = s.hp ∧ (s.retireOnRequest d page).wd = s.wd ∧
    (s.retireOnRequest d page).sc = s.sc ∧ (s.retireOnRequest d page).nvm = s.nvm ∧
    (s.retireOnRequest d page).indet = s.indet ∧ (s.retireOnRequest d page).samples = s.samples := by
  simp [State.retireOnRequest]

@[simp] theorem State.takeRetirePage_frame (s : State) :
    s.takeRetirePage.pending = s.pending ∧ s.takeRetirePage.pins = s.pins ∧ s.takeRetirePage.hp = s.hp ∧
    s.takeRetirePage.wd = s.wd ∧ s.takeRetirePage.sc = s.sc ∧ s.takeRetirePage.nvm = s.nvm ∧
    s.takeRetirePage.indet = s.indet ∧ s.takeRetirePage.samples = s.samples := by
  refine ⟨?_, ?_, ?_, ?_, ?_, ?_, ?_, ?_⟩ <;>
    (unfold State.takeRetirePage; repeat' (first | split | dsimp only)) <;> simp

@[simp] theorem State.takePopFault_frame (s : State) :
    s.takePopFault.pending = s.pending ∧ s.takePopFault.pins = s.pins ∧ s.takePopFault.hp = s.hp ∧
    s.takePopFault.wd = s.wd ∧ s.takePopFault.pwb = s.pwb ∧ s.takePopFault.rp = s.rp ∧ s.takePopFault.fu = s.fu ∧
    s.takePopFault.de = s.de ∧ s.takePopFault.ru = s.ru ∧ s.takePopFault.mp = s.mp ∧ s.takePopFault.mu = s.mu ∧
    s.takePopFault.sc = s.sc ∧ s.takePopFault.nvm = s.nvm ∧ s.takePopFault.indet = s.indet ∧
    s.takePopFault.samples = s.samples := by
  simp [State.takePopFault]

@[simp] theorem State.takeSelectRemap_frame (s : State) :
    s.takeSelectRemap.pending = s.pending ∧ s.takeSelectRemap.pins = s.pins ∧ s.takeSelectRemap.hp = s.hp ∧
    s.takeSelectRemap.wd = s.wd ∧ s.takeSelectRemap.pwb = s.pwb ∧ s.takeSelectRemap.rp = s.rp ∧
    s.takeSelectRemap.fu = s.fu ∧ s.takeSelectRemap.de = s.de ∧ s.takeSelectRemap.ru = s.ru ∧
    s.takeSelectRemap.mp = s.mp ∧ s.takeSelectRemap.mu = s.mu ∧ s.takeSelectRemap.sc = s.sc ∧
    s.takeSelectRemap.nvm = s.nvm ∧ s.takeSelectRemap.indet = s.indet ∧ s.takeSelectRemap.samples = s.samples := by
  refine ⟨?_, ?_, ?_, ?_, ?_, ?_, ?_, ?_, ?_, ?_, ?_, ?_, ?_, ?_, ?_⟩ <;>
    (unfold State.takeSelectRemap; repeat' (first | split | dsimp only)) <;> simp

@[simp] theorem State.takeClearCounters_frame (s : State) :
    s.takeClearCounters.pending = s.pending ∧ s.takeClearCounters.pins = s.pins ∧ s.takeClearCounters.hp = s.hp ∧
    s.takeClearCounters.wd = s.wd ∧ s.takeClearCounters.pwb = s.pwb ∧ s.takeClearCounters.rp = s.rp ∧
    s.takeClearCounters.fu = s.fu ∧ s.takeClearCounters.de = s.de ∧ s.takeClearCounters.ru = s.ru ∧
    s.takeClearCounters.mp = s.mp ∧ s.takeClearCounters.mu = s.mu ∧ s.takeClearCounters.sc = s.sc ∧
    s.takeClearCounters.nvm = s.nvm ∧ s.takeClearCounters.indet = s.indet ∧ s.takeClearCounters.samples = s.samples := by
  simp [State.takeClearCounters]

@[simp] theorem State.takeClearStatus_frame (s : State) :
    s.takeClearStatus.pending = s.pending ∧ s.takeClearStatus.pins = s.pins ∧ s.takeClearStatus.hp = s.hp ∧
    s.takeClearStatus.wd = s.wd ∧ s.takeClearStatus.pwb = s.pwb ∧ s.takeClearStatus.rp = s.rp ∧
    s.takeClearStatus.fu = s.fu ∧ s.takeClearStatus.de = s.de ∧ s.takeClearStatus.ru = s.ru ∧
    s.takeClearStatus.mp = s.mp ∧ s.takeClearStatus.mu = s.mu ∧ s.takeClearStatus.sc = s.sc ∧
    s.takeClearStatus.nvm = s.nvm ∧ s.takeClearStatus.indet = s.indet ∧ s.takeClearStatus.samples = s.samples := by
  refine ⟨?_, ?_, ?_, ?_, ?_, ?_, ?_, ?_, ?_, ?_, ?_, ?_, ?_, ?_, ?_⟩ <;>
    (unfold State.takeClearStatus; repeat' (first | split | dsimp only)) <;> simp

@[simp] theorem State.takeCode_frame (s : State) (code : Byte) :
    (s.takeCode code).pending = s.pending ∧ (s.takeCode code).pins = s.pins ∧ (s.takeCode code).nvm = s.nvm ∧
    (s.takeCode code).indet = s.indet ∧ (s.takeCode code).samples = s.samples := by
  refine ⟨?_, ?_, ?_, ?_, ?_⟩ <;> (unfold State.takeCode; repeat' (first | split | dsimp only)) <;> simp

@[simp] theorem State.requestEvent_frame (s : State) (code : Byte) :
    (s.requestEvent code).pending = s.pending ∧ (s.requestEvent code).pins = s.pins ∧
    (s.requestEvent code).nvm = s.nvm ∧ (s.requestEvent code).indet = s.indet ∧
    (s.requestEvent code).samples = s.samples := by
  refine ⟨?_, ?_, ?_, ?_, ?_⟩ <;> (unfold State.requestEvent State.request; dsimp only; split) <;> simp

@[simp] theorem State.writeMap_frame (s : State) (i : Nat) (b : Byte) :
    (s.writeMap i b).pending = s.pending ∧ (s.writeMap i b).pins = s.pins ∧ (s.writeMap i b).nvm = s.nvm ∧
    (s.writeMap i b).indet = s.indet ∧ (s.writeMap i b).samples = s.samples := by
  refine ⟨?_, ?_, ?_, ?_, ?_⟩ <;> (unfold State.writeMap; repeat' (first | split | dsimp only)) <;> simp

@[simp] theorem State.advance_frame (s : State) :
    s.advance.pending = s.pending ∧ s.advance.pins = s.pins ∧ s.advance.hp = s.hp ∧ s.advance.wd = s.wd ∧
    s.advance.pwb = s.pwb ∧ s.advance.rp = s.rp ∧ s.advance.fu = s.fu ∧ s.advance.de = s.de ∧ s.advance.ru = s.ru ∧
    s.advance.mp = s.mp ∧ s.advance.mu = s.mu ∧ s.advance.sc = s.sc ∧ s.advance.nvm = s.nvm ∧
    s.advance.indet = s.indet ∧ s.advance.samples = s.samples := by
  simp [State.advance]

@[simp] theorem State.advanceAt_frame (s : State) (i : Byte) :
    (s.advanceAt i).pending = s.pending ∧ (s.advanceAt i).pins = s.pins ∧ (s.advanceAt i).hp = s.hp ∧
    (s.advanceAt i).wd = s.wd ∧ (s.advanceAt i).pwb = s.pwb ∧ (s.advanceAt i).rp = s.rp ∧ (s.advanceAt i).fu = s.fu ∧
    (s.advanceAt i).de = s.de ∧ (s.advanceAt i).ru = s.ru ∧ (s.advanceAt i).mp = s.mp ∧ (s.advanceAt i).mu = s.mu ∧
    (s.advanceAt i).sc = s.sc ∧ (s.advanceAt i).nvm = s.nvm ∧ (s.advanceAt i).indet = s.indet ∧
    (s.advanceAt i).samples = s.samples := by
  refine ⟨?_, ?_, ?_, ?_, ?_, ?_, ?_, ?_, ?_, ?_, ?_, ?_, ?_, ?_, ?_⟩ <;>
    (unfold State.advanceAt; repeat' (first | split | dsimp only)) <;> simp

@[simp] theorem State.byteWritten_frame (s : State) (b : Byte) :
    (s.byteWritten b).pending = s.pending ∧ (s.byteWritten b).pins = s.pins ∧ (s.byteWritten b).nvm = s.nvm ∧
    (s.byteWritten b).indet = s.indet ∧ (s.byteWritten b).samples = s.samples := by
  refine ⟨?_, ?_, ?_, ?_, ?_⟩ <;> (unfold State.byteWritten; repeat' (first | split | dsimp only)) <;> simp

@[simp] theorem State.byteRead_frame (s : State) (ack : Bool) :
    (s.byteRead ack).pending = s.pending ∧ (s.byteRead ack).pins = s.pins ∧ (s.byteRead ack).hp = s.hp ∧
    (s.byteRead ack).wd = s.wd ∧
    (s.byteRead ack).pwb = s.pwb ∧ (s.byteRead ack).rp = s.rp ∧ (s.byteRead ack).fu = s.fu ∧ (s.byteRead ack).de = s.de ∧
    (s.byteRead ack).ru = s.ru ∧ (s.byteRead ack).mp = s.mp ∧ (s.byteRead ack).mu = s.mu ∧ (s.byteRead ack).sc = s.sc ∧
    (s.byteRead ack).nvm = s.nvm ∧ (s.byteRead ack).indet = s.indet ∧ (s.byteRead ack).samples = s.samples := by
  refine ⟨?_, ?_, ?_, ?_, ?_, ?_, ?_, ?_, ?_, ?_, ?_, ?_, ?_, ?_, ?_⟩ <;>
    (unfold State.byteRead; repeat' (first | split | dsimp only)) <;> simp

end Sys2Proof.Machine
end

