-- ==== Sys2Proof/Laws/Settle.lean ====
section
/-! SUPPORT. Following the steps of one event: an induction, the cases of a step, and what settling leaves alone. -/

namespace Sys2Proof.Machine

/-- The first step due is one of the steps. -/
theorem firstDue_mem {steps : List (State → Option State)} {s t : State} (h : firstDue steps s = some t) :
    ∃ f ∈ steps, f s = some t := by
  unfold firstDue at h
  exact List.exists_of_findSome?_eq_some h

/-- The steps one by one. -/
theorem firstDue_cases {s t : State} (h : firstDue followSteps s = some t) :
    s.bootStarts = some t ∨ s.fillPending = some t ∨ s.completeHead = some t ∨ s.completeWait = some t ∨
    s.swap = some t ∨ (∃ d, s.endContext d = some t) ∨ (∃ d, s.endByFault d = some t) ∨ s.holdupEnd = some t ∨
    s.stoppedReset = some t ∨ s.replayEnd = some t ∨ s.restartEnd = some t ∨ (∃ d, s.gather d = some t) ∨
    s.takeWrite = some t ∨ s.startPersist = some t ∨ s.hostAsks = some t ∨ s.fetchAsks = some t ∨
    s.grant = some t := by
  obtain ⟨f, hf, h⟩ := firstDue_mem h
  simp only [followSteps, List.mem_cons, List.not_mem_nil, or_false] at hf
  rcases hf with rfl | rfl | rfl | rfl | rfl | rfl | rfl | rfl | rfl | rfl | rfl | rfl | rfl | rfl | rfl | rfl | rfl | rfl |
    rfl | rfl
  all_goals first
    | (simp [h]; done)
    | exact .inr (.inr (.inr (.inr (.inr (.inl ⟨_, h⟩)))))
    | exact .inr (.inr (.inr (.inr (.inr (.inr (.inl ⟨_, h⟩))))))
    | exact .inr (.inr (.inr (.inr (.inr (.inr (.inr (.inr (.inr (.inr (.inr (.inl ⟨_, h⟩)))))))))))

/-- What every step keeps, settling keeps. -/
theorem settleFor_keeps {P : State → Prop} (step : ∀ s t, firstDue followSteps s = some t → P s → P t) :
    ∀ (n : Nat) (s : State), P s → P (settleFor n s)
  | 0, _, h => h
  | n + 1, s, h => by
    unfold settleFor
    cases hd : firstDue followSteps s with
    | none => exact h
    | some t => exact settleFor_keeps step n t (step s t hd h)

/-- What every step keeps, settling keeps. -/
theorem State.settle_keeps {P : State → Prop} (step : ∀ s t, firstDue followSteps s = some t → P s → P t) {s : State}
    (h : P s) : P s.settle := settleFor_keeps step _ s h

/-- What an effect and every step keep, an event keeps. -/
theorem State.event_keeps {P : State → Prop} (step : ∀ s t, firstDue followSteps s = some t → P s → P t) {s : State}
    {f : State → State} (h : P s) (hf : P (f s)) : P (s.event f) := by
  unfold State.event
  split
  · exact State.settle_keeps step hf
  · exact h

/-- With nothing due settling changes nothing. -/
theorem State.settle_of_settled {s : State} (h : s.settled) : s.settle = s := by
  have h' : firstDue followSteps s = none := h
  show settleFor (127 + 1) s = s
  simp [settleFor, h']

/-- An event at a part that is running is its effect and what follows. -/
theorem State.event_of_alive {s : State} (h : s.alive = true) (f : State → State) : s.event f = (f s).settle := by
  simp [State.event, h]

/-- A part without supply or held in reset takes no event. -/
theorem State.event_of_not_alive {s : State} (h : s.alive = false) (f : State → State) : s.event f = s := by
  simp [State.event, h]

/-- A step that is due, named by a command. -/
theorem State.named_of_due {s t : State} {f : State → Option State} (ha : s.alive = true) (h : f s = some t) :
    s.named f = t.settle := by
  simp [State.named, State.event, ha, h]

/-- No step touches the queue, the memory devices, or a level of the input lines but the sampled one of MADR. -/
theorem firstDue_frame {s t : State} (h : firstDue followSteps s = some t) :
    t.pending = s.pending ∧ t.pins = { s.pins with madr := t.pins.madr } ∧ t.nvm = s.nvm ∧ t.indet = s.indet := by
  rcases firstDue_cases h with h | h | h | h | h | ⟨d, h⟩ | ⟨d, h⟩ | h | h | h | h | ⟨d, h⟩ | h | h | h | h | h
  · have f := State.bootStarts_frame h; simp [f]
  · have f := State.fillPending_frame h; simp [f]
  · have f := State.completeHead_frame h; simp [f]
  · have f := State.completeWait_frame h; simp [f]
  · have f := State.swap_frame h; simp [f]
  · have f := State.endContext_frame d h; simp [f]
  · have f := State.endByFault_frame d h; simp [f]
  · have f := State.holdupEnd_frame h; simp [f]
  · have f := State.stoppedReset_frame h; simp [f]
  · have f := State.replayEnd_frame h; simp [f]
  · have f := State.restartEnd_frame h; simp [f]
  · have f := State.gather_frame d h; simp [f]
  · have f := State.takeWrite_frame h; simp [f]
  · have f := State.startPersist_frame h; simp [f]
  · have f := State.hostAsks_frame h; simp [f]
  · have f := State.fetchAsks_frame h; simp [f]
  · have f := State.grant_frame h; simp [f]

/-- Settling leaves the queue, the memory devices, and every level of the input lines but the sampled one of MADR. -/
theorem State.settle_frame (s : State) :
    s.settle.pending = s.pending ∧ s.settle.pins = { s.pins with madr := s.settle.pins.madr } ∧ s.settle.nvm = s.nvm ∧
      s.settle.indet = s.indet := by
  refine State.settle_keeps (P := fun t => t.pending = s.pending ∧ t.pins = { s.pins with madr := t.pins.madr } ∧
    t.nvm = s.nvm ∧ t.indet = s.indet) ?_ ⟨rfl, rfl, rfl, rfl⟩
  intro a b h p
  have f := firstDue_frame h
  refine ⟨f.1.trans p.1, ?_, f.2.2.1.trans p.2.2.1, f.2.2.2.trans p.2.2.2⟩
  rw [f.2.1, p.2.1]

@[simp] theorem State.settle_pending (s : State) : s.settle.pending = s.pending := s.settle_frame.1
@[simp] theorem State.settle_nvm (s : State) : s.settle.nvm = s.nvm := s.settle_frame.2.2.1
@[simp] theorem State.settle_indet (s : State) : s.settle.indet = s.indet := s.settle_frame.2.2.2

/-- Settling a running part leaves it running, and one that is not running as it is. -/
@[simp] theorem State.settle_alive (s : State) : s.settle.alive = s.alive := by
  unfold State.alive
  rw [(State.settle_frame s).2.1]

end Sys2Proof.Machine
end

