-- ==== Sys2Proof/Laws/Settled.lean ====
section
/-! SUPPORT. Changes that make nothing due: those of the management port, of the PDONE pulses, and of a host
access that was not held and is not held. -/

namespace Sys2Proof.Machine

/-- A state with another host port and management port and other pulse counts. -/
def State.withPort (s : State) (x : HostPort) (m : ManagementPort) (owed : Nat) (high : Bool) (time : Nat) : State :=
  ((s.setHp x).setMgp m).setFu { s.fu with owed := owed, high := high, levelTime := time }

section
variable (s : State) (x : HostPort) (m : ManagementPort) (o : Nat) (b : Bool) (t : Nat) (d : Dev)

theorem State.withPort_bootStarts : (s.withPort x m o b t).bootStarts = none ↔ s.bootStarts = none := by
  have e : (s.withPort x m o b t).sc = s.sc := rfl
  unfold State.bootStarts
  rw [e]
  split <;> simp

theorem State.withPort_fillPending : (s.withPort x m o b t).fillPending = none ↔ s.fillPending = none := by
  have e : (s.withPort x m o b t).pwb = s.pwb := rfl
  unfold State.fillPending State.occupancy
  rw [e]
  split
  · simp
  · split <;> simp

theorem State.withPort_completeHead : (s.withPort x m o b t).completeHead = none ↔ s.completeHead = none := by
  have e : (s.withPort x m o b t).fu.queue = s.fu.queue := rfl
  have e' : (s.withPort x m o b t).pwb = s.pwb := rfl
  unfold State.completeHead
  rw [e, e']
  split
  · simp
  · split <;> simp

theorem State.withPort_completeWait : (s.withPort x m o b t).completeWait = none ↔ s.completeWait = none := by
  have e : (s.withPort x m o b t).fu.wait = s.fu.wait := rfl
  have e' : (s.withPort x m o b t).pwb = s.pwb := rfl
  unfold State.completeWait
  rw [e, e']
  split
  · simp
  · split <;> simp

theorem State.withPort_swap (h : (s.setHp x).heldPhase = s.heldPhase) : (s.withPort x m o b t).swap = none ↔ s.swap = none := by
  have e : (s.withPort x m o b t).wd = s.wd := rfl
  have e' : (s.withPort x m o b t).heldPhase = s.heldPhase := h
  unfold State.swap
  rw [e, e']
  split
  · simp
  · split <;> simp

theorem State.withPort_endContext : (s.withPort x m o b t).endContext d = none ↔ s.endContext d = none := by
  have e : (s.withPort x m o b t).ctx d = s.ctx d := rfl
  have e' : (s.withPort x m o b t).ru = s.ru := rfl
  unfold State.endContext
  rw [e, e']
  (repeat' (first | split | simp))

theorem State.withPort_endByFault : (s.withPort x m o b t).endByFault d = none ↔ s.endByFault d = none := by
  have e : (s.withPort x m o b t).ctx d = s.ctx d := rfl
  have e' : (s.withPort x m o b t).ru = s.ru := rfl
  have e'' : (s.withPort x m o b t).mu = s.mu := rfl
  unfold State.endByFault
  rw [e, e', e'']
  (repeat' (first | split | simp))

theorem State.withPort_holdupEnd : (s.withPort x m o b t).holdupEnd = none ↔ s.holdupEnd = none := by
  have e : (s.withPort x m o b t).sc = s.sc := rfl
  have e' : (s.withPort x m o b t).quiet = s.quiet := rfl
  unfold State.holdupEnd
  rw [e, e']
  split <;> simp

theorem State.withPort_stoppedReset : (s.withPort x m o b t).stoppedReset = none ↔ s.stoppedReset = none := by
  have e : (s.withPort x m o b t).sc = s.sc := rfl
  have e' : (s.withPort x m o b t).quiet = s.quiet := rfl
  unfold State.stoppedReset
  rw [e, e']
  split <;> simp

theorem State.withPort_replayEnd : (s.withPort x m o b t).replayEnd = none ↔ s.replayEnd = none := by
  have e : (s.withPort x m o b t).sc = s.sc := rfl
  have e' : (s.withPort x m o b t).occupancy = s.occupancy := rfl
  have e'' : (s.withPort x m o b t).mu = s.mu := rfl
  unfold State.replayEnd
  rw [e, e', e'']
  split <;> simp

theorem State.withPort_restartEnd : (s.withPort x m o b t).restartEnd = none ↔ s.restartEnd = none := by
  have e : (s.withPort x m o b t).sc = s.sc := rfl
  have e' : (s.withPort x m o b t).occupancy = s.occupancy := rfl
  have e'' : (s.withPort x m o b t).mu = s.mu := rfl
  unfold State.restartEnd
  rw [e, e', e'']
  split <;> simp

theorem State.withPort_gather : (s.withPort x m o b t).gather d = none ↔ s.gather d = none := by
  have e : (s.withPort x m o b t).gatherable d = s.gatherable d := rfl
  unfold State.gather
  rw [e]
  split
  · simp
  · dsimp only
    (repeat' (first | split | simp))

theorem State.withPort_takeWrite : (s.withPort x m o b t).takeWrite = none ↔ s.takeWrite = none := by
  have e : (s.withPort x m o b t).mu = s.mu := rfl
  unfold State.takeWrite
  rw [e]
  split <;> simp

theorem State.withPort_startPersist : (s.withPort x m o b t).startPersist = none ↔ s.startPersist = none := by
  have e : (s.withPort x m o b t).persistDue = s.persistDue := rfl
  unfold State.startPersist
  rw [e]
  split <;> simp

theorem State.withPort_hostAsks : (s.withPort x m o b t).hostAsks = none ↔ s.hostAsks = none := by
  have e : (s.withPort x m o b t).rp = s.rp := rfl
  have e' : ∀ l, (s.withPort x m o b t).suspendable l = s.suspendable l := fun _ => rfl
  unfold State.hostAsks
  rw [e]
  simp only [e']
  (repeat' (first | split | simp))

theorem State.withPort_fetchAsks : (s.withPort x m o b t).fetchAsks = none ↔ s.fetchAsks = none := by
  have e : (s.withPort x m o b t).rp = s.rp := rfl
  have e' : ∀ l, (s.withPort x m o b t).suspendable l = s.suspendable l := fun _ => rfl
  unfold State.fetchAsks
  rw [e]
  simp only [e']
  (repeat' (first | split | simp))

theorem State.withPort_grant : (s.withPort x m o b t).grant = none ↔ s.grant = none := by
  have e : (s.withPort x m o b t).mp = s.mp := rfl
  have e' : (s.withPort x m o b t).choice = s.choice := rfl
  unfold State.grant
  rw [e, e']
  split <;> simp

/-- What the two ports and the pulse counts hold makes nothing due, while the phase of a held access stays. -/
theorem State.withPort_settled (h : (s.setHp x).heldPhase = s.heldPhase) : (s.withPort x m o b t).settled ↔ s.settled := by
  simp [State.settled, firstDue, followSteps, State.withPort_bootStarts, State.withPort_fillPending,
    State.withPort_completeHead, State.withPort_completeWait, State.withPort_swap _ _ _ _ _ _ h, State.withPort_endContext,
    State.withPort_endByFault, State.withPort_holdupEnd, State.withPort_stoppedReset, State.withPort_replayEnd,
    State.withPort_restartEnd, State.withPort_gather, State.withPort_takeWrite, State.withPort_startPersist,
    State.withPort_hostAsks, State.withPort_fetchAsks, State.withPort_grant]

end

/-- A change of the management port makes nothing due. -/
theorem State.setMgp_settled (s : State) (m : ManagementPort) : (s.setMgp m).settled ↔ s.settled :=
  s.withPort_settled s.hp m s.fu.owed s.fu.high s.fu.levelTime rfl

/-- A change of the PDONE pulses makes nothing due. -/
theorem State.setPulses_settled (s : State) (owed : Nat) (high : Bool) (time : Nat) :
    (s.setFu { s.fu with owed := owed, high := high, levelTime := time }).settled ↔ s.settled :=
  s.withPort_settled s.hp s.mgp owed high time rfl

/-- A change of the host port and the management port makes nothing due while the phase of a held access stays. -/
theorem State.setHp_settled (s : State) (x : HostPort) (m : ManagementPort) (h : (s.setHp x).heldPhase = s.heldPhase) :
    ((s.setHp x).setMgp m).settled ↔ s.settled :=
  s.withPort_settled x m s.fu.owed s.fu.high s.fu.levelTime h

end Sys2Proof.Machine
end

