-- ==== Sys2Proof/Laws/Ops.lean ====
section
/-! SUPPORT. What the tests on records and lists say, and what a withdrawn refill changes, one lemma for each, to be cited in place of unfolding them. -/

namespace Sys2Proof.Machine

theorem PerDev.set_set {α : Type} (p : PerDev α) (d : Dev) (x y : α) : (p.set d x).set d y = p.set d y := by
  cases d <;> rfl

/-- A device takes transfers when it is ONLINE or WRITE_LOCKED. -/
theorem DevRecord.takes_iff (r : DevRecord) : r.takes = true ↔ r.state = .online ∨ r.state = .writeLocked := by
  unfold DevRecord.takes
  cases r.state <;> simp

theorem isOpenAt_iff (loc : Loc) (e : Entry) : isOpenAt loc e = true ↔ e.state = .opened ∧ e.loc = loc := by
  simp [isOpenAt]

theorem isGathered_iff (d : Dev) (page : Nat) (e : Entry) :
    isGathered d page e = true ↔ e.loc.dev = d ∧ e.loc.page = page ∧ e.state ≠ .draining := by
  simp [isGathered, and_assoc]

theorem inSet_iff (d : Dev) (seqs : List Word32) (e : Entry) :
    inSet d seqs e = true ↔ e.loc.dev = d ∧ e.state = .draining ∧ e.seq ∈ seqs := by
  simp [inSet, and_assoc]

theorem Ctx.waitsPersist_iff (c : Ctx) :
    c.waitsPersist = true ↔ c.phase = .awaitPersist ∨ c.phase = .stopped ∧ c.before = some .awaitPersist := by
  simp [Ctx.waitsPersist]

theorem Request.yielding_iff (r : Request) : r.yielding = true ↔ r.grantClass = 3 ∨ r.grantClass = 4 := by
  simp [Request.yielding]

/-- A request has one of the five classes. -/
theorem Request.grantClass_range (r : Request) : 1 ≤ r.grantClass ∧ r.grantClass ≤ 5 := by
  unfold Request.grantClass
  split <;> (try split) <;> simp

/-- The seal of the operations and the one that statements name are the same. -/
theorem seal_eq_sealedEntry : Entry.seal = sealedEntry := rfl

/-- A request of a device that takes transfers may be queued. -/
theorem State.mayQueue_of_takes {s : State} {r : Request} (h : (s.dev r.dev).takes = true) : s.mayQueue r = true := by
  simp [State.mayQueue, h]

/-- A field written by name advances no index outside a write transaction. -/
theorem State.advanceAt_of_tx {s : State} {i : Byte} (h : s.mgp.tx ≠ .writing) : s.advanceAt i = s := by
  simp [State.advanceAt, h]

/-- All that a withdrawal of the waiting refill can change: the refill and the requests (R40). -/
theorem State.dropRefill_eq (s : State) (p : Loc → Bool) : s.dropRefill p = { s with
    rp := { s.rp with refill := if s.rp.refill.any p then none else s.rp.refill }
    mp := { s.mp with
      reqs := if s.rp.refill.any p then s.mp.reqs.filter (fun q => q.requester ≠ .refill) else s.mp.reqs } } := by
  unfold State.dropRefill
  split
  · next h => have : s.rp.refill.any p = false := by rw [h]; rfl
              simp [this]
  · next l h =>
    have : s.rp.refill.any p = p l := by rw [h]; rfl
    rw [this]
    cases p l <;> simp [State.withdraw, State.setRp, State.setMp]

/-- The merge into the newest record leaves the older ones (R72). -/
theorem mergeNewest_append (v : Word32) (m : Marker) (older : List Marker) :
    mergeNewest v (older ++ [m]) =
      older ++ [{ m with marker := v, weight := min (m.weight + 1) Config.saturation }] := by
  induction older with
  | nil => rfl
  | cons x xs ih =>
    cases xs with
    | nil => rfl
    | cons y ys => simpa [mergeNewest] using ih

/-- With no OPEN entry there is nothing to seal. -/
theorem sealOldest_of_none_open {es : List Entry} (h : ∀ e ∈ es, e.state ≠ .opened) : sealOldest es = es := by
  induction es with
  | nil => rfl
  | cons e es ih => simp [sealOldest, h e, ih (fun x hx => h x (by simp [hx]))]

/-- A raised counter stays at 2^32-1 once it reaches it (R185). -/
theorem satAdd_toNat (c : Word32) (n : Nat) : (satAdd c n).toNat = min (c.toNat + n) (2 ^ 32 - 1) := by
  unfold satAdd
  split
  · rename_i h
    rw [BitVec.toNat_add, BitVec.toNat_ofNat]
    omega
  · simp
    omega

/-- The position at the front of a halfword is even. -/
theorem evenPosition_even (addr : BitVec 23) : evenPosition addr % 2 = 0 := by unfold evenPosition; omega

/-- The halfword of a read has each named byte on its lane and 0xFF on the other (R28). -/
theorem readHalf_lanePositions (addr : BitVec 23) (even odd : Bool) (value : Nat → Byte) :
    readHalf (lanePositions addr even odd) value =
      (if odd then value (evenPosition addr + 1) else 0xFF) ++ (if even then value (evenPosition addr) else 0xFF) := by
  have e := evenPosition_even addr
  have o : (evenPosition addr + 1) % 2 = 1 := by omega
  unfold lanePositions
  generalize evenPosition addr = m at *
  cases even <;> cases odd <;> simp_all [readHalf]

end Sys2Proof.Machine
end

