-- ==== Sys2Proof/Laws/Memory.lean ====
section
/-! SUPPORT. The memory devices: every operation keeps the canonical form, and a page reads as it was last put. -/

namespace Sys2Proof.Machine

theorem mem_consPage {p : Nat} {b : List NvmByte} {rest : List NvmPage} {x : NvmPage} (h : x ∈ consPage p b rest) :
    x ∈ rest ∨ x.page = p ∧ x.bytes ≠ blankPage := by
  unfold consPage at h
  split at h
  · exact .inl h
  · rename_i hb
    rcases List.mem_cons.1 h with rfl | h
    · exact .inr ⟨rfl, hb⟩
    · exact .inl h

theorem mem_putPage {pages : List NvmPage} {p : Nat} {b : List NvmByte} {x : NvmPage} (h : x ∈ putPage pages p b) :
    x ∈ pages ∨ x.page = p ∧ x.bytes ≠ blankPage := by
  induction pages with
  | nil =>
    rcases mem_consPage h with h | h
    · exact .inl h
    · exact .inr h
  | cons y ys ih =>
    unfold putPage at h
    split at h
    · rcases mem_consPage h with h | h
      · exact .inl h
      · exact .inr h
    · split at h
      · rcases mem_consPage h with h | h
        · exact .inl (List.mem_cons_of_mem _ h)
        · exact .inr h
      · rcases List.mem_cons.1 h with rfl | h
        · exact .inl (List.mem_cons_self ..)
        · rcases ih h with h | h
          · exact .inl (List.mem_cons_of_mem _ h)
          · exact .inr h

theorem pairwise_consPage {p : Nat} {b : List NvmByte} {rest : List NvmPage}
    (h : rest.Pairwise (fun x y => x.page < y.page)) (hp : ∀ x ∈ rest, p < x.page) :
    (consPage p b rest).Pairwise (fun x y => x.page < y.page) := by
  unfold consPage
  split
  · exact h
  · exact List.pairwise_cons.2 ⟨hp, h⟩

theorem pairwise_putPage {pages : List NvmPage} {p : Nat} {b : List NvmByte}
    (h : pages.Pairwise (fun x y => x.page < y.page)) :
    (putPage pages p b).Pairwise (fun x y => x.page < y.page) := by
  induction pages with
  | nil => exact pairwise_consPage h (by simp)
  | cons y ys ih =>
    obtain ⟨hy, hys⟩ := List.pairwise_cons.1 h
    unfold putPage
    split
    · rename_i hlt
      refine pairwise_consPage h ?_
      intro x hx
      rcases List.mem_cons.1 hx with rfl | hx
      · exact hlt
      · exact Nat.lt_trans hlt (hy x hx)
    · split
      · rename_i _ he
        exact pairwise_consPage hys (fun x hx => he ▸ hy x hx)
      · rename_i h1 h2
        refine List.pairwise_cons.2 ⟨?_, ih hys⟩
        intro x hx
        rcases mem_putPage hx with hx | ⟨hx, _⟩
        · exact hy x hx
        · omega

theorem Nvm.wf_iff (n : Nvm) :
    n.wf = true ↔ n.pages.Pairwise (fun x y => x.page < y.page) ∧ ∀ x ∈ n.pages, x.bytes ≠ blankPage := by
  simp [Nvm.wf]

/-- Putting a page keeps the canonical form. -/
theorem Nvm.putPage_wf {n : Nvm} (h : n.wf = true) (p : Nat) (b : List NvmByte) (r : Option NvmProgram) :
    Nvm.wf { pages := putPage n.pages p b, running := r } = true := by
  obtain ⟨h1, h2⟩ := n.wf_iff.1 h
  refine (Nvm.wf_iff _).2 ⟨pairwise_putPage h1, ?_⟩
  intro x hx
  rcases mem_putPage hx with hx | ⟨_, hx⟩
  · exact h2 x hx
  · exact hx

/-- A change of the program that runs keeps the canonical form. -/
theorem Nvm.running_wf (n : Nvm) (r : Option NvmProgram) : Nvm.wf { n with running := r } = n.wf := rfl

/-- What a list of pages holds at a page number, blank where the number is not listed. -/
def pageIn (pages : List NvmPage) (p : Nat) : List NvmByte :=
  match pages.find? (fun x => x.page = p) with
  | some x => x.bytes
  | none => blankPage

theorem Nvm.page_eq (n : Nvm) (p : Nat) : n.page p = pageIn n.pages p := rfl

theorem pageIn_cons (x : NvmPage) (xs : List NvmPage) (p : Nat) :
    pageIn (x :: xs) p = if x.page = p then x.bytes else pageIn xs p := by
  by_cases h : x.page = p <;> simp [pageIn, h]

theorem pageIn_of_above {pages : List NvmPage} {p : Nat} (h : ∀ x ∈ pages, p < x.page) : pageIn pages p = blankPage := by
  have : pages.find? (fun x => x.page = p) = none := by
    rw [List.find?_eq_none]
    intro x hx
    have := h x hx
    simp
    omega
  simp [pageIn, this]

theorem pageIn_consPage {p : Nat} {b : List NvmByte} {rest : List NvmPage} (h : ∀ x ∈ rest, p < x.page) (q : Nat) :
    pageIn (consPage p b rest) q = if q = p then b else pageIn rest q := by
  unfold consPage
  split
  · rename_i hb
    split
    · rename_i hq
      rw [hq, pageIn_of_above h, hb]
    · rfl
  · rw [pageIn_cons]
    simp only [eq_comm]

/-- A page reads as it was last put, and every other page as before. -/
theorem pageIn_putPage {pages : List NvmPage} (h : pages.Pairwise (fun x y => x.page < y.page)) (p : Nat)
    (b : List NvmByte) (q : Nat) : pageIn (putPage pages p b) q = if q = p then b else pageIn pages q := by
  induction pages with
  | nil => exact pageIn_consPage (by simp) q
  | cons y ys ih =>
    obtain ⟨hy, hys⟩ := List.pairwise_cons.1 h
    unfold putPage
    split
    · rename_i hlt
      refine pageIn_consPage ?_ q
      intro x hx
      rcases List.mem_cons.1 hx with rfl | hx
      · exact hlt
      · exact Nat.lt_trans hlt (hy x hx)
    · split
      · rename_i _ he
        rw [pageIn_consPage (fun x hx => he ▸ hy x hx), pageIn_cons]
        split
        · rfl
        · rename_i hq
          rw [if_neg (by omega)]
      · rename_i h1 h2
        rw [pageIn_cons, pageIn_cons, ih hys]
        split
        · rename_i hq
          rw [if_neg (by omega)]
        · rfl

/-- The page of a device after a page of it was put. -/
theorem Nvm.page_putPage {n : Nvm} (h : n.wf = true) (p : Nat) (b : List NvmByte) (r : Option NvmProgram) (q : Nat) :
    Nvm.page { pages := putPage n.pages p b, running := r } q = if q = p then b else n.page q :=
  pageIn_putPage (n.wf_iff.1 h).1 p b q

/-- The memory devices of the state after reset have the canonical form. -/
theorem State.reset_memoryForm : State.reset.MemoryForm := ⟨rfl, rfl⟩

theorem PerDev.wf_set {p : PerDev Nvm} (h : p.d0.wf = true ∧ p.d1.wf = true) (d : Dev) {x : Nvm} (hx : x.wf = true) :
    (p.set d x).d0.wf = true ∧ (p.set d x).d1.wf = true := by
  cases d
  · exact ⟨hx, h.2⟩
  · exact ⟨h.1, hx⟩

theorem State.MemoryForm.get {s : State} (h : s.MemoryForm) (d : Dev) : (s.nvm.get d).wf = true := by
  cases d
  · exact h.1
  · exact h.2

/-- The start of a program keeps the canonical form. -/
theorem State.nvmStart_memoryForm {s : State} (h : s.MemoryForm) (d : Dev) (p : Nat) (b : List (Option Byte)) :
    (s.nvmStart d p b).MemoryForm :=
  PerDev.wf_set h d (h.get d)

/-- The pass of a program keeps the canonical form. -/
theorem State.nvmPass_memoryForm {s : State} (h : s.MemoryForm) (d : Dev) : (s.nvmPass d).MemoryForm := by
  unfold State.nvmPass
  dsimp only
  split
  · exact h
  · exact PerDev.wf_set h d (Nvm.putPage_wf (h.get d) _ _ _)

/-- The failure or the cutting off of a program keeps the canonical form. -/
theorem State.nvmSpoil_memoryForm {s : State} (h : s.MemoryForm) (d : Dev) : (s.nvmSpoil d).MemoryForm := by
  unfold State.nvmSpoil
  dsimp only
  split
  · exact h
  · exact PerDev.wf_set h d (Nvm.putPage_wf (h.get d) _ _ _)

end Sys2Proof.Machine
end

