-- ==== Sys2Proof/Laws/PerInstr.lean ====
section
/-! SUPPORT. A statement about every command as syntax, command by command: no word spells it, since no row of
spec/opcode_table.json gives bits. -/

/-- No word of any length spells the command. -/
def Sys2Proof.Laws.Unspelled.Statement (i : Sys2Proof.Instr) : Prop :=
  ∀ nbits w : Nat, Sys2Proof.decodeTableWord nbits w ≠ some i

theorem Sys2Proof.Laws.Unspelled.hostAccessArrival (ha : BitVec 22) (hbl hbh hrd hwr : Bool) (hd : Sys2Proof.Half) :
    Sys2Proof.Laws.Unspelled.Statement (.hostAccessArrival ha hbl hbh hrd hwr hd) := fun _ _ h => nomatch h
theorem Sys2Proof.Laws.Unspelled.pendingAllocationFill :
    Sys2Proof.Laws.Unspelled.Statement .pendingAllocationFill := fun _ _ h => nomatch h
theorem Sys2Proof.Laws.Unspelled.hostStrobeRelease :
    Sys2Proof.Laws.Unspelled.Statement .hostStrobeRelease := fun _ _ h => nomatch h
theorem Sys2Proof.Laws.Unspelled.stallLimitExpiry : Sys2Proof.Laws.Unspelled.Statement .stallLimitExpiry := fun _ _ h => nomatch h
theorem Sys2Proof.Laws.Unspelled.sealDeadlineExpiry (seq : Sys2Proof.Word32) :
    Sys2Proof.Laws.Unspelled.Statement (.sealDeadlineExpiry seq) := fun _ _ h => nomatch h
theorem Sys2Proof.Laws.Unspelled.fenceLineRisingEdge :
    Sys2Proof.Laws.Unspelled.Statement .fenceLineRisingEdge := fun _ _ h => nomatch h
theorem Sys2Proof.Laws.Unspelled.markerCompletion : Sys2Proof.Laws.Unspelled.Statement .markerCompletion := fun _ _ h => nomatch h
theorem Sys2Proof.Laws.Unspelled.writeThroughCompletion :
    Sys2Proof.Laws.Unspelled.Statement .writeThroughCompletion := fun _ _ h => nomatch h
theorem Sys2Proof.Laws.Unspelled.pdonePulseEnd : Sys2Proof.Laws.Unspelled.Statement .pdonePulseEnd := fun _ _ h => nomatch h
theorem Sys2Proof.Laws.Unspelled.arbiterGrant : Sys2Proof.Laws.Unspelled.Statement .arbiterGrant := fun _ _ h => nomatch h
theorem Sys2Proof.Laws.Unspelled.memoryTransferEnd (answer : Sys2Proof.BusAnswer) :
    Sys2Proof.Laws.Unspelled.Statement (.memoryTransferEnd answer) := fun _ _ h => nomatch h
theorem Sys2Proof.Laws.Unspelled.statusPollDue (d : Sys2Proof.Dev) :
    Sys2Proof.Laws.Unspelled.Statement (.statusPollDue d) := fun _ _ h => nomatch h
theorem Sys2Proof.Laws.Unspelled.suspendAckLimitExpiry (d : Sys2Proof.Dev) :
    Sys2Proof.Laws.Unspelled.Statement (.suspendAckLimitExpiry d) := fun _ _ h => nomatch h
theorem Sys2Proof.Laws.Unspelled.programTimeLimitExpiry (d : Sys2Proof.Dev) :
    Sys2Proof.Laws.Unspelled.Statement (.programTimeLimitExpiry d) := fun _ _ h => nomatch h
theorem Sys2Proof.Laws.Unspelled.metadataProgramTimeExpiry :
    Sys2Proof.Laws.Unspelled.Statement .metadataProgramTimeExpiry := fun _ _ h => nomatch h
theorem Sys2Proof.Laws.Unspelled.resetDeadlineExpiry (d : Sys2Proof.Dev) :
    Sys2Proof.Laws.Unspelled.Statement (.resetDeadlineExpiry d) := fun _ _ h => nomatch h
theorem Sys2Proof.Laws.Unspelled.drainGather (d : Sys2Proof.Dev) :
    Sys2Proof.Laws.Unspelled.Statement (.drainGather d) := fun _ _ h => nomatch h
theorem Sys2Proof.Laws.Unspelled.persistDoneContextEnd (d : Sys2Proof.Dev) :
    Sys2Proof.Laws.Unspelled.Statement (.persistDoneContextEnd d) := fun _ _ h => nomatch h
theorem Sys2Proof.Laws.Unspelled.persistStart : Sys2Proof.Laws.Unspelled.Statement .persistStart := fun _ _ h => nomatch h
theorem Sys2Proof.Laws.Unspelled.writeRequestTaken :
    Sys2Proof.Laws.Unspelled.Statement .writeRequestTaken := fun _ _ h => nomatch h
theorem Sys2Proof.Laws.Unspelled.pfailAssert : Sys2Proof.Laws.Unspelled.Statement .pfailAssert := fun _ _ h => nomatch h
theorem Sys2Proof.Laws.Unspelled.holdupEnd : Sys2Proof.Laws.Unspelled.Statement .holdupEnd := fun _ _ h => nomatch h
theorem Sys2Proof.Laws.Unspelled.pfailRelease : Sys2Proof.Laws.Unspelled.Statement .pfailRelease := fun _ _ h => nomatch h
theorem Sys2Proof.Laws.Unspelled.stoppedQuietReset :
    Sys2Proof.Laws.Unspelled.Statement .stoppedQuietReset := fun _ _ h => nomatch h
theorem Sys2Proof.Laws.Unspelled.resetAssert : Sys2Proof.Laws.Unspelled.Statement .resetAssert := fun _ _ h => nomatch h
theorem Sys2Proof.Laws.Unspelled.resetRelease (madr : Bool) :
    Sys2Proof.Laws.Unspelled.Statement (.resetRelease madr) := fun _ _ h => nomatch h
theorem Sys2Proof.Laws.Unspelled.powerUp (pfail madr : Bool) :
    Sys2Proof.Laws.Unspelled.Statement (.powerUp pfail madr) := fun _ _ h => nomatch h
theorem Sys2Proof.Laws.Unspelled.replayEnd : Sys2Proof.Laws.Unspelled.Statement .replayEnd := fun _ _ h => nomatch h
theorem Sys2Proof.Laws.Unspelled.restartEnd : Sys2Proof.Laws.Unspelled.Statement .restartEnd := fun _ _ h => nomatch h
theorem Sys2Proof.Laws.Unspelled.commit : Sys2Proof.Laws.Unspelled.Statement .commit := fun _ _ h => nomatch h
theorem Sys2Proof.Laws.Unspelled.commitSwap : Sys2Proof.Laws.Unspelled.Statement .commitSwap := fun _ _ h => nomatch h
theorem Sys2Proof.Laws.Unspelled.fence : Sys2Proof.Laws.Unspelled.Statement .fence := fun _ _ h => nomatch h
theorem Sys2Proof.Laws.Unspelled.restart : Sys2Proof.Laws.Unspelled.Statement .restart := fun _ _ h => nomatch h
theorem Sys2Proof.Laws.Unspelled.retirePage : Sys2Proof.Laws.Unspelled.Statement .retirePage := fun _ _ h => nomatch h
theorem Sys2Proof.Laws.Unspelled.popFault : Sys2Proof.Laws.Unspelled.Statement .popFault := fun _ _ h => nomatch h
theorem Sys2Proof.Laws.Unspelled.selectRemap : Sys2Proof.Laws.Unspelled.Statement .selectRemap := fun _ _ h => nomatch h
theorem Sys2Proof.Laws.Unspelled.clearCounters : Sys2Proof.Laws.Unspelled.Statement .clearCounters := fun _ _ h => nomatch h
theorem Sys2Proof.Laws.Unspelled.clearStatus : Sys2Proof.Laws.Unspelled.Statement .clearStatus := fun _ _ h => nomatch h
theorem Sys2Proof.Laws.Unspelled.unknownRequestCode (code : Sys2Proof.Byte) :
    Sys2Proof.Laws.Unspelled.Statement (.unknownRequestCode code) := fun _ _ h => nomatch h
theorem Sys2Proof.Laws.Unspelled.eventFlagsWrite (b : Sys2Proof.Byte) :
    Sys2Proof.Laws.Unspelled.Statement (.eventFlagsWrite b) := fun _ _ h => nomatch h
theorem Sys2Proof.Laws.Unspelled.eventEnablesWrite (b : Sys2Proof.Byte) :
    Sys2Proof.Laws.Unspelled.Statement (.eventEnablesWrite b) := fun _ _ h => nomatch h
theorem Sys2Proof.Laws.Unspelled.remapViewIndexWrite (b : Sys2Proof.Byte) :
    Sys2Proof.Laws.Unspelled.Statement (.remapViewIndexWrite b) := fun _ _ h => nomatch h
theorem Sys2Proof.Laws.Unspelled.mapByteWrite (b : Sys2Proof.Byte) :
    Sys2Proof.Laws.Unspelled.Statement (.mapByteWrite b) := fun _ _ h => nomatch h
theorem Sys2Proof.Laws.Unspelled.indexSet (b : Sys2Proof.Byte) :
    Sys2Proof.Laws.Unspelled.Statement (.indexSet b) := fun _ _ h => nomatch h
theorem Sys2Proof.Laws.Unspelled.snapshotCapture (ack : Bool) :
    Sys2Proof.Laws.Unspelled.Statement (.snapshotCapture ack) := fun _ _ h => nomatch h
theorem Sys2Proof.Laws.Unspelled.transactionEnd : Sys2Proof.Laws.Unspelled.Statement .transactionEnd := fun _ _ h => nomatch h
theorem Sys2Proof.Laws.Unspelled.pdonePulseStart : Sys2Proof.Laws.Unspelled.Statement .pdonePulseStart := fun _ _ h => nomatch h
theorem Sys2Proof.Laws.Unspelled.transactionStart (b : Sys2Proof.Byte) :
    Sys2Proof.Laws.Unspelled.Statement (.transactionStart b) := fun _ _ h => nomatch h
theorem Sys2Proof.Laws.Unspelled.powerLoss : Sys2Proof.Laws.Unspelled.Statement .powerLoss := fun _ _ h => nomatch h
end

