-- ==== Sys2Proof/WellFormed.lean ====
section
/-! DEFINITION. Which commands name an event that can happen at the part's pins or in its time measures. -/

namespace Sys2Proof

/-- An arrival is the assertion of one strobe at least (R105). -/
def arrivalWellFormed (hrd hwr : Bool) : Bool := hrd || hwr

/-- Sequence number 0 is given to no entry (R4). -/
def seqWellFormed (seq : Word32) : Bool := seq != 0

/-- A code that names no request is 0 or above 8 (R189). -/
def codeWellFormed (code : Byte) : Bool := code == 0 || 8 < code.toNat

/-- The commands that name an event the spec describes. -/
def Instr.wellFormed : Instr → Bool
  | .hostAccessArrival _ _ _ hrd hwr _ => arrivalWellFormed hrd hwr
  | .pendingAllocationFill => true
  | .hostStrobeRelease => true
  | .stallLimitExpiry => true
  | .sealDeadlineExpiry seq => seqWellFormed seq
  | .fenceLineRisingEdge => true
  | .markerCompletion => true
  | .writeThroughCompletion => true
  | .pdonePulseEnd => true
  | .arbiterGrant => true
  | .memoryTransferEnd _ => true
  | .statusPollDue _ => true
  | .suspendAckLimitExpiry _ => true
  | .programTimeLimitExpiry _ => true
  | .metadataProgramTimeExpiry => true
  | .resetDeadlineExpiry _ => true
  | .drainGather _ => true
  | .persistDoneContextEnd _ => true
  | .persistStart => true
  | .writeRequestTaken => true
  | .pfailAssert => true
  | .holdupEnd => true
  | .pfailRelease => true
  | .stoppedQuietReset => true
  | .resetAssert => true
  | .resetRelease _ => true
  | .powerUp _ _ => true
  | .replayEnd => true
  | .restartEnd => true
  | .commit => true
  | .commitSwap => true
  | .fence => true
  | .restart => true
  | .retirePage => true
  | .popFault => true
  | .selectRemap => true
  | .clearCounters => true
  | .clearStatus => true
  | .unknownRequestCode code => codeWellFormed code
  | .eventFlagsWrite _ => true
  | .eventEnablesWrite _ => true
  | .remapViewIndexWrite _ => true
  | .mapByteWrite _ => true
  | .indexSet _ => true
  | .snapshotCapture _ => true
  | .transactionEnd => true
  | .pdonePulseStart => true
  | .transactionStart _ => true
  | .powerLoss => true

end Sys2Proof
end

