-- ==== Sys2Proof/Tests/Slice0.lean ====
section
/-! SUPPORT. Tests: the checks of WellFormed, numbers and worked examples of the spec, and for each statement with hypotheses a
state and operands that meet them. -/

/- One theorem after another: the checks wait for one another, and each waiting one would hold a thread. -/
set_option Elab.async false

namespace Sys2Proof.Tests
open Sys2Proof Sys2Proof.Machine

/-! ### WellFormed refuses ill-formed commands -/

theorem test_wellFormed_arrival_without_strobe :
    (Instr.hostAccessArrival 0 true true false false 0).wellFormed = false := by decide
theorem test_wellFormed_seq_zero : (Instr.sealDeadlineExpiry 0).wellFormed = false := by decide
theorem test_wellFormed_code_of_a_request : (Instr.unknownRequestCode 3).wellFormed = false := by decide
theorem test_wellFormed_code_beyond : (Instr.unknownRequestCode 9).wellFormed = true := by decide

/-! ### States to test on -/

def online : DevRecord := { DevRecord.reset with state := .online }

/-- The default table with other flags for window 0: bit 0 enabled, bits 2-1 policy (R189). -/
def tableWith (flags : Byte) : Table :=
  let window : WindowRecord := { flags := flags, device := 0, hostBase := 0, size := 8150, memBase := 0 }
  { Table.default true with windows := (Table.default true).windows.set 0 window }

/-- RUN, with the default table, both devices ONLINE, and a few free spares. -/
def running : State :=
  { State.reset with
    sc := { StateController.reset with state := .run, header := some .clean }
    wd := { WindowDecoder.reset with live := Table.default true }
    ru := { RemapUnit.reset with free := ⟨[8150, 8151], [8160]⟩ }
    mp := { MemoryPort.reset with devs := ⟨online, online⟩ }
    mgp := { ManagementPort.reset with staged := Table.default true } }

def inState (x : OpState) (s : State) : State := { s with sc := { s.sc with state := x } }

/-- Line 3 of page 18 of device 0, which halfword address 0x91A falls in (R107). -/
def here : Loc := ⟨.d0, 18, 3⟩

def posted : Decoded := ⟨here, .posted⟩

def entry (seq : Word32) (state : EntryState) : Entry :=
  { loc := here, bytes := emptyLine.set 4 (some 0xAA), seq := seq, wt := false, state := state
    deadline := if state = .opened then some 200 else none }

/-- `n` SEALED entries of other lines. -/
def others (n : Nat) : List Entry :=
  (List.range n).map (fun k => { entry (BitVec.ofNat 32 (k + 1)) .sealed with loc := ⟨.d0, 100 + k, 0⟩ })

def holding (es : List Entry) (s : State) : State :=
  { s with pwb := { s.pwb with entries := es, counter := BitVec.ofNat 32 es.length } }

/-- A write of the halfword at 0x91A, or a read of it, in a phase. -/
def access (dir : Dir) (phase : AccessPhase) : Access :=
  { dir := dir, addr := 0x1234, even := true, odd := true, wdata := some 0xBEEF, loc := some here
    policy := some .posted, phase := phase, stallLimit := 3000, stallTime := 0, err := false, rdata := 0 }

def accessing (dir : Dir) (phase : AccessPhase) (s : State) : State :=
  { s with hp := { s.hp with access := some (access dir phase) } }

/-- A context of device 0 for page 18. -/
def context (phase : CtxPhase) : Ctx :=
  { newCtx 18 18 .drain phase [entry 1 .draining] with started := true }

def inContext (c : Ctx) (s : State) : State := { s with de := ⟨{ ctx := some c, stopping := false }, Engine.reset⟩ }

/-- Device 0 at work for an owner. -/
def working (a : Activity) (o : Owner) (s : State) : State :=
  { s with mp := { s.mp with devs := ⟨{ online with
      activity := a, owner := some o, page := some 18, poll := some 3, muProgramTime := some 3999 }, online⟩ } }

def onBus (q : Requester) (cmd : Cmd) (s : State) : State :=
  { s with mp := { s.mp with bus := some { req := ⟨q, .d0, cmd⟩, home := 18, underSuspend := false } } }

def asking (l : List Request) (s : State) : State := { s with mp := { s.mp with reqs := l } }

def hostRead (phase : ReadPhase) : HostRead :=
  { loc := here, positions := [4, 5], phase := phase, ahead := 0, asked := false }

def reading (phase : ReadPhase) (s : State) : State := { s with rp := { s.rp with host := some (hostRead phase) } }

/-- A refill of line 4 of page 18 of device 0 that waits for its grant. -/
def refilling (s : State) : State :=
  { s with rp := { s.rp with refill := some { here with line := 4 } }, mp := { s.mp with reqs := [⟨.refill, .d0, .read 18 4 1⟩] } }

/-- The engine of device 0 told to stop. -/
def toldToStop (s : State) : State := { s with de := { s.de with d0 := { s.de.d0 with stopping := true } } }

def failedHere (s : State) : State := { s with ru := { s.ru with table := [.failed .d0 18] } }

/-! ### Numbers of the spec -/

/-- The check value of this CRC for the ASCII digits 1 to 9 (a published value of CRC-32; R141 gives the generator). -/
theorem test_crc32_check : crc32 [0x31, 0x32, 0x33, 0x34, 0x35, 0x36, 0x37, 0x38, 0x39] =
      0xCBF43926 := by decide +kernel
/-- R107: byte address 0x001234 under the default table is page 18, line 3, byte 4. -/
theorem test_decode_of_0x1234 : running.wd.live.decode (arrivalAddr 0x91A true true) = some posted := by decide
theorem test_lanes_of_0x1234 : lanePositions (arrivalAddr 0x91A true true) true true = [4, 5] := by decide
/-- R1: 1 is above 2^32-1. -/
theorem test_numbers_wrap : isAbove 1 0xFFFFFFFF = true ∧ isAbove 0xFFFFFFFF 1 = false := by decide
/-- R4: the number after 2^32-1 is 1. -/
theorem test_seq_skips_zero : nextNonzero 0xFFFFFFFF = 1 := by decide
theorem test_counter_saturates : satAdd 0xFFFFFFFE 3 = 0xFFFFFFFF := by decide
/-- R140: record 10 is the first of page 8183 and record 30 the first of page 8185. -/
theorem test_dump_pages : (List.range 4).map dumpPageFirst = [1, 10, 20, 30] := by decide
/-- R190: the header of a CLEAN dump. -/
theorem test_header_clean : (headerBytes cleanCode 0 0).take 5 = [0x01, 0x00, 0x2B, 0x6D, 0x00] := by decide
/-- R190: a dump record of one byte at position 4 of line 3 of page 18. -/
theorem test_dump_record :
    DumpRecord.toBytes { ordinal := 1, loc := here, wt := false, bytes := (entry 1 .sealed).bytes } =
      [1, 0, 18, 0, 3, 0, 0x10, 0, 0, 0, 0, 0, 0xAA, 0, 0, 0, 0, 0, 0, 0, 0, 0, 0, 0] := by decide
theorem test_default_table_valid : (Table.default true).valid = true := by decide
/-- R189: the state byte and the device states byte of a part in RUN. -/
theorem test_map_state : running.mapByte 0x00 = 2 ∧ running.mapByte 0x01 = 5 := by decide
/-- R50: a later entry's byte wins in the batch. -/
theorem test_batch_newest :
    byteAt (formBatch [entry 1 .draining, { entry 2 .draining with bytes := emptyLine.set 4 (some 0xBB) }]) 52 =
      some 0xBB := by decide
/-- R93: a second remap of a page replaces its entry in place and appends the old spare. -/
theorem test_remap_twice :
    settlePage [.remap .d0 18 8150, .failed .d0 3] .d0 18 (.remap .d0 18 8151) =
      [.remap .d0 18 8151, .failed .d0 3, .retiredSpare .d0 8150] := by decide

/-! ### The worked example of 01_posted_write_buffer.md, section 1.12 -/

/-- The part before the example: the sequence counter stands at 40. -/
def before : State := { running with pwb := { WriteBuffer.reset with counter := 40 } }

def after (i : Instr) (s : State) : State :=
  match exec i s with
  | .next t => t
  | _ => s

/-- The write of 0x2211 to 0x001234 allocates entry 41, and the access completes. -/
theorem test_example_allocates :
    ((after (.hostAccessArrival 0x91A true true false true 0x2211) before).pwb.entries.map
        (fun e => (e.loc, e.seq, e.state, byteAt e.bytes 4, byteAt e.bytes 5))) =
      [(here, 41, .opened, some 0x11, some 0x22)] := by decide +kernel

/-- The write of 0x33 to 0x001237 with /HBH alone is merged into entry 41. -/
theorem test_example_merges :
    ((after (.hostAccessArrival 0x91B false true false true 0x3300)
        (after .hostStrobeRelease (after (.hostAccessArrival 0x91A true true false true 0x2211) before))).pwb.entries.map
        (fun e => (e.seq, byteAt e.bytes 4, byteAt e.bytes 7))) = [(41, some 0x11, some 0x33)] := by decide +kernel

/-- The first command of a run: boot begins with the DEVICE_RESET of device 0 granted at once (R126, R157). -/
theorem test_boot_begins :
    (after .fenceLineRisingEdge State.reset).mp.bus.map Transfer.req = some ⟨.probe, .d0, .deviceReset⟩ ∧
      (after .fenceLineRisingEdge State.reset).sc.step = some .probe := by decide +kernel

/-! ### Hypotheses of the statements, each met by a state and operands -/

theorem test_hyp_StepRunsFrontCommand :
    ({ running with pending := [.fence] } : State).pending = .fence :: [] ∧ running.pending = [] := by decide +kernel
/-- The values after cold reset, with the pins at any level. -/
theorem reset_allReset (p : Pins) (l : List Instr) : ({ State.reset with pins := p, pending := l } : State).AllReset :=
  ⟨⟨⟨rfl, rfl, rfl, rfl, rfl, rfl, rfl, rfl⟩, rfl, rfl, rfl⟩, rfl, rfl, rfl⟩
/-- A settled state, a state with a step due, and the values after cold reset with PFAIL low and high, and in a transaction. -/
theorem test_hyp_WhatFollows :
    let pins : Pins := { State.reset.pins with pfail := true }
    let s : State := { State.reset with mgp := { State.reset.mgp with tx := .writing, acked := true } }
    firstDue followSteps running = none ∧ (firstDue followSteps State.reset).isSome = true ∧ State.reset.AfterReset ∧
      State.reset.pins.pfail = false ∧ ({ State.reset with pins := pins } : State).AfterReset ∧ s.AfterReset ∧
      s.pins.pfail = false :=
  ⟨by decide +kernel, by decide +kernel, (reset_allReset _ []).1, rfl, (reset_allReset _ []).1,
    ⟨⟨rfl, rfl, rfl, rfl, rfl, rfl, rfl, rfl⟩, rfl, rfl, rfl⟩, rfl⟩
theorem test_hyp_CommandsKeep :
    touchesMemory .fence = false ∧ touchesPins .fence = false ∧ touchesStaged .fence = false ∧
      ∃ t, exec .fence running = .next t := ⟨by decide, by decide, by decide, _, rfl⟩
/-- Also for Supplies. -/
theorem test_hyp_ResetLine :
    running.pins.powered = true ∧ running.pins.reset = false ∧
      ({ running with pins := { running.pins with reset := true } } : State).pins.reset = true := by decide +kernel
theorem test_hyp_Supplies :
    running.pins.powered = true ∧
      ({ running with pins := { running.pins with powered := false } } : State).pins.powered = false := by decide +kernel
/-- A part at work: a write waits for an entry while 32 are in use, device 0 programs for its engine, and a poll is on the bus. -/
def busy : State :=
  { onBus .port .readStatus (working .programming .engine (inContext (context .programming)
      (accessing .write .heldBuffer (holding ({ entry 1 .draining with loc := here } :: others 31) running)))) with
    pending := [.memoryTransferEnd (.status .readyPass)]
    pwb := { entries := entry 1 .draining :: others 31, counter := 32
             waiting := some { loc := here, bytes := emptyLine.set 5 (some 1), wt := false } }
    nvm := ⟨{ pages := [], running := some { page := 18, bytes := List.replicate 256 none } }, Nvm.blank⟩ }

theorem test_hyp_FitsKept : busy.Fits ∧ ∃ t, step busy = .next t := by
  refine ⟨⟨by decide, by decide, by decide, by decide, by decide, by decide, by decide, ?_, by decide +kernel,
    fun _ h => (nomatch h), ?_, fun _ h => (nomatch h)⟩, _, rfl⟩
  · intro d
    cases d <;> decide
  · rintro (_ | _) c h
    · obtain rfl : context .programming = c := Option.some.inj h
      exact ⟨by decide, by decide, by decide, by decide⟩
    · exact nomatch h
theorem test_hyp_HeaderCleanKept : busy.HeaderClean ∧ ∃ t, step busy = .next t := ⟨fun _ => rfl, _, rfl⟩
theorem test_hyp_HeldKept : busy.Held ∧ ∃ t, step busy = .next t :=
  ⟨⟨by decide, by decide, by decide, by decide⟩, _, rfl⟩
theorem test_hyp_OneOpenKept : busy.Held ∧ busy.OneOpen ∧ ∃ t, step busy = .next t := by
  refine ⟨⟨by decide, by decide, by decide, by decide⟩, ⟨by decide +kernel, ?_⟩, _, rfl⟩
  rintro w hw
  obtain rfl : { loc := here, bytes := emptyLine.set 5 (some 1), wt := false } = w := Option.some.inj hw
  decide +kernel
theorem test_hyp_BootOrderKept : busy.BootOrder ∧ ∃ t, step busy = .next t :=
  ⟨⟨(fun h => nomatch h), (fun h => nomatch h)⟩, _, rfl⟩
theorem test_hyp_ShutOutsideRunKept : busy.Held ∧ busy.BootOrder ∧ busy.ShutOutsideRun ∧ ∃ t, step busy = .next t :=
  ⟨⟨by decide, by decide, by decide, by decide⟩, ⟨(fun h => nomatch h), (fun h => nomatch h)⟩,
    ⟨fun h => absurd rfl h, fun h => absurd rfl h⟩, _, rfl⟩
theorem test_hyp_MemoryFormKept : busy.MemoryForm ∧ ∃ t, step busy = .next t := ⟨⟨rfl, rfl⟩, _, rfl⟩
theorem test_hyp_PulseOwedKept : busy.PulseOwed ∧ ∃ t, step busy = .next t := ⟨(fun h => nomatch h), _, rfl⟩
/-- A part held in reset, and one that runs. -/
theorem test_hyp_HeldInResetKept :
    let s : State := { State.reset with pins := { State.reset.pins with reset := true }, pending := [.fenceLineRisingEdge] }
    s.HeldInReset ∧ s.alive = false ∧ (∃ t, step s = .next t) ∧ busy.HeldInReset ∧ ∃ t, step busy = .next t :=
  ⟨fun _ => reset_allReset _ _, by decide, ⟨_, rfl⟩, (fun h => nomatch h), _, rfl⟩
/-- A remap unit with entries of each kind, and a spare in the hold for the context that tries it. -/
def remapping : State :=
  { inContext { context .retireProgram with candidate := some 8153 } running with
    pending := [.fence]
    ru := { RemapUnit.reset with
      table := [.remap .d0 18 8151, .failed .d0 3, .retiredSpare .d0 8150], free := ⟨[8154], [8160]⟩
      hold := ⟨some 8153, none⟩ } }

theorem test_hyp_RemapSoundKept : remapping.RemapSound ∧ ∃ t, step remapping = .next t := by
  refine ⟨⟨by decide, by decide, ?_, ?_, ?_, fun h => (nomatch h)⟩, _, rfl⟩
  · intro d
    cases d <;> decide +kernel
  · rintro (_ | _) c p h hp
    · obtain rfl : { context .retireProgram with candidate := some 8153 } = c := Option.some.inj h
      exact hp
    · exact nomatch h
  · rintro (_ | _) c h _
    · obtain rfl : { context .retireProgram with candidate := some 8153 } = c := Option.some.inj h
      decide
    · exact nomatch h

theorem test_hyp_NumbersCompared :
    (0 : Nat) < 2 ^ 31 ∧ 2 ^ 31 - 1 < 2 ^ 31 ∧ 0 < 2 ^ 31 - 1 := by omega
/-- R4, R185: at the greatest value and below it. -/
theorem test_hyp_NumbersCompared_steps :
    nextNonzero 0xFFFFFFFE = 0xFFFFFFFF ∧ nextNonzero 0 = 1 ∧ satAdd 0xFFFFFFFF 0 = 0xFFFFFFFF ∧
      satAdd 0xFFFFFFFE 1 = 0xFFFFFFFF := by decide
/-- Any other page meets the last clause. -/
theorem test_hyp_ProgramsEnd :
    busy.MemoryForm ∧ (∃ r, (busy.nvm.get .d0).running = some r ∧ r.bytes.length = 256 ∧
      ((busy.nvm.get .d0).page r.page).length = 256) := ⟨⟨rfl, rfl⟩, _, rfl, by decide +kernel, by decide +kernel⟩
theorem test_hyp_RecordsReadBack_config :
    (Table.default true).windows.length = 8 ∧ (Table.default true).valid = true := by decide +kernel
theorem test_hyp_RecordsReadBack_remap :
    let l : List RemapEntry := [.remap .d0 18 8151, .failed .d0 3, .retiredSpare .d0 8150]
    l.length ≤ 72 ∧ l.all RemapEntry.inRange = true ∧ remapTableValid l = true := by decide +kernel
theorem test_hyp_DumpReadBack :
    let es := [entry 1 .sealed, entry 2 .draining]
    (∀ e ∈ es, (running.dev e.loc.dev).state ≠ .absent) ∧ 1 ≤ es.length ∧ es.length ≤ 32 ∧
      (dumpRecords es 1).all DumpRecord.inRange = true := by decide +kernel
theorem test_hyp_ArrivalDecoded :
    (true || false) = true ∧ (false || true) = true ∧ (Table.default true).valid = true ∧
      ∃ w ∈ (Table.default true).windows, w.decode (arrivalAddr 0x91A true true) = some posted :=
  ⟨rfl, rfl, by decide +kernel, (Table.default true).windows[0], by decide +kernel, by decide +kernel⟩
/-- An access can be opened. -/
theorem running_opens : running.opensAccess := by unfold State.opensAccess; decide

theorem test_hyp_ArrivalAtOnce_outside :
    (inState .halted running).opensAccess ∧ firstDue followSteps (inState .halted running) = none ∧
      (inState .halted running).sc.state ≠ .run := by unfold State.opensAccess; decide +kernel
theorem test_hyp_ArrivalAtOnce_no_lane :
    running.opensAccess ∧ firstDue followSteps running = none ∧ running.sc.state = .run :=
  by unfold State.opensAccess; decide +kernel
/-- The host address above both default windows. -/
theorem test_hyp_ArrivalRefused_no_window :
    running.wd.live.decode (arrivalAddr 0x3FFFFF true true) = none := by decide +kernel
theorem test_hyp_ArrivalRefused_unavailable :
    let s : State := { running with mp := { running.mp with devs := ⟨{ online with state := .offline }, online⟩ } }
    s.opensAccess ∧ firstDue followSteps s = none ∧ s.sc.state = .run ∧
      s.wd.live.decode (arrivalAddr 0x91A true true) = some posted ∧ (s.dev here.dev).state = .offline :=
  by unfold State.opensAccess; decide +kernel
theorem test_hyp_ArrivalRefused_read_only :
    let s : State := { running with wd := { running.wd with live := tableWith 5 } }
    s.opensAccess ∧ firstDue followSteps s = none ∧ s.wd.live.decode (arrivalAddr 0x91A true true) = some ⟨here, .readOnly⟩ :=
  by unfold State.opensAccess; decide +kernel
theorem test_hyp_ArrivalRefused_write_refused :
    let s : State := { running with mu := { running.mu with config := { running.mu.config with fault := true } } }
    s.opensAccess ∧ firstDue followSteps s = none ∧ s.mu.config.fault = true := by unfold State.opensAccess; decide +kernel
theorem test_hyp_ArrivalRefused_failed_page :
    (failedHere running).opensAccess ∧ firstDue followSteps (failedHere running) = none ∧
      (failedHere running).ru.isFailed .d0 18 = true := by unfold State.opensAccess; decide +kernel
/-- The states of the write statements: a write of the halfword at 0x91A passes its checks in them. -/
theorem writeTo_of {s : State} {x : Decoded} (a : s.alive = true ∧ s.hp.access = none)
    (h : s.sc.state = .run ∧ s.wd.live.decode (arrivalAddr 0x91A true true) = some x ∧
      (s.dev x.loc.dev).state = .online ∧ s.metadataFault = false ∧ s.ru.isFailed x.loc.dev x.loc.page = false) :
    s.writeTo (arrivalAddr 0x91A true true) x := ⟨a, h.1, h.2.1, h.2.2.1, h.2.2.2.1, h.2.2.2.2⟩

def openHere : State := holding [entry 1 .opened] running
def full : State := inContext (context .awaitPersist) (holding (others 32) running)
def throughTable : State := { openHere with wd := { running.wd with live := tableWith 3 } }

theorem test_hyp_PostedWriteMerges :
    openHere.writeTo (arrivalAddr 0x91A true true) posted ∧ openHere.pwb.entries.any (isOpenAt here) = true :=
  ⟨writeTo_of (by decide) (by decide +kernel), by decide⟩
theorem test_hyp_PostedWriteMerges_entry :
    (entry 1 .opened).state = .opened ∧ (entry 1 .opened).bytes.length = 16 ∧ emptyLine.length = 16 ∧
      (∀ k < 16, (byteAt ((entry 1 .opened).merge (List.replicate 16 (some 0))).bytes k).isSome = true) ∧
      (∃ k < 16, byteAt ((entry 1 .opened).merge emptyLine).bytes k = none) := by decide +kernel
theorem test_hyp_PostedWriteAllocates :
    running.writeTo (arrivalAddr 0x91A true true) posted ∧ running.pwb.entries.any (isOpenAt here) = false ∧
      running.pwb.entries.length < 32 ∧ (holding (others 31) running).pwb.entries.length < 32 :=
  ⟨writeTo_of (by decide) (by decide +kernel), by decide, by decide, by decide⟩
theorem test_hyp_PostedWriteAllocates_waits :
    full.writeTo (arrivalAddr 0x91A true true) posted ∧ firstDue followSteps full = none ∧
      full.pwb.entries.any (isOpenAt here) = false ∧ 32 ≤ full.pwb.entries.length :=
  ⟨writeTo_of (by decide) (by decide +kernel), by decide +kernel, by decide +kernel, by decide⟩
/-- With one entry and with 31, and with 32 in use. -/
theorem test_hyp_WriteThroughHeld (n : Nat) (h : n = 1 ∨ n = 31 ∨ n = 32) :
    let s := holding (others n) throughTable
    s.writeTo (arrivalAddr 0x91A true true) ⟨here, .writeThrough⟩ ∧ s.pwb.entries.length = n := by
  rcases h with rfl | rfl | rfl <;> exact ⟨writeTo_of (by decide) (by decide +kernel), by decide⟩
/-- A read of the byte at 0x91A passes its checks. -/
theorem readOf_of {s : State} {x : Decoded} (a : s.alive = true ∧ s.hp.access = none)
    (h : s.sc.state = .run ∧ s.wd.live.decode (arrivalAddr 0x91A true false) = some x ∧
      (s.dev x.loc.dev).takes = true ∧ s.ru.isFailed x.loc.dev x.loc.page = false) :
    s.readOf (arrivalAddr 0x91A true false) x := ⟨a, h.1, h.2.1, h.2.2.1, h.2.2.2⟩

theorem test_hyp_ReadAtOnce_buffer :
    openHere.readOf (arrivalAddr 0x91A true false) posted ∧ firstDue followSteps openHere = none ∧
      ∀ k ∈ lanePositions (arrivalAddr 0x91A true false) true false, (forward openHere.pwb.entries here k).isSome = true :=
  ⟨readOf_of (by decide) (by decide +kernel), by decide +kernel, by decide +kernel⟩
/-- The line is held and the next one is not; with the second list the next one is held too, and no refill is asked for. -/
def ahead (lines : List Nat) : State :=
  { running with rp := { running.rp with
      lines := lines.map (fun k => { loc := { here with line := k }, bytes := List.replicate 16 7 }) } }

theorem test_hyp_ReadAtOnce_hit (l : List Nat) (h : l = [3] ∨ l = [3, 4]) :
    (ahead l).readOf (arrivalAddr 0x91A true false) posted ∧ firstDue followSteps (ahead l) = none ∧
      (∃ k ∈ lanePositions (arrivalAddr 0x91A true false) true false, forward (ahead l).pwb.entries here k = none) ∧
      (ahead l).rp.lines.find? (fun r => r.loc = here) = some { loc := here, bytes := List.replicate 16 7 } ∧
      1 ≤ (ahead l).readAhead ∧ here.line < 15 ∧ ((ahead l).dev .d0).activity = .idle ∧ (ahead l).mp.bus = none ∧
      ((∀ r ∈ (ahead l).rp.lines, r.loc ≠ { here with line := 4 }) ↔ l = [3]) := by
  rcases h with rfl | rfl <;>
    exact ⟨readOf_of (by decide) (by decide +kernel), by decide +kernel, ⟨4, by decide +kernel, by decide +kernel⟩,
      by decide +kernel, by decide +kernel, by decide, by decide, by decide, by decide +kernel⟩
theorem test_hyp_ReadMisses :
    let s : State := { running with rp := { running.rp with
      refill := some here, fetch := some { loc := here, phase := .queued, ahead := 0, asked := false } } }
    s.readOf (arrivalAddr 0x91A true false) posted ∧ s.rp.fetch.map Fetch.phase = some .queued ∧
      (∃ k ∈ lanePositions (arrivalAddr 0x91A true false) true false, forward s.pwb.entries here k = none) ∧
      ∀ l ∈ s.rp.lines, l.loc ≠ here :=
  ⟨readOf_of (by decide) (by decide +kernel), by decide, ⟨4, by decide +kernel, by decide +kernel⟩, by decide⟩
theorem test_hyp_StrobeReleased_complete :
    let s := accessing .write .complete running
    s.alive = true ∧ firstDue followSteps s = none ∧ s.hp.access = some (access .write .complete) ∧
      (access .write .complete).phase = .complete := by decide +kernel
/-- Also for HostLimitsExpire. -/
theorem test_hyp_StrobeReleased_held :
    (accessing .write .heldBuffer full).alive = true ∧ (access .write .heldBuffer).phase = .heldBuffer ∧
      (access .write .heldWt).phase = .heldWt ∧ (access .write .heldBuffer).loc = some here := by decide +kernel
/-- The fault queue with room for one more record, and full. -/
theorem test_hyp_HostLimitsExpire_queue :
    let r : FaultRecord := { kind := .programFail, dev := some .d0, page := some 18, count := none, number := 1 }
    let s (n : Nat) : State := { running with mgp := { running.mgp with faults := List.replicate n r } }
    (s 7).mgp.faults.length < 8 ∧ 8 ≤ (s 8).mgp.faults.length := by decide
/-- A stalled read whose SUSPEND waits, one whose SUSPEND has been sent, and one that holds the suspension. -/
theorem test_hyp_HostLimitsExpire_suspends :
    let asked := { context .suspended with suspendStep := some .asked }
    let held := { context .suspended with suspendStep := some .held }
    let s (c : Ctx) (phase : ReadPhase) : State :=
      working .suspended .engine (inContext c (reading phase (accessing .read .heldRead running)))
    let w := asking [⟨.engine, .d0, .suspend⟩] (s asked .suspendAsked)
    (s asked .suspendAsked).alive = true ∧ (s asked .suspendAsked).hp.access = some (access .read .heldRead) ∧
      (s asked .suspendAsked).rp.host = some (hostRead .suspendAsked) ∧ (s asked .suspendAsked).ctx .d0 = some asked ∧
      w.ctx .d0 = some asked ∧ (∃ q ∈ w.mp.reqs.filter (fun q => q.requester ≠ .hostRead), q.cmd = .suspend ∧ q.dev = .d0) ∧
      (s asked .suspendAsked).mp.reqs = [] ∧ (s held .suspendHeld).rp.host = some (hostRead .suspendHeld) ∧
      (s held .suspendHeld).ctx .d0 = some held ∧ ((s held .suspendHeld).dev .d0).takes = true := by decide +kernel
/-- Also for HostLimitsExpire. -/
theorem test_hyp_StrobeReleased_read :
    let q := reading .queued (accessing .read .heldRead running)
    let t := reading .transfer (accessing .read .heldRead running)
    q.rp.host = some (hostRead .queued) ∧ (hostRead .queued).phase ≠ .transfer ∧
      t.rp.host = some (hostRead .transfer) ∧ (hostRead .transfer).phase = .transfer ∧ t.alive = true := by decide +kernel
/-- A posted write and a write-through one. -/
theorem test_hyp_HeldWritesComplete_pending (wt : Bool) :
    let s : State := { accessing .write .heldBuffer (holding (others 31) running) with
      pwb := { entries := others 31, counter := 31, waiting := some { loc := here, bytes := emptyLine, wt := wt } } }
    s.alive = true ∧ s.pwb.waiting = some { loc := here, bytes := emptyLine, wt := wt } ∧
      s.hp.access = some (access .write .heldBuffer) ∧ s.pwb.entries.length < 32 := by cases wt <;> decide +kernel
theorem test_hyp_HeldWritesComplete_through :
    let s (lost : Bool) : State := { accessing .write .heldWt running with
      fu := { running.fu with wait := some { seq := 7, lost := lost } } }
    (s false).alive = true ∧ (s false).fu.wait = some { seq := 7, lost := false } ∧
      (s true).fu.wait = some { seq := 7, lost := true } ∧ noneAtOrBelow (s true).pwb.entries 7 = true ∧
      (s true).hp.access = some (access .write .heldWt) := by decide +kernel
def fenced (n : Nat) : State :=
  { full with fu := { full.fu with queue := List.replicate n { marker := 32, weight := 255, lost := false } } }

theorem test_hyp_FenceArrives :
    running.alive = true ∧ noneAtOrBelow running.pwb.entries running.pwb.counter = true ∧
      noneAtOrBelow full.pwb.entries full.pwb.counter = false ∧ (fenced 3).fu.queue.length < 4 ∧
      (fenced 4).fu.queue = List.replicate 3 { marker := 32, weight := 255, lost := false } ++
        [{ marker := 32, weight := 255, lost := false }] ∧ 4 ≤ (fenced 4).fu.queue.length ∧
      noneAtOrBelow (fenced 4).pwb.entries (fenced 4).pwb.counter = false := by decide +kernel
/-- For FenceArrives, Commits, RestartAndRetire and PortRequests, without a transaction and in one. -/
theorem test_hyp_takesRequest :
    let writing : State := { running with mgp := { running.mgp with tx := .writing, index := 0x0C } }
    running.takesRequest ∧ firstDue followSteps running = none ∧ writing.takesRequest ∧
      firstDue followSteps writing = none := by unfold State.takesRequest; decide +kernel
theorem test_hyp_MarkersAndPulses_marker :
    let s : State := { running with fu := { running.fu with queue := [{ marker := 7, weight := 3, lost := true }] } }
    s.alive = true ∧ s.fu.queue = { marker := 7, weight := 3, lost := true } :: [] ∧ noneAtOrBelow s.pwb.entries 7 = true :=
  by decide +kernel
/-- An age list in order from its oldest seq on, over the wrap, and a marker within it and one below it. -/
theorem test_hyp_MarkersAndPulses_order :
    let es := [entry 0xFFFFFFFF .draining, entry 1 .sealed]
    atOrBelow 0xFFFFFFFE 1 = true ∧ (∀ e ∈ es, atOrBelow 0xFFFFFFFE e.seq = true) ∧
      es.Pairwise (fun e f => (e.seq - 0xFFFFFFFE).toNat < (f.seq - 0xFFFFFFFE).toNat) ∧ noneAtOrBelow es 1 = false ∧
      noneAtOrBelow es 0xFFFFFFFE = true := by decide +kernel
theorem test_hyp_MarkersAndPulses_pulse :
    let high : State := { running with fu := { running.fu with high := true, owed := 1 } }
    let low : State := { running with fu := { running.fu with owed := 2, levelTime := 0 } }
    high.alive = true ∧ firstDue followSteps high = none ∧ high.fu.high = true ∧ low.fu.high = false ∧ 0 < low.fu.owed ∧
      firstDue followSteps low = none ∧ running.fu.high = false ∧ running.fu.owed = 0 ∧ firstDue followSteps running = none :=
  by decide +kernel
/-- A choice made by class, one made by the starvation guard (R138), and none. -/
theorem test_hyp_ArbiterChoice :
    let host : Request := ⟨.hostRead, .d0, .read 18 3 1⟩
    let drain : Request := ⟨.engine, .d0, .programMasked 18 []⟩
    let guarded : State := { asking [host, drain] running with mp := { (asking [host, drain] running).mp with starve := 8 } }
    (asking [drain, host] running).choice = some host ∧ guarded.choice = some drain ∧ running.choice = none :=
  by decide +kernel
theorem test_hyp_GrantStartsTransfer :
    let drain : Request := ⟨.engine, .d0, .programMasked 18 []⟩
    let host : Request := ⟨.hostRead, .d0, .read 18 3 1⟩
    let s := reading .queued (accessing .read .heldRead (asking [host] running))
    (asking [drain] running).mp.bus = none ∧ (asking [drain] running).choice = some drain ∧
      drain.requester ≠ .hostRead ∧ drain.requester ≠ .fetch ∧ drain.requester ≠ .refill ∧ s.alive = true ∧
      s.choice = some host ∧ s.rp.host = some (hostRead .queued) ∧ (hostRead .queued).phase ≠ .suspendHeld ∧
      s.ru.isFailed .d0 18 = false ∧ (failedHere s).choice = some host ∧ (failedHere s).ru.isFailed .d0 18 = true ∧
      (failedHere s).hp.access = some (access .read .heldRead) := by decide +kernel
/-- The first read of a suspension; an unfinished fetch and a refill, of a page in use and of a FAILED one. -/
theorem test_hyp_GrantStartsTransfer_reads :
    let host : Request := ⟨.hostRead, .d0, .read 18 3 1⟩
    let fetch : Request := ⟨.fetch, .d0, .read 18 3 2⟩
    let refill : Request := ⟨.refill, .d0, .read 18 4 1⟩
    let c := { context .suspended with suspendStep := some .held }
    let held := asking [host] (working .suspended .engine (inContext c (reading .suspendHeld running)))
    let f (phase : ReadPhase) : Fetch := { loc := here, phase := phase, ahead := 1, asked := false }
    let s (phase : ReadPhase) : State := { asking [fetch] running with rp := { running.rp with fetch := some (f phase) } }
    let heldFetch : State := { asking [fetch] (working .suspended .engine (inContext c running)) with
      rp := { running.rp with fetch := some (f .suspendHeld) } }
    let r : State := { asking [refill] running with rp := { running.rp with refill := some { here with line := 4 } } }
    held.alive = true ∧ held.mp.bus = none ∧ held.choice = some host ∧ held.rp.host = some (hostRead .suspendHeld) ∧
      (s .queued).choice = some fetch ∧ (s .queued).rp.fetch = some (f .queued) ∧
      (s .queued).ru.isFailed .d0 18 = false ∧ heldFetch.choice = some fetch ∧
      heldFetch.rp.fetch = some (f .suspendHeld) ∧ r.choice = some refill ∧ r.ru.isFailed .d0 18 = false ∧
      (failedHere (s .queued)).choice = some fetch ∧ (failedHere (s .queued)).ru.isFailed .d0 18 = true ∧
      (failedHere r).choice = some refill ∧ (failedHere r).rp.refill = some { here with line := 4 } := by decide +kernel
theorem test_hyp_HostReadReturns :
    let s := onBus .hostRead (.read 18 3 1) (reading .transfer (accessing .read .heldRead running))
    s.alive = true ∧ s.mp.bus = some ⟨⟨.hostRead, .d0, .read 18 3 1⟩, 18, false⟩ ∧ (1 : Nat) ≤ 1 ∧
      s.rp.host = some (hostRead .transfer) ∧ s.hp.access = some (access .read .heldRead) ∧
      (hostRead .transfer).positions =
        lanePositions (access .read .heldRead).addr (access .read .heldRead).even (access .read .heldRead).odd :=
  by decide +kernel
/-- The reads that no access waits for: of a fetch, of a refill, of a record that is gone, and of a newer record. -/
theorem test_hyp_HostReadReturns_lines (q : Requester) (s : State) (h : q = .fetch ∧ s = running ∨
      q = .refill ∧ s = running ∨ q = .hostRead ∧ s = running ∨ q = .hostRead ∧ s = reading .queued running) (held : Bool) :
    let c := { context .suspended with suspendStep := some .held }
    let t : Transfer := ⟨⟨q, .d0, .read 18 3 1⟩, 18, held⟩
    let u : State := { inContext c s with mp := { s.mp with bus := some t } }
    u.alive = true ∧ u.mp.bus = some t ∧
      (u.rp.host = none ∨ u.rp.host = some (hostRead .queued) ∧ (hostRead .queued).phase ≠ .transfer) ∧
      u.ctx .d0 = some c ∧ (u.dev .d0).takes = true := by
  refine ⟨?_, rfl, ?_, rfl, ?_⟩ <;> rcases h with ⟨_, rfl⟩ | ⟨_, rfl⟩ | ⟨_, rfl⟩ | ⟨_, rfl⟩ <;>
    first
      | rfl
      | exact .inl rfl
      | exact .inr ⟨rfl, by decide⟩
/-- A read under a suspension that is held. -/
theorem test_hyp_HostReadReturns_suspended :
    let c := { context .suspended with suspendStep := some .held }
    let s := inContext c (working .suspended .engine (reading .transfer (accessing .read .heldRead running)))
    let u : State := { s with mp := { s.mp with bus := some ⟨⟨.hostRead, .d0, .read 18 3 1⟩, 18, true⟩ } }
    u.alive = true ∧ u.mp.bus = some ⟨⟨.hostRead, .d0, .read 18 3 1⟩, 18, true⟩ ∧ u.rp.host = some (hostRead .transfer) ∧
      u.hp.access = some (access .read .heldRead) ∧ u.ctx .d0 = some c ∧ c.phase = .suspended ∧
      c.suspendStep = some .held ∧ (u.dev .d0).takes = true := by decide +kernel
/-- A refill that a withdrawal names, one that it does not name, and none. -/
theorem test_hyp_StatusPolls_refill :
    (refilling running).rp.refill = some { here with line := 4 } ∧ running.rp.refill = none ∧
      (decide (({ here with line := 4 } : Loc).dev = .d0) = true) ∧ decide (({ here with line := 4 } : Loc).dev = .d1) = false := by
  decide +kernel
/-- The end of the transfer that starts a program: of the metadata unit's, with and without a mask, of a batch and of a spare's. -/
theorem test_hyp_StatusPolls_starts :
    let whole : List Byte := List.replicate 256 0
    let m := onBus .mu (.programPage 8188 whole) (refilling running)
    let h := onBus .mu (.programMasked 8182 []) running
    let c := context .programming
    let b := onBus .engine (.programMasked 18 []) (refilling (inContext c running))
    let p : Ctx := { context .retireProgram with candidate := some 8150 }
    let q := onBus .engine (.programPage 8150 whole) (refilling (inContext p running))
    m.alive = true ∧ m.mp.bus.map Transfer.req = some ⟨.mu, .d0, .programPage 8188 whole⟩ ∧ h.alive = true ∧
      h.mp.bus.map Transfer.req = some ⟨.mu, .d0, .programMasked 8182 []⟩ ∧ b.alive = true ∧
      b.mp.bus.map Transfer.req = some ⟨.engine, .d0, .programMasked 18 []⟩ ∧ b.ctx .d0 = some c ∧ c.phase = .programming ∧
      q.alive = true ∧ q.mp.bus.map Transfer.req = some ⟨.engine, .d0, .programPage 8150 whole⟩ ∧ q.ctx .d0 = some p ∧
      p.phase = .retireProgram := by decide +kernel
/-- The end of a DEVICE_RESET transfer of an engine, and of the metadata unit. -/
theorem test_hyp_StatusPolls_resets :
    let r := onBus .engine .deviceReset (working .programming .engine (refilling running))
    let m := onBus .mu .deviceReset (working .programming .mu running)
    r.alive = true ∧ r.mp.bus.map Transfer.req = some ⟨.engine, .d0, .deviceReset⟩ ∧ m.alive = true ∧
      m.mp.bus.map Transfer.req = some ⟨.mu, .d0, .deviceReset⟩ := by decide +kernel
theorem test_hyp_StatusPolls :
    busy.alive = true ∧ busy.mp.bus = some ⟨⟨.port, .d0, .readStatus⟩, 18, false⟩ ∧ (busy.dev .d0).activity = .programming ∧
      (busy.dev .d0).owner = some .engine ∧ busy.waits (isResetOf .d0) = false ∧
      busy.ctx .d0 = some (context .programming) ∧ (context .programming).phase = .programming := by decide +kernel
theorem test_hyp_StatusPolls_due :
    let s := working .programming .engine running
    s.alive = true ∧ (s.dev .d0).poll.isSome = true ∧ s.waits (isPollOf .d0) = false ∧ s.onBus (isPollOf .d0) = false ∧
      (s.dev .d0).takes = true := by decide +kernel
/-- A context of device 0 in a step of a suspend, at the end of a transfer. -/
def suspending (phase : CtxPhase) (step : Option SuspendStep) (sent : Bool) : Ctx :=
  { context phase with suspendStep := step, suspendSent := sent }

theorem test_hyp_Suspensions_transfers :
    let c := suspending .suspended (some .asked) false
    let s := onBus .engine .suspend (working .programming .engine (inContext c running))
    let d := suspending .suspended (some .resuming) true
    let r (x : Ctx) := onBus .engine .resume (working .suspended .engine (inContext x running))
    s.alive = true ∧ s.mp.bus.map Transfer.req = some ⟨.engine, .d0, .suspend⟩ ∧ s.ctx .d0 = some c ∧
      c.phase = .suspended ∧ c.suspendStep = some .asked ∧ (r d).alive = true ∧
      (r d).mp.bus.map Transfer.req = some ⟨.engine, .d0, .resume⟩ ∧ (r d).ctx .d0 = some d ∧
      ((r d).dev .d0).activity = .suspended ∧ d.phase = .suspended ∧ d.suspendStep ≠ some .asked ∧
      (r c).ctx .d0 = some c ∧ (r (context .programming)).ctx .d0 = some (context .programming) ∧
      (context .programming).phase ≠ .suspended := by decide +kernel
/-- A status poll on the bus for each clause of a suspended result: for the metadata unit, and for an engine's context in each of
its cases, with the read that asked and without it. -/
theorem test_hyp_Suspensions_status (c : Ctx) (h : c = suspending .suspended (some .asked) true ∨
      c = suspending .suspended (some .asked) false ∨ c = suspending .programming none true ∨
      c = suspending .programming none false) :
    let s := onBus .port .readStatus (working .programming .engine (inContext c running))
    let m := onBus .port .readStatus (working .programming .mu running)
    s.alive = true ∧ s.mp.bus.map (fun t => (t.req.cmd, t.req.dev)) = some (.readStatus, .d0) ∧
      (s.dev .d0).activity = .programming ∧ s.waits (isResetOf .d0) = false ∧ (s.dev .d0).takes = true ∧
      (s.dev .d0).owner = some .engine ∧ s.ctx .d0 = some c ∧ s.readIn .d0 .suspendAsked = false ∧
      (reading .suspendAsked s).readIn .d0 .suspendAsked = true ∧ (reading .suspendAsked s).ctx .d0 = some c ∧
      (m.dev .d0).owner = some .mu ∧ (m.dev .d0).activity = .programming := by
  rcases h with rfl | rfl | rfl | rfl <;> decide +kernel
/-- R57: a completion that meets a suspend in ASKED, whose SUSPEND waits for its grant, and whose read waits. -/
theorem test_hyp_Suspensions_completed :
    let c := suspending .suspended (some .asked) false
    let s := onBus .port .readStatus (working .programming .engine (inContext c (reading .suspendAsked
      (asking [⟨.engine, .d0, .suspend⟩] running))))
    s.alive = true ∧ s.mp.bus.map (fun t => (t.req.cmd, t.req.dev)) = some (.readStatus, .d0) ∧
      (s.dev .d0).activity = .programming ∧ (s.dev .d0).owner = some .engine ∧ s.waits (isResetOf .d0) = false ∧
      s.ctx .d0 = some c ∧ c.phase = .suspended ∧ c.suspendStep = some .asked := by decide +kernel
/-- A failed batch, a reset that has completed, and the old page's read, which leaves no spare, or 1 or 4 free; each with the engine
told to stop and not. -/
theorem test_hyp_RetirementBegins :
    let s := onBus .port .readStatus (working .programming .engine (inContext (context .programming) running))
    let r := onBus .port .readStatus (working .resetting .engine (inContext (context .resetting) running))
    let q := onBus .engine (.read 18 0 16) (inContext (context .retireRead) running)
    let low : State := { q with ru := { q.ru with free := ⟨[8150, 8151, 8152, 8153, 8154], []⟩ } }
    let spent : State := { q with ru := { q.ru with free := ⟨[], []⟩ } }
    s.alive = true ∧ s.mp.bus.map (fun t => (t.req.cmd, t.req.dev)) = some (.readStatus, .d0) ∧
      (s.dev .d0).activity = .programming ∧ (s.dev .d0).owner = some .engine ∧ s.waits (isResetOf .d0) = false ∧
      s.ctx .d0 = some (context .programming) ∧ (s.dev .d0).takes = true ∧ (s.de.get .d0).stopping = false ∧
      ((toldToStop s).de.get .d0).stopping = true ∧ s.ru.free.get .d0 ≠ [] ∧ (r.dev .d0).activity = .resetting ∧
      (r.dev .d0).owner = some .engine ∧ r.ctx .d0 = some (context .resetting) ∧ (context .resetting).candidate = none ∧
      r.ru.free.get .d0 ≠ [] ∧ q.mp.bus.map Transfer.req = some ⟨.engine, .d0, .read 18 0 16⟩ ∧
      q.ctx .d0 = some (context .retireRead) ∧ q.ru.free.get .d0 = 8150 :: [8151] ∧ [8151].length ≠ 4 ∧
      ((toldToStop q).de.get .d0).stopping = true ∧ (q.de.get .d0).stopping = false ∧ (q.dev .d0).takes = true ∧
      low.ru.free.get .d0 = 8150 :: [8151, 8152, 8153, 8154] ∧ low.alive = true ∧ spent.alive = true ∧
      spent.ru.free.get .d0 = [] := by decide +kernel
/-- A candidate spare's outcome with `n` attempts made, over a table. -/
def trying (n : Nat) (kind : CtxKind) (table : List RemapEntry) : State :=
  let c := { context .retireProgram with
    kind := kind, candidate := some 8153, attempts := n, image := some (List.replicate 256 0) }
  let s := onBus .port .readStatus (working .programming .engine (inContext c running))
  { s with ru := { s.ru with table := table, hold := ⟨some 8153, none⟩ } }

theorem test_hyp_RemapChanges (n : Nat) (kind : CtxKind) (hn : n = 0 ∨ n = 2) (hk : kind = .drain ∨ kind = .retireRequest)
    (table : List RemapEntry) (ht : table = [.failed .d0 3] ∨ table = [.failed .d0 3] ++ .remap .d0 18 8152 :: [] ∨
      table = (List.range 8).map (fun k => .failed .d0 (100 + k))) :
    let s := trying n kind table
    let spent : State := { s with ru := { s.ru with free := ⟨[], []⟩ } }
    let low : State := { s with ru := { s.ru with free := ⟨[8150, 8151, 8152, 8154, 8155], []⟩ } }
    s.alive = true ∧ s.mp.bus.map (fun t => (t.req.cmd, t.req.dev)) = some (.readStatus, .d0) ∧
      (s.dev .d0).activity = .programming ∧ (s.dev .d0).owner = some .engine ∧ s.waits (isResetOf .d0) = false ∧
      s.ctx .d0 = some { context .retireProgram with
        kind := kind, candidate := some 8153, attempts := n, image := some (List.replicate 256 0) } ∧
      s.ru.isFailed .d0 18 = false ∧ (s.dev .d0).takes = true ∧ (s.de.get .d0).stopping = false ∧
      ((toldToStop s).de.get .d0).stopping = true ∧ s.ru.free.get .d0 = 8150 :: [8151] ∧ spent.ru.free.get .d0 = [] ∧
      low.ru.free.get .d0 = 8150 :: [8151, 8152, 8154, 8155] ∧ s.mu.remap.fault = false ∧
      ({ s.mu with remap := { s.mu.remap with fault := true } } : MetadataUnit).remap.fault = true ∧
      (8 ≤ failedCount s.ru.table ∨ failedCount s.ru.table < 8) := by
  rcases hn with rfl | rfl <;> rcases hk with rfl | rfl <;> rcases ht with rfl | rfl | rfl <;> decide +kernel
/-- The reset after a spare's program has run out of its time. -/
theorem test_hyp_RemapChanges_timeout :
    let c : Ctx := { context .resetting with candidate := some 8153, image := some (List.replicate 256 0) }
    let s := onBus .port .readStatus (working .resetting .engine (inContext c running))
    s.alive = true ∧ s.mp.bus.map (fun t => (t.req.cmd, t.req.dev)) = some (.readStatus, .d0) ∧
      (s.dev .d0).activity = .resetting ∧ (s.dev .d0).owner = some .engine ∧ s.ctx .d0 = some c ∧
      c.phase = .resetting ∧ c.candidate = some 8153 := by decide +kernel
/-- R97: RETIRE_PAGE with no free spare and 8 pages FAILED already makes the device WRITE_LOCKED. -/
theorem test_retire_write_locks :
    let table := (List.range 8).map (fun k => RemapEntry.failed .d0 (100 + k))
    let s : State := { running with
      ru := { running.ru with free := ⟨[], []⟩, table := table }, mgp := { running.mgp with arg2 := 18 } }
    (after .retirePage s).mgp.result = .accepted ∧ ((after .retirePage s).dev .d0).state = .writeLocked ∧
      (after .retirePage s).mgp.faults.map FaultRecord.kind = [.deviceWriteLocked] := by decide +kernel
theorem test_hyp_ProgramLimitsExpire_suspend :
    let c := { context .suspended with suspendStep := some .asked, ackTime := some 100 }
    (inContext c running).ctx .d0 = some c ∧ c.phase = .suspended ∧ c.suspendStep = some .asked ∧ c.ackTime.isSome = true ∧
      (inContext c running).alive = true := by decide +kernel
theorem test_hyp_ProgramLimitsExpire_program (c : Ctx)
    (h : c = context .programming ∨ c = context .retireProgram ∨ c = suspending .suspended (some .asked) false) :
    let s := working .programming .engine (inContext c (refilling (reading .suspendAsked running)))
    s.alive = true ∧ s.ctx .d0 = some c ∧ (s.dev .d0).activity = .programming ∧ (s.dev .d0).owner = some .engine ∧
      (s.dev .d0).takes = true ∧ (c.phase = .programming ∨ c.phase = .retireProgram ∨
        c.phase = .suspended ∧ c.suspendStep = some .asked) := by
  rcases h with rfl | rfl | rfl <;> decide +kernel
/-- R60: the time limit of a program whose suspend stands in ASKED gives the suspend up. -/
theorem test_time_limit_in_asked :
    let s := working .programming .engine (inContext (suspending .suspended (some .asked) false) (reading .suspendAsked
      (asking [⟨.engine, .d0, .suspend⟩] running)))
    let t := after (.programTimeLimitExpiry .d0) s
    (t.ctx .d0).map Ctx.phase = some .resetting ∧ t.rp.host.map HostRead.phase = some .queued ∧
      t.waits (isSuspendOf .d0) = false := by decide +kernel
theorem test_hyp_ProgramLimitsExpire_metadata :
    let s := working .programming .mu running
    s.alive = true ∧ (s.dev .d0).activity = .programming ∧ (s.dev .d0).owner = some .mu ∧ (s.dev .d0).takes = true ∧
      s.resetOrdered .d0 = false := by decide +kernel
/-- Device `d` resets for its engine while a read of it is queued or a write to it waits for an entry, in RUN and RESTARTING. -/
theorem test_hyp_ResetDeadlineExpires (d : Dev) (x : OpState) (h : x = .run ∨ x = .restarting) :
    let m : MemoryPort := { running.mp with
      devs := running.mp.devs.set d { online with activity := .resetting, owner := some .engine } }
    let loc : Loc := { here with dev := d }
    let r : HostRead := { hostRead .queued with loc := loc }
    let w : PendingWrite := { loc := loc, bytes := emptyLine, wt := false }
    let q : State := { accessing .read .heldRead (inState x running) with mp := m, rp := { running.rp with host := some r } }
    let p : State := { accessing .write .heldBuffer (inState x running) with
      mp := m, pwb := { entries := others 32, counter := 32, waiting := some w } }
    q.alive = true ∧ (q.dev d).activity = .resetting ∧ (q.dev d).owner ≠ some .probe ∧ q.rp.host = some r ∧
      r.phase ≠ .transfer ∧ q.hp.access = some (access .read .heldRead) ∧ q.pwb.waiting = none ∧ q.mu.op = none ∧
      p.pwb.waiting = some w ∧ p.hp.access = some (access .write .heldBuffer) ∧ p.rp.host = none ∧ p.sc.state = x ∧
      (p.dev d).activity = .resetting := by
  rcases h with rfl | rfl <;> cases d <;> decide +kernel
/-- BOOT, at work on the probe, with what it has settled so far. -/
def probing (settled : PerDev (Option Bool)) (devs : PerDev DevRecord) : State :=
  { inState .boot running with mp := { MemoryPort.reset with devs := devs, probe := some settled } }

/-- The ends of the two DEVICE_RESETs. -/
theorem test_hyp_ProbeRuns_resets (d : Dev) :
    let s := probing ⟨none, none⟩ ⟨DevRecord.reset, DevRecord.reset⟩
    let u : State := { s with mp := { s.mp with bus := some ⟨⟨.probe, d, .deviceReset⟩, 0, false⟩ } }
    u.alive = true ∧ u.mp.probe.isSome = true := by cases d <;> decide +kernel
/-- A ready poll, or the deadline, of each device with the other settled or not. -/
theorem test_hyp_ProbeRuns_settles (d : Dev) (other : Option Bool) :
    let resetting : DevRecord :=
      { DevRecord.reset with activity := .resetting, owner := some .probe, poll := some 3, resetDeadline := some 9 }
    let p := (⟨other, other⟩ : PerDev (Option Bool)).set d none
    let s := probing p ((⟨DevRecord.reset, DevRecord.reset⟩ : PerDev DevRecord).set d resetting)
    let u : State := { s with mp := { s.mp with bus := some ⟨⟨.port, d, .readStatus⟩, 0, false⟩ } }
    u.alive = true ∧ (u.dev d).activity = .resetting ∧ (u.dev d).owner = some .probe ∧ u.mp.probe = some p ∧
      (s.dev .d0).takes = false := by
  cases d <;> rcases other with _ | _ | _ <;> decide +kernel
/-- An IDENTIFY of each device, with device 0 ONLINE and not. -/
theorem test_hyp_ProbeRuns_identify (d : Dev) (found : Bool) :
    let p : PerDev (Option Bool) := ⟨some true, some (decide (d = .d0))⟩
    let s := probing p ⟨if found then online else DevRecord.reset, DevRecord.reset⟩
    let u : State := { s with mp := { s.mp with bus := some ⟨⟨.probe, d, .identify⟩, 0, false⟩ } }
    u.alive = true ∧ u.mp.probe = some p ∧ (u.dev .d0).takes = found := by cases d <;> cases found <;> decide +kernel
theorem test_hyp_DrainGather :
    let s := holding [entry 1 .sealed, entry 2 .opened] running
    s.alive = true ∧ s.ctx .d0 = none ∧ (s.dev .d0).takes = true ∧ (s.dev .d0).activity = .idle ∧ s.sc.state = .run ∧
      s.pwb.entries.find? (fun x => x.loc.dev = .d0 && x.state = .sealed) = some (entry 1 .sealed) ∧
      s.ru.isFailed .d0 18 = false ∧ (failedHere s).ru.isFailed .d0 18 = true ∧
      (∀ x ∈ s.pwb.entries, x.loc.dev = .d0 → x.state ≠ .draining) ∧
      (∀ x ∈ s.pwb.entries, x.loc.dev = .d0 ∧ x.loc.page = 18 ∧ x.bytes.length = 16) := by decide +kernel
theorem test_hyp_PersistEndsContext :
    let c := { context .awaitPersist with awaited := some 3 }
    let s : State := { inContext c running with ru := { running.ru with reported := some 3 } }
    s.alive = true ∧ s.ctx .d0 = some c ∧ c.phase = .awaitPersist ∧ c.awaited = some 3 ∧ s.ru.reported = some 3 ∧
      atOrBelow 3 3 = true ∧ s.ru.isFailed .d0 c.home = false ∧ c.kind = .drain ∧
      ({ c with kind := .retireRequest } : Ctx).kind = .retireRequest ∧ (failedHere s).ru.isFailed .d0 c.home = true :=
  by decide +kernel
theorem test_hyp_MetadataWorkStarts_persist :
    let pending (b c : Bool) : State := { running with mu := { running.mu with
      remap := { running.mu.remap with pending := b }, config := { running.mu.config with pending := c } } }
    let r := pending true true
    let c := pending false true
    r.alive = true ∧ r.mu.op = none ∧ r.mu.waiting = none ∧ (r.dev .d0).takes = true ∧ r.sc.state = .run ∧
      r.mu.remap.pending = true ∧ r.mu.remap.fault = false ∧ (c.mu.remap.pending && !c.mu.remap.fault) = false ∧
      c.mu.config.pending = true ∧ c.mu.config.fault = false ∧ c.alive = true ∧ c.mu.op = none := by decide +kernel
/-- With the dump plan, and at boot, where there is none. -/
theorem test_hyp_MetadataWorkStarts_write :
    let asked (x : OpState) (w : ScWrite) : State := { inState x running with mu := { running.mu with waiting := some w } }
    let s : State := { asked .dumping (.dumpPage 0) with
      sc := { (inState .dumping running).sc with plan := some ⟨dumpRecords [entry 1 .sealed] 1, .dumpPage 0⟩ } }
    let b := asked .boot .toClean
    s.alive = true ∧ s.mu.op = none ∧ s.mu.waiting = some (.dumpPage 0) ∧ (s.dev .d0).takes = true ∧
      s.sc.plan = some ⟨dumpRecords [entry 1 .sealed] 1, .dumpPage 0⟩ ∧ b.alive = true ∧ b.mu.op = none ∧
      b.mu.waiting = some .toClean ∧ (b.dev .d0).takes = true ∧ b.sc.plan = none := by decide +kernel
/-- The metadata unit's program has run: its poll is on the bus. -/
def polled (op : MuOp) (x : OpState) : State :=
  let s := onBus .port .readStatus (working .programming .mu (inState x running))
  { s with mu := { s.mu with op := some op } }

/-- What PersistOutcomes, WriteOutcomes and HeaderReports ask of every state they name. -/
def polledWell (op : MuOp) (x : OpState) : Bool :=
  let s := polled op x
  s.alive && s.mp.bus.map (fun t => (t.req.cmd, t.req.dev)) == some (.readStatus, .d0) &&
    (s.dev .d0).activity == .programming && (s.dev .d0).owner == some .mu && (s.dev .d0).takes &&
    !s.waits (isResetOf .d0) && s.mu.op == some op && s.ctx .d0 == none && s.ctx .d1 == none

theorem test_hyp_PersistOutcomes :
    let p (sn : Snapshot) (attempt part : Nat) (stopping : Bool) : Persist :=
      { snapshot := sn, change := 1, gen := 5, target := .b, attempt := attempt, part := part, stopping := stopping }
    let second := polled (.persist (p (.config (Table.default true)) 2 0 false)) .restarting
    polledWell (.persist (p (.remap []) 1 1 false)) .run = true ∧
      polledWell (.persist (p (.remap []) 1 0 false)) .run = true ∧
      polledWell (.persist (p (.config (Table.default true)) 2 0 false)) .run = true ∧
      running.mu.config.isBad .a = false ∧ ({ running.mu.config with badA := true } : SlotStatus).isBad .a = true ∧
      polledWell (.persist (p (.config (Table.default true)) 2 0 false)) .restarting = true ∧
      second.sc.state = .restarting ∧ polledWell (.persist (p (.remap []) 1 0 true)) .replay = true := by decide +kernel
/-- Every write, first and second attempt, in the state that asks for it and in STOPPED. -/
theorem test_hyp_WriteOutcomes (w : ScWrite) (x : OpState) (n : Nat) (hn : n = 1 ∨ n = 2)
    (h : w = .dumpPage 0 ∧ x = .dumping ∨ w = .dumpPage 3 ∧ x = .dumping ∨ w = .toValid ∧ x = .dumping ∨
      w = .toClean ∧ (x = .boot ∨ x = .replay ∨ x = .dumped ∨ x = .stopped)) : polledWell (.write w n) x = true := by
  rcases hn with rfl | rfl <;> rcases h with ⟨rfl, rfl⟩ | ⟨rfl, rfl⟩ | ⟨rfl, rfl⟩ | ⟨rfl, rfl | rfl | rfl | rfl⟩ <;>
    decide +kernel
theorem test_hyp_WriteOutcomes_pfail :
    let plan : DumpPlan := ⟨dumpRecords (others 12) 1, .dumpPage 0⟩
    let s (pfail : Bool) (header : HeaderView) : State := { polled (.write (.dumpPage 0) 1) .dumping with
      sc := { (inState .dumping running).sc with plan := some plan, pfail := pfail, header := some header } }
    (s true .clean).sc.plan = some plan ∧ (s true .clean).sc.pfail = true ∧ (s false .openDump).sc.pfail = false ∧
      (s false .openDump).sc.header ≠ some .clean ∧ (s true .clean).heldPhase = none := by decide +kernel
/-- Back from DUMPED with PFAIL asserted again: without a context, and with one that is STOPPED. -/
theorem test_hyp_WriteOutcomes_holdup (d : Dev) (c : Ctx) :
    let s : State := { polled (.write .toClean 1) .dumped with
      sc := { (inState .dumped running).sc with header := some .valid, pfail := true } }
    let u := inContext { context .stopped with before := some .programming } s
    u.alive = true ∧ u.mu.op = some (.write .toClean 1) ∧ u.sc.state = .dumped ∧ u.sc.pfail = true ∧ u.heldPhase = none ∧
      (s.ctx d = some c → c.phase = .stopped) ∧ (u.ctx d = some c → c.phase = .stopped) := by
  refine ⟨by decide +kernel, by decide +kernel, by decide +kernel, by decide +kernel, by decide +kernel, ?_, ?_⟩
  · cases d <;> exact fun h => nomatch h
  · cases d
    · exact fun h => Option.some.inj h ▸ rfl
    · exact fun h => nomatch h
/-- At boot, the metadata unit's read of a page is on the bus. -/
def booting (op : MuOp) (page line n : Nat) : State :=
  let s := onBus .mu (.read page line n) (inState .boot running)
  { s with mu := { s.mu with op := some op } }

theorem test_hyp_Loads :
    let s := booting (.load []) 8186 0 16
    let a := padTo 256 (recordBytes .config 4 (Table.default true).toBytes)
    let b := padTo 256 (recordBytes .config 5 (Table.default true).toBytes)
    let u := booting (.load [a, b, [], [], []]) 8191 0 16
    s.alive = true ∧ s.mp.bus.map Transfer.req = some ⟨.mu, .d0, .read 8186 0 16⟩ ∧ s.sc.state = .boot ∧
      s.mu.op = some (.load []) ∧ (s.dev .d0).takes = true ∧ u.alive = true ∧
      u.mp.bus.map Transfer.req = some ⟨.mu, .d0, .read 8191 0 16⟩ ∧ u.mu.op = some (.load [a, b, [], [], []]) ∧
      configOfSlot a = some (Table.default true) ∧ configOfSlot b = some (Table.default true) ∧
      recordGen b - recordGen a ≠ 0x80000000 ∧ configOfSlot [] = none ∧ remapOfSlot [] = none := by decide +kernel
/-- The bytes that the CRC of a remap record with one FAILED entry covers (R141, R190). -/
def covered : List Byte := le16 0xD7A1 ++ le32 4 ++ le16 432 ++ remapBody [.failed .d0 3]

/-- The CRC of those bytes, taken in parts: the kernel's recursion is as deep as a part is long. -/
theorem covered_crc : crc32 covered = 652298709 := by
  have parts : covered = covered.take 88 ++ (List.replicate 88 0 ++ (List.replicate 88 0 ++ (List.replicate 88 0 ++
      List.replicate 88 0))) := by decide +kernel
  have h1 : (covered.take 88).foldl crcByte 0xFFFFFFFF = 1739358616 := by decide +kernel
  have h2 : (List.replicate 88 (0 : Byte)).foldl crcByte 1739358616 = 3597335495 := by decide +kernel
  have h3 : (List.replicate 88 (0 : Byte)).foldl crcByte 3597335495 = 488808310 := by decide +kernel
  have h4 : (List.replicate 88 (0 : Byte)).foldl crcByte 488808310 = 2609841393 := by decide +kernel
  have h5 : (List.replicate 88 (0 : Byte)).foldl crcByte 2609841393 = 3642668586 := by decide +kernel
  rw [parts]
  simp only [crc32, List.foldl_append, h1, h2, h3, h4, h5]
  decide
/-- A remap slot that holds the record. -/
def remapSlot : List Byte := padTo 512 (recordBytes .remap 4 (remapBody [.failed .d0 3]))
theorem slot_eq : remapSlot =
    padTo 512 (covered.take 8 ++ le32 (BitVec.toNat (652298709 : Word32)) ++ remapBody [.failed .d0 3]) :=
  congrArg (fun c => padTo 512 (covered.take 8 ++ le32 (BitVec.toNat c) ++ remapBody [.failed .d0 3])) covered_crc
theorem slot_body : (remapSlot.drop 12).take 432 = remapBody [.failed .d0 3] := by rw [slot_eq]; decide +kernel
theorem slot_sum : remapSlot.take 8 ++ remapBody [.failed .d0 3] = covered := by rw [slot_eq]; decide +kernel
theorem slot_head : (field remapSlot 0 2 = Kind.remap.code ∧ field remapSlot 6 2 = Kind.remap.bodyLength) ∧
    field remapSlot 8 4 = BitVec.toNat (652298709 : Word32) := by
  rw [slot_eq]; decide +kernel
theorem slot_of : remapOfBody (remapBody [.failed .d0 3]) = some [.failed .d0 3] := by decide +kernel
theorem slot_read (b body : List Byte) (l : List RemapEntry)
    (h : field b 0 2 = Kind.remap.code ∧ field b 6 2 = Kind.remap.bodyLength) (hb : (b.drop 12).take 432 = body)
    (hc : field b 8 4 = (crc32 (b.take 8 ++ body)).toNat) (hl : remapOfBody body = some l) : remapOfSlot b = some l := by
  have hb' : (b.drop 12).take Kind.remap.bodyLength = body := hb
  simp only [remapOfSlot, recordBody]
  rw [if_pos h, hb', if_pos hc]
  exact hl
theorem test_hyp_Loads_remap :
    remapOfSlot remapSlot = some [.failed .d0 3] ∧ recordGen remapSlot - recordGen remapSlot ≠ 0x80000000 := by
  refine ⟨slot_read remapSlot (remapBody [.failed .d0 3]) _ slot_head.1 slot_body ?_ slot_of, ?_⟩
  · rw [slot_sum, covered_crc]
    exact slot_head.2
  · rw [BitVec.sub_self]
    decide
/-- A header read of each report, and a page of records. -/
theorem test_hyp_HeaderReports :
    let h := booting .headerRead 8182 0 2
    let one := dumpRecords [entry 1 .sealed] 1
    let crc := dumpCrc one
    let r := booting (.recordRead 1 crc [] 0) 8182 2 14
    let read := dumpPageRead 0 ((dumpPageBytes one 0).drop 32)
    h.alive = true ∧ h.mp.bus.map Transfer.req = some ⟨.mu, .d0, .read 8182 0 2⟩ ∧ h.sc.state = .boot ∧
      (h.dev .d0).takes = true ∧ h.ctx .d0 = none ∧ h.ctx .d1 = none ∧ h.mu.op = some .headerRead ∧
      field (headerBytes validCode 1 crc) 0 4 = 0x6D2B0003 ∧ field (headerBytes validCode 1 crc) 4 1 = 1 ∧
      field (headerBytes cleanCode 0 0) 0 4 = 0x6D2B0001 ∧ field (headerBytes openCode 0 0) 0 4 = 0x6D2B0002 ∧
      r.mu.op = some (.recordRead 1 crc [] 0) ∧ 1 < 10 * (0 + 1) ∧ 10 * (0 + 1) ≤ 12 ∧ 10 * (2 + 1) ≤ 30 ∧
      r.recordsReport 1 crc read = .validGood one ∧ r.recordsReport 1 (crc + 1) read = .validBad := by decide +kernel
theorem test_hyp_PfailAsserted :
    let held := accessing .write .heldBuffer running
    running.alive = true ∧ running.pins.pfail = false ∧ running.sc.state = .run ∧ running.heldPhase = none ∧
      held.hp.access = some (access .write .heldBuffer) ∧ (access .write .heldBuffer).phase ≠ .complete ∧
      (inState .dumped running).sc.state = .dumped := by decide +kernel
/-- REPLAY with a context that stops, one that goes on, and a persist with its program waiting and granted. -/
theorem test_hyp_PfailAsserted_replay :
    let p : Persist :=
      { snapshot := .remap [], change := 1, gen := 5, target := .b, attempt := 1, part := 0, stopping := false }
    let c := { context .programming with started := false }
    let reqs : List Request := [⟨.engine, .d0, .programMasked 18 []⟩, ⟨.mu, .d0, .programPage 8190 []⟩]
    let s := asking reqs (inContext c (inState .replay running))
    let m : State := { s with mu := { s.mu with op := some (.persist p) } }
    m.alive = true ∧ m.pins.pfail = false ∧ m.sc.state = .replay ∧ (inState .boot running).sc.state = .boot ∧
      m.ctx .d0 = some c ∧ c.phase = .programming ∧ c.started = false ∧
      (∃ q ∈ m.mp.reqs, q.requester = .engine ∧ q.dev = .d0) ∧ m.mu.op = some (.persist p) ∧
      (∃ q ∈ m.mp.reqs, q.requester = .mu ∧ q.dev = .d0 ∧ q.cmd ≠ .deviceReset) ∧ (asking [] m).ctx .d0 = some c ∧
      (asking [] m).mp.reqs = [] ∧ (inContext (context .awaitPersist) m).ctx .d0 = some (context .awaitPersist) ∧
      (inState .run m).sc.state = .run ∧ (inState .run m).mu.op = some (.persist p) ∧
      (∀ q ∈ (inState .run m).mp.reqs, q.requester = .mu → q.cmd ≠ .suspend) := by
  decide +kernel
/-- RUN with an access held in each phase, and with what the clauses of the read path and of the contexts name. -/
theorem test_hyp_PfailAsserted_run :
    let suspended (step : SuspendStep) : Ctx := { context .suspended with suspendStep := some step }
    let s (r : ReadPhase) (c : Ctx) (l : List Request) : State := asking l (reading r (inContext c running))
    let ask : Request := ⟨.engine, .d0, .suspend⟩
    let a := s .suspendAsked (suspended .asked) [ask]
    let fetches : State := { running with rp := { running.rp with fetch := some ⟨here, .suspendHeld, 0, true⟩ } }
    (access .write .heldWt).phase ≠ .complete ∧ (accessing .write .heldWt running).hp.access = some (access .write .heldWt) ∧
      a.alive = true ∧ a.pins.pfail = false ∧ a.sc.state = .run ∧ (inState .restarting running).sc.state = .restarting ∧
      a.rp.host = some (hostRead .suspendAsked) ∧ (hostRead .suspendAsked).loc.dev = .d0 ∧
      a.ctx .d0 = some (suspended .asked) ∧ (suspended .asked).started = true ∧ a.mp.reqs = [ask] ∧ ask.cmd = .suspend ∧
      (s .suspendAsked (suspended .asked) []).mp.reqs = [] ∧ (a.dev .d0).takes = true ∧
      (s .suspendHeld (suspended .held) []).ctx .d0 = some (suspended .held) ∧
      fetches.rp.fetch = some ⟨here, .suspendHeld, 0, true⟩ ∧ (inContext (context .retireRead) a).ctx .d0 ≠ none ∧
      (context .retireRead).phase ≠ .suspended ∧ (inContext (suspended .resuming) running).rp.host = none ∧
      running.rp.fetch = none ∧ a.ctx .d1 = none ∧ running.mu.op = none ∧
      ((⟨.port, .d0, .readStatus⟩ : Request).requester = .port ∧ (⟨.port, .d0, .readStatus⟩ : Request).cmd ≠ .suspend) := by
  decide +kernel
def warned (x : OpState) : State :=
  { inState x running with
    pins := { running.pins with pfail := true }, sc := { (inState x running).sc with pfail := true } }

theorem test_hyp_PfailReleased :
    (warned .dumped).alive = true ∧ (warned .dumped).pins.pfail = true ∧ (warned .dumped).sc.state = .dumped ∧
      (warned .dumped).sc.returnWrite = false ∧ (warned .dumped).sc.header = some .clean ∧ (warned .holdup).sc.state = .holdup ∧
      ({ (warned .dumped).sc with header := some .valid } : StateController).header ≠ some .clean := by decide +kernel
/-- A STOPPED context of each phase before stop, with and without a persist to come for its page, and one that is not STOPPED. -/
theorem test_hyp_PfailReleased_resume (b : CtxPhase) :
    let c : Ctx := { context .stopped with before := some b, candidate := some 8150, image := some (List.replicate 256 0) }
    let s := inContext c (warned .dumped)
    let r := inContext { context .stopped with before := some .retireRead } (warned .dumped)
    let faulty : State := { s with mu := { s.mu with remap := { s.mu.remap with fault := true } } }
    s.ctx .d0 = some c ∧ c.phase = .stopped ∧ c.before = some b ∧ (s.dev .d0).takes = true ∧ c.candidate = some 8150 ∧
      c.image = some (List.replicate 256 0) ∧ s.ctx .d1 = none ∧ (context .stopped).image = none ∧
      (context .stopped).attempts < 3 ∧ r.ru.free.get .d0 ≠ [] ∧
      ({ r with ru := { r.ru with free := ⟨[], []⟩ } } : State).ru.free.get .d0 = [] ∧ s.ru.isFailed .d0 c.home = false ∧
      (failedHere s).ru.isFailed .d0 c.home = true ∧ s.mu.remap.fault = false ∧
      (failedHere faulty).ru.isFailed .d0 c.home = true ∧ (failedHere faulty).mu.remap.fault = true ∧
      (context .programming).phase ≠ .stopped := by
  refine ⟨rfl, rfl, rfl, ?_, rfl, rfl, rfl, ?_, ?_, ?_, rfl, ?_, ?_, ?_, ?_, ?_, ?_⟩ <;> first | rfl | decide +kernel
/-- R67: a batch program of a STOPPED context is requested again when the part returns to RUN. -/
theorem test_resume_programs_again :
    ((after .pfailRelease (inContext { context .stopped with before := some .programming } (warned .dumped))).ctx .d0).map
      (fun c => (c.phase, c.started, c.before)) = some (.programming, false, none) := by decide +kernel
/-- STOPPED: quiet, and with a transfer on the bus. -/
theorem test_hyp_PfailReleased_stopped :
    let b := onBus .mu (.read 8186 0 16) (warned .stopped)
    (warned .stopped).alive = true ∧ (warned .stopped).pins.pfail = true ∧ (warned .stopped).quiet = true ∧
      firstDue followSteps (warned .stopped) = none ∧ b.alive = true ∧ b.quiet = false ∧
      firstDue followSteps b = none := by decide +kernel
theorem test_hyp_StateEnds_holdup :
    let e := holding (others 2) (warned .holdup)
    (warned .holdup).alive = true ∧ (warned .holdup).sc.state = .holdup ∧ (warned .holdup).quiet = true ∧
      (warned .holdup).sc.pfail = true ∧ (warned .holdup).pwb.entries = [] ∧ e.quiet = true ∧ e.pwb.entries ≠ [] ∧
      (e.dev .d0).takes = true ∧
      (({ e with mp := { e.mp with devs := ⟨{ online with state := .offline }, online⟩ } } : State).dev .d0).takes = false :=
  by decide +kernel
theorem test_hyp_StateEnds :
    (inState .stopped running).alive = true ∧ (inState .stopped running).quiet = true ∧
      (inState .stopped running).sc.pfail = false ∧ (inState .restarting running).pwb.entries = [] ∧
      (inState .restarting running).mu.op = none ∧ (inState .restarting running).mu.config.pending = false ∧
      (inState .restarting running).mu.remap.pending = false ∧ (inState .replay running).mu.waiting = none :=
  by decide +kernel
theorem test_hyp_Commits :
    running.commitRefusal = none ∧ running.heldPhase = none ∧ (accessing .write .heldBuffer running).commitRefusal = none ∧
      (accessing .write .heldBuffer running).heldPhase ≠ none ∧ (inState .halted running).sc.state ≠ .run ∧
      ({ running with mgp := { running.mgp with staged := tableWith 7 } } : State).commitRefusal = some .invalidArgument ∧
      ({ running with wd := { running.wd with image := some (tableWith 1) } } : State).wd.image = some (tableWith 1) :=
  by decide +kernel
/-- Two windows: a host range too high, a device that is ABSENT, host ranges that meet, and memory ranges that meet. -/
theorem test_hyp_Commits_checks :
    let w (dev : Byte) (host size mem : Half) : WindowRecord :=
      { flags := 1, device := dev, hostBase := host, size := size, memBase := mem }
    let staging (l : List WindowRecord) : State :=
      { running with mgp := { running.mgp with staged := { Table.default true with windows := l } } }
    let absent (s : State) : State := { s with mp := { s.mp with devs := ⟨online, DevRecord.reset⟩ } }
    (staging [w 0 0 8 0, w 1 32765 8 0]).commitRefusal = some .hostRange ∧
      (staging [w 0 0 8 0, w 1 8 8 8153]).commitRefusal = some .memoryRange ∧
      (absent (staging [w 0 0 8 0, w 1 8 8 0])).commitRefusal = some .deviceAbsent ∧
      (staging [w 0 0 8 0, w 1 7 8 0]).commitRefusal = some .hostOverlap ∧
      (staging [w 0 0 8 0, w 0 8 8 7]).commitRefusal = some .memoryOverlap := by decide +kernel
theorem test_hyp_RestartAndRetire :
    let asks (dev : Byte) (page : Half) : State := { running with mgp := { running.mgp with arg1 := dev, arg2 := page } }
    let s := asks 0 18
    let spent : State := { s with ru := { s.ru with free := ⟨[], []⟩ } }
    let faulty : State := { s with mu := { s.mu with remap := { s.mu.remap with fault := true } } }
    running.metadataFault = false ∧ (inState .halted running).sc.state ≠ .run ∧
      firstDue followSteps (inState .halted running) = none ∧ s.sc.state = .run ∧ s.mgp.arg1 = 0 ∧
      s.mgp.arg2.toNat < 8150 ∧ (s.dev .d0).state = .online ∧ s.mu.remap.fault = false ∧
      s.ru.isFailed .d0 s.mgp.arg2.toNat = false ∧ s.ctx .d0 = none ∧ (s.de.get .d0).stopping = false ∧
      s.ru.free.get .d0 ≠ [] ∧ spent.ru.free.get .d0 = [] ∧ faulty.metadataFault = true ∧ firstDue followSteps faulty = none ∧
      (asks 2 0).mgp.arg1 ≠ 0 ∧ (asks 2 0).mgp.arg1 ≠ 1 ∧ 8150 ≤ (asks 0 8150).mgp.arg2.toNat ∧
      8160 ≤ (asks 1 8160).mgp.arg2.toNat ∧ firstDue followSteps (asks 2 0) = none ∧
      firstDue followSteps (inContext (context .awaitPersist) s) = none ∧
      (inContext (context .awaitPersist) s).ctx .d0 ≠ none := by decide +kernel
/-- The codes that name no request; the state is that of test_hyp_takesRequest. -/
theorem test_hyp_PortRequests :
    (0 : Byte) = 0 ∧ 8 < (9 : Byte).toNat := by decide
theorem test_hyp_PortRequests_busy :
    let s : State := { accessing .write .heldWt running with
      wd := { running.wd with image := some (tableWith 1) }
      mgp := { running.mgp with inHand := true } }
    s.alive = true ∧ firstDue followSteps s = none ∧ s.mgp.inHand = true := by decide +kernel
def writingAt (i : Byte) : State := { running with mgp := { running.mgp with tx := .writing, index := i } }
def readingAt (i : Byte) (l : List Capture) : State :=
  { running with mgp := { running.mgp with tx := .reading, index := i, captures := l } }

theorem test_hyp_MapWrites :
    firstDue followSteps running = none ∧ firstDue followSteps (writingAt 0x09) = none ∧ (writingAt 0x09).mgp.tx = .writing ∧
      (writingAt 0x0A).mgp.index = 0x0A ∧ (writingAt 0x0B).mgp.index = 0x0B ∧ 0x60 ≤ (writingAt 0xA5).mgp.index.toNat ∧
      (writingAt 0xA5).mgp.index.toNat ≤ 0xA5 ∧ (writingAt 0xA5).mgp.staged.windows.length = 8 ∧
      (writingAt 0x06).mgp.index.toNat < 0x07 ∧ 0xA5 < (writingAt 0xA6).mgp.index.toNat ∧
      (0x0D ≤ (writingAt 0x0D).mgp.index.toNat ∧ (writingAt 0x0D).mgp.index ≠ 0x0F ∧ (writingAt 0x0D).mgp.index.toNat < 0x60) :=
  by decide +kernel
/-- The bytes of a request code, of the event flags, of the enables and of the remap view index, in a write transaction. -/
theorem test_hyp_MapWrites_fields (i : Byte) (h : i = 0x07 ∨ i = 0x08 ∨ i = 0x0C ∨ i = 0x0F) :
    (writingAt i).alive = true ∧ firstDue followSteps (writingAt i) = none ∧ (writingAt i).mgp.tx = .writing ∧
      (writingAt i).mgp.index = i := by
  rcases h with rfl | rfl | rfl | rfl <;> decide +kernel
/-- R176: a RESTART request that ends in a cold reset at once is acknowledged, and its transaction goes on. -/
theorem test_restart_byte_acknowledged :
    let t := after (.mapByteWrite 3) (writingAt 0x0C)
    t.mgp.acked = true ∧ t.mgp.tx = .writing ∧ t.mgp.index = 0 ∧ t.sc.state = .boot := by decide +kernel
theorem test_hyp_Transactions :
    (0x74 : Byte).extractLsb' 1 7 = running.mgp.target ∧ (0x76 : Byte).extractLsb' 1 7 ≠ running.mgp.target ∧
      ({ running.mgp with tx := .writeIndex } : ManagementPort).tx = .writeIndex ∧
      firstDue followSteps (readingAt 0x18 []) = none ∧ (readingAt 0x18 []).mgp.tx = .reading ∧
      snapshotField 0x02 = none ∧ snapshotField 0x18 = some (0x18, 10) ∧ snapshotField 0x21 = some (0x18, 10) ∧
      0x18 < 0x21 ∧ (readingAt 0x21 [⟨0x18, []⟩]).mgp.captures.find? (fun c => c.first = 0x18) = some ⟨0x18, []⟩ ∧
      (readingAt 0x21 []).mgp.captures.find? (fun c => c.first = 0x18) = none :=
  by decide +kernel

theorem test_hyp_MapReads :
    let r : FaultRecord := { kind := .programFail, dev := some .d0, page := some 18, count := some 8150, number := 1 }
    let e : HostError := { cause := .noWindow, addr := 0x1234, dir := .write }
    running.wd.live.windows.length = 8 ∧ running.mgp.staged.windows.length = 8 ∧ running.mgp.view = none ∧
      ({ running.mgp with view := some r } : ManagementPort).view = some r ∧ running.hp.lastErr = none ∧
      ({ running.hp with lastErr := some e } : HostPort).lastErr = some e := by decide +kernel

end Sys2Proof.Tests
end

section
/-! Numbers compared modulo 2^32 (R1), the number after (R4, R146), and counters (R185): how each of these operations of the
model acts on the numbers its words stand for. -/

namespace Sys2Proof.Machine

/-- R1: the word difference is the difference of the numbers modulo 2^32. -/
theorem atOrBelow_iff (a b : Word32) :
    atOrBelow a b = true ↔ (b.toNat + 2 ^ 32 - a.toNat) % 2 ^ 32 < 2 ^ 31 := by
  have hle : a.toNat ≤ 2 ^ 32 := Nat.le_of_lt a.isLt
  rw [atOrBelow, decide_eq_true_iff, BitVec.toNat_sub, ← Nat.sub_add_comm hle, Nat.add_comm (2 ^ 32)]

theorem isAbove_iff (a b : Word32) : isAbove a b = true ↔ ¬atOrBelow a b = true := by
  rw [isAbove, Bool.not_eq_true', Bool.not_eq_true]

/-- Whether a number lies at or below the one `k` ahead of it depends on `k` alone, not on where the count stands. -/
theorem atOrBelow_add_iff (a : Word32) {k : Nat} (hk : k < 2 ^ 32) :
    atOrBelow a (a + BitVec.ofNat 32 k) = true ↔ k < 2 ^ 31 := by
  rw [atOrBelow, decide_eq_true_iff, BitVec.add_comm, BitVec.add_sub_cancel, BitVec.toNat_ofNat, Nat.mod_eq_of_lt hk]

/-- Seen from the later number, the earlier one lies 2^32 - k ahead. -/
theorem isAbove_add_self (a : Word32) {k : Nat} (hpos : 0 < k) (hk : k < 2 ^ 31) :
    isAbove (a + BitVec.ofNat 32 k) a = true := by
  rw [isAbove_iff, atOrBelow_iff, BitVec.toNat_add, BitVec.toNat_ofNat]
  have ha := a.isLt
  omega

/-- Numbers at least 2^31 apart compare in the reverse of their order of issue. -/
theorem isAbove_add_of_le (a : Word32) {k : Nat} (hfar : 2 ^ 31 ≤ k) (hk : k < 2 ^ 32) :
    isAbove a (a + BitVec.ofNat 32 k) = true := by
  rw [isAbove_iff, atOrBelow_add_iff a hk]
  exact Nat.not_lt.mpr hfar

/-- R4, R146: the greatest number is the one whose successor wraps to 0, for which 1 is taken. -/
theorem nextNonzero_toNat (c : Word32) :
    (nextNonzero c).toNat = if c.toNat = 2 ^ 32 - 1 then 1 else c.toNat + 1 := by
  have wraps : c + 1 = 0 ↔ c.toNat = 2 ^ 32 - 1 := by bv_omega
  unfold nextNonzero
  simp only [wraps]
  split
  · rfl
  · bv_omega

/-- Settles O17: the comparison is determined by the distance modulo 2^32, and the witness of its reversal is the distance 2^31
itself; the raise of a counter is a record update for each counter. -/
theorem numbersCompared : Obligations.NumbersCompared := by
  unfold Obligations.NumbersCompared
  refine ⟨atOrBelow_iff, isAbove_iff, ?inOrder, fun a _ => isAbove_add_self a, ?reversed, nextNonzero_toNat, satAdd_toNat,
    ?counters⟩
  case inOrder =>
    intro a k hk
    exact (atOrBelow_add_iff a (by omega)).mpr hk
  case reversed =>
    exact ⟨0, 2 ^ 31, Nat.le_refl _, by decide, isAbove_add_of_le 0 (Nat.le_refl _) (by decide)⟩
  case counters =>
    intro c n
    exact ⟨rfl, rfl, rfl, rfl, rfl, rfl, rfl, rfl⟩

end Sys2Proof.Machine
end

section
/-! What one step can do, said once: the steps that follow in the same event, and the effects that commands have before them. A
property that every one of them keeps is kept by every step. -/

namespace Sys2Proof.Machine

/- One theorem after another: waiting ones would each hold a thread. -/
set_option Elab.async false

/-- A step that the rules place in the event of another (log 1), with its condition met. -/
inductive Due (s t : State) : Prop
  | bootStarts (h : s.bootStarts = some t)
  | fillPending (h : s.fillPending = some t)
  | completeHead (h : s.completeHead = some t)
  | completeWait (h : s.completeWait = some t)
  | swap (h : s.swap = some t)
  | endContext (d : Dev) (h : s.endContext d = some t)
  | endByFault (d : Dev) (h : s.endByFault d = some t)
  | holdupEnd (h : s.holdupEnd = some t)
  | stoppedReset (h : s.stoppedReset = some t)
  | replayEnd (h : s.replayEnd = some t)
  | restartEnd (h : s.restartEnd = some t)
  | gather (d : Dev) (h : s.gather d = some t)
  | takeWrite (h : s.takeWrite = some t)
  | startPersist (h : s.startPersist = some t)
  | hostAsks (h : s.hostAsks = some t)
  | fetchAsks (h : s.fetchAsks = some t)
  | grant (h : s.grant = some t)

theorem due_of_firstDue {s t : State} (h : firstDue followSteps s = some t) : Due s t := by
  rcases firstDue_cases h with h | h | h | h | h | ⟨d, h⟩ | ⟨d, h⟩ | h | h | h | h | ⟨d, h⟩ | h | h | h | h | h
  · exact .bootStarts h
  · exact .fillPending h
  · exact .completeHead h
  · exact .completeWait h
  · exact .swap h
  · exact .endContext d h
  · exact .endByFault d h
  · exact .holdupEnd h
  · exact .stoppedReset h
  · exact .replayEnd h
  · exact .restartEnd h
  · exact .gather d h
  · exact .takeWrite h
  · exact .startPersist h
  · exact .hostAsks h
  · exact .fetchAsks h
  · exact .grant h

/-- What a command does to the part before the steps of the same event follow: the commands are made of these. -/
inductive Effect (s : State) : State → Prop
  | due {t : State} (h : Due s t) : Effect s t
  | pending (x : List Instr) : Effect s (s.setPending x)
  | pins (x : Pins) : Effect s (s.setPins x)
  | tick : Effect s s.tick
  | coldReset : Effect s s.coldReset
  | coldResetLow : Effect s (s.coldReset.setFu FenceUnit.reset)
  | nvmSpoil (d : Dev) : Effect s (s.nvmSpoil d)
  | port (m : ManagementPort) (faults : m.faults.length ≤ s.mgp.faults.length) : Effect s (s.setMgp m)
  | pulseEnds : Effect s (s.setFu s.fu.pulseEnds)
  | lowTimeEnds : Effect s (s.setFu s.fu.lowTimeEnds)
  | fenceArrival : Effect s s.fenceArrival
  | accessArrives (ha : BitVec 22) (hbl hbh hrd hwr : Bool) (hd : Half) : Effect s (s.accessArrives ha hbl hbh hrd hwr hd)
  | strobeReleased : Effect s s.strobeReleased
  | stallExpires : Effect s s.stallExpires
  | sealWhere (p : Entry → Bool) : Effect s (s.sealWhere p)
  | transferEnds (answer : BusAnswer) : Effect s (s.transferEnds answer)
  | pollDue (d : Dev) : Effect s (s.pollDue d)
  | ackExpires (d : Dev) : Effect s (s.ackExpires d)
  | programExpires (d : Dev) : Effect s (s.programExpires d)
  | muProgramExpires : Effect s s.muProgramExpires
  | resetExpires (d : Dev) : Effect s (s.resetExpires d)
  | pfailRises : Effect s s.pfailRises
  | pfailFalls : Effect s s.pfailFalls
  | commitTaken (h : s.commitRefusal = none) :
      Effect s ((s.setWd { s.wd with image := some s.mgp.staged }).setMgp { s.mgp with result := .accepted, inHand := true })
  | restartTaken (h : s.sc.state = .run) : Effect s s.enterRestarting
  | retireOnRequest (d : Dev) (page : Nat) : Effect s (s.retireOnRequest d page)

section
variable {P : State → Prop} (keep : ∀ s t : State, Effect s t → P s → P t)
include keep

/-- What every effect keeps, an event keeps. -/
theorem event_keeps_of_effects {s : State} {f : State → State} (hs : P s) (hf : P (f s)) : P (s.event f) :=
  State.event_keeps (fun s t h => keep s t (.due (due_of_firstDue h))) hs hf

/-- What every effect keeps, a step that a row names keeps. -/
theorem named_keeps_of_effects {s : State} {f : State → Option State} (due : ∀ t, f s = some t → Due s t) (hs : P s) :
    P (s.named f) := by
  refine event_keeps_of_effects keep hs ?_
  cases hf : f s with
  | none => exact hs
  | some t => exact keep s t (.due (due t hf)) hs

theorem setMgp_keeps_of_effects {s : State} (hs : P s) {m : ManagementPort}
    (faults : m.faults.length ≤ s.mgp.faults.length := by
      simp [ManagementPort.writeEventFlags, ManagementPort.writeEnables, ManagementPort.stop]) : P (s.setMgp m) :=
  keep s _ (.port m faults) hs

theorem setResult_keeps_of_effects {s : State} (hs : P s) (r : ReqResult) : P (s.setResult r) :=
  setMgp_keeps_of_effects keep hs

theorem advanceAt_keeps_of_effects {s : State} (hs : P s) (i : Byte) : P (s.advanceAt i) := by
  unfold State.advanceAt
  split
  · exact setMgp_keeps_of_effects keep hs
  · exact hs

theorem takeCommit_keeps_of_effects {s : State} (hs : P s) : P s.takeCommit := by
  unfold State.takeCommit
  split
  · exact setResult_keeps_of_effects keep hs _
  · next h =>
    have image := keep s _ (.commitTaken h) hs
    dsimp only
    cases hw : ((s.setWd { s.wd with image := some s.mgp.staged }).setMgp
        { s.mgp with result := .accepted, inHand := true }).swap with
    | none => exact image
    | some t => exact keep _ t (.due (.swap hw)) image

theorem takeFence_keeps_of_effects {s : State} (hs : P s) : P s.takeFence :=
  keep _ _ .fenceArrival (setResult_keeps_of_effects keep hs _)

theorem takeRestart_keeps_of_effects {s : State} (hs : P s) : P s.takeRestart := by
  unfold State.takeRestart
  split
  · next h => exact keep _ _ (.restartTaken (by simpa using h.1)) (setResult_keeps_of_effects keep hs _)
  · exact setResult_keeps_of_effects keep hs _

theorem takeRetirePage_keeps_of_effects {s : State} (hs : P s) : P s.takeRetirePage := by
  have refused (r : ReqResult) : P (s.setResult r) := setResult_keeps_of_effects keep hs r
  unfold State.takeRetirePage
  split
  · exact refused _
  · split
    · exact refused _
    · next d page _ =>
      (repeat' split)
      · exact refused _
      · exact refused _
      · exact refused _
      · exact refused _
      · exact keep s _ (.retireOnRequest d page) hs

theorem takeCode_keeps_of_effects {s : State} (hs : P s) (code : Byte) : P (s.takeCode code) := by
  unfold State.takeCode
  split
  · exact takeCommit_keeps_of_effects keep hs
  · exact takeFence_keeps_of_effects keep hs
  · exact takeRestart_keeps_of_effects keep hs
  · exact takeRetirePage_keeps_of_effects keep hs
  · exact setMgp_keeps_of_effects keep hs
  · unfold State.takeSelectRemap
    split
    · exact setMgp_keeps_of_effects keep hs
    · exact setResult_keeps_of_effects keep hs _
  · exact setMgp_keeps_of_effects keep hs
  · unfold State.takeClearStatus
    dsimp only
    split
    · exact setMgp_keeps_of_effects keep hs
    · exact setResult_keeps_of_effects keep hs _
  · exact setResult_keeps_of_effects keep hs _

theorem request_keeps_of_effects {s : State} (hs : P s) (code : Byte) {take : State → State}
    (taken : ∀ s, P s → P (take s)) : P (s.request code take) := by
  have coded : P (s.setMgp { s.mgp with code := code }) := setMgp_keeps_of_effects keep hs
  unfold State.request
  dsimp only
  split
  · exact setResult_keeps_of_effects keep coded _
  · exact taken _ coded

theorem requestEvent_keeps_of_effects {s : State} (hs : P s) (code : Byte) : P (s.requestEvent code) :=
  request_keeps_of_effects keep hs code (fun _ h => takeCode_keeps_of_effects keep h code)

theorem writeMap_keeps_of_effects {s : State} (hs : P s) (i : Nat) (b : Byte) : P (s.writeMap i b) := by
  unfold State.writeMap
  split
  · exact setMgp_keeps_of_effects keep hs
  · exact setMgp_keeps_of_effects keep hs
  · exact setMgp_keeps_of_effects keep hs
  · exact setMgp_keeps_of_effects keep hs
  · exact setMgp_keeps_of_effects keep hs
  · exact requestEvent_keeps_of_effects keep hs b
  · exact setMgp_keeps_of_effects keep hs (by unfold ManagementPort.writeRemapIndex; split <;> simp)
  · split
    · exact setMgp_keeps_of_effects keep hs
    · exact hs

theorem byteWritten_keeps_of_effects {s : State} (hs : P s) (b : Byte) : P (s.byteWritten b) := by
  unfold State.byteWritten
  split
  · exact setMgp_keeps_of_effects keep (writeMap_keeps_of_effects keep hs _ b)
  · exact hs

theorem byteRead_keeps_of_effects {s : State} (hs : P s) (ack : Bool) : P (s.byteRead ack) := by
  unfold State.byteRead
  split
  · exact setMgp_keeps_of_effects keep hs
  · exact hs

theorem supplyLost_keeps_of_effects {s : State} (hs : P s) : P s.supplyLost :=
  keep _ _ .coldResetLow (keep _ _ (.pins _) (keep _ _ (.nvmSpoil .d1) (keep _ _ (.nvmSpoil .d0) hs)))

theorem supplyUp_keeps_of_effects {s : State} (hs : P s) (pfail madr : Bool) : P (s.supplyUp pfail madr) :=
  keep _ _ .coldResetLow (keep _ _ (.pins _) hs)

/-- What every effect keeps, settling keeps. -/
theorem settle_keeps_of_effects {s : State} (hs : P s) : P s.settle :=
  State.settle_keeps (fun s t h => keep s t (.due (due_of_firstDue h))) hs

/-- What every effect keeps, the execution of a command keeps. -/
theorem exec_keeps_of_effects (i : Instr) {s t : State} (he : exec i s = .next t) (hs : P s) : P t := by
  have event {f : State → State} {s : State} (hs : P s) (hf : P (f s)) : P (s.event f) :=
    event_keeps_of_effects keep hs hf
  have named {f : State → Option State} (due : ∀ t, f s = some t → Due s t) : P (s.named f) :=
    named_keeps_of_effects keep due hs
  have request {take : State → State} (code : Byte) (taken : ∀ s, P s → P (take s)) :
      P (s.event (fun s => (s.request code take).advanceAt 0x0C)) :=
    event hs (advanceAt_keeps_of_effects keep (request_keeps_of_effects keep hs code taken) _)
  cases i <;> injection he with he <;> subst he
  case hostAccessArrival => exact event hs (keep _ _ (.accessArrives ..) hs)
  case pendingAllocationFill => exact named (fun _ => .fillPending)
  case hostStrobeRelease => exact event hs (keep _ _ .strobeReleased hs)
  case stallLimitExpiry => exact event hs (keep _ _ .stallExpires hs)
  case sealDeadlineExpiry => exact event hs (keep _ _ (.sealWhere _) hs)
  case fenceLineRisingEdge => exact event hs (keep _ _ .fenceArrival hs)
  case markerCompletion => exact named (fun _ => .completeHead)
  case writeThroughCompletion => exact named (fun _ => .completeWait)
  case pdonePulseEnd => exact event hs (keep _ _ .pulseEnds hs)
  case arbiterGrant => exact named (fun _ => .grant)
  case memoryTransferEnd => exact event hs (keep _ _ (.transferEnds _) hs)
  case statusPollDue => exact event hs (keep _ _ (.pollDue _) hs)
  case suspendAckLimitExpiry => exact event hs (keep _ _ (.ackExpires _) hs)
  case programTimeLimitExpiry => exact event hs (keep _ _ (.programExpires _) hs)
  case metadataProgramTimeExpiry => exact event hs (keep _ _ .muProgramExpires hs)
  case resetDeadlineExpiry => exact event hs (keep _ _ (.resetExpires _) hs)
  case drainGather => exact named (fun _ => .gather _)
  case persistDoneContextEnd => exact named (fun _ => .endContext _)
  case persistStart => exact named (fun _ => .startPersist)
  case writeRequestTaken => exact named (fun _ => .takeWrite)
  case pfailAssert =>
    split
    · exact event hs hs
    · have line := keep _ _ (.pins { s.pins with pfail := true }) hs
      exact event line (keep _ _ .pfailRises line)
  case holdupEnd => exact named (fun _ => .holdupEnd)
  case pfailRelease =>
    split
    · have line := keep _ _ (.pins { s.pins with pfail := false }) hs
      exact event line (keep _ _ .pfailFalls line)
    · exact event hs hs
  case stoppedQuietReset => exact named (fun _ => .stoppedReset)
  case resetAssert =>
    (repeat' split)
    · exact keep _ _ (.pins _) hs
    · exact hs
    · exact keep _ _ .coldReset (keep _ _ (.pins _) hs)
  case resetRelease =>
    (repeat' split)
    · exact event hs hs
    · exact keep _ _ (.pins _) hs
    · exact settle_keeps_of_effects keep (keep _ _ .coldResetLow (keep _ _ (.pins _) hs))
  case powerUp pfail madr =>
    have lost : P (if s.pins.powered then s.supplyLost else s) := by
      split
      · exact supplyLost_keeps_of_effects keep hs
      · exact hs
    have up := supplyUp_keeps_of_effects keep lost pfail madr
    exact event up up
  case replayEnd => exact named (fun _ => .replayEnd)
  case restartEnd => exact named (fun _ => .restartEnd)
  case commit => exact request 1 (fun _ => takeCommit_keeps_of_effects keep)
  case commitSwap => exact named (fun _ => .swap)
  case fence => exact request 2 (fun _ => takeFence_keeps_of_effects keep)
  case restart => exact request 3 (fun _ => takeRestart_keeps_of_effects keep)
  case retirePage => exact request 4 (fun _ => takeRetirePage_keeps_of_effects keep)
  case popFault => exact request 5 (fun _ h => takeCode_keeps_of_effects keep h 5)
  case selectRemap => exact request 6 (fun _ h => takeCode_keeps_of_effects keep h 6)
  case clearCounters => exact request 7 (fun _ h => takeCode_keeps_of_effects keep h 7)
  case clearStatus => exact request 8 (fun _ h => takeCode_keeps_of_effects keep h 8)
  case unknownRequestCode code =>
    exact event hs (advanceAt_keeps_of_effects keep (requestEvent_keeps_of_effects keep hs code) _)
  case eventFlagsWrite => exact event hs (advanceAt_keeps_of_effects keep (setMgp_keeps_of_effects keep hs) _)
  case eventEnablesWrite => exact event hs (advanceAt_keeps_of_effects keep (setMgp_keeps_of_effects keep hs) _)
  case remapViewIndexWrite b =>
    exact event hs (advanceAt_keeps_of_effects keep (writeMap_keeps_of_effects keep hs 0x0F b) _)
  case mapByteWrite b => exact event hs (byteWritten_keeps_of_effects keep hs b)
  case indexSet =>
    exact event hs (setMgp_keeps_of_effects keep hs (by unfold ManagementPort.setIndex; split <;> simp))
  case snapshotCapture ack => exact event hs (byteRead_keeps_of_effects keep hs ack)
  case transactionEnd => exact event hs (setMgp_keeps_of_effects keep hs)
  case pdonePulseStart => exact event hs (keep _ _ .lowTimeEnds hs)
  case transactionStart =>
    exact event hs (setMgp_keeps_of_effects keep hs (by unfold ManagementPort.start; split <;> simp))
  case powerLoss =>
    split
    · exact supplyLost_keeps_of_effects keep hs
    · exact hs

/-- What every effect keeps, a step keeps. -/
theorem step_keeps_of_effects {s t : State} (hs : P s) (he : step s = .next t) : P t := by
  unfold step at he
  split at he
  · exact exec_keeps_of_effects keep _ he (keep _ _ (.pending _) hs)
  · injection he with he
    subst he
    exact event_keeps_of_effects keep hs (keep _ _ .tick hs)

end

end Sys2Proof.Machine
end

section
/-! What the held accesses and the OPEN entries rest on, and the operations that leave it: those of the buffer, the read path and
the drain engines. -/

namespace Sys2Proof.Machine

/- One theorem after another: waiting ones would each hold a thread. -/
set_option Elab.async false

/-! ### The lines with an OPEN entry (R7) -/

/-- The lines of the OPEN entries, in age order. -/
def openLines (es : List Entry) : List Loc := (es.filter (fun e => e.state = .opened)).map Entry.loc

theorem mem_openLines {es : List Entry} {l : Loc} : l ∈ openLines es ↔ ∃ e ∈ es, e.state = .opened ∧ e.loc = l := by
  simp [openLines, and_assoc]

theorem openLines_append (es fs : List Entry) : openLines (es ++ fs) = openLines es ++ openLines fs := by
  simp [openLines]

theorem openLines_cons (e : Entry) (es : List Entry) :
    openLines (e :: es) = (if e.state = .opened then [e.loc] else []) ++ openLines es := by
  by_cases h : e.state = .opened <;> simp [openLines, h]

theorem openLines_eq_nil {es : List Entry} : openLines es = [] ↔ ∀ e ∈ es, e.state ≠ .opened := by
  simp [openLines]

/-- A change that opens no entry and moves none leaves at most the lines that had an OPEN entry. -/
theorem openLines_map_sublist {f : Entry → Entry} (loc : ∀ e, (f e).loc = e.loc)
    (opens : ∀ e, (f e).state = .opened → e.state = .opened) (es : List Entry) :
    (openLines (es.map f)).Sublist (openLines es) := by
  induction es with
  | nil => exact .refl _
  | cons e es ih =>
    rw [List.map_cons, openLines_cons, openLines_cons]
    by_cases h : (f e).state = .opened
    · simpa [h, opens e h, loc e] using ih
    · simpa [h] using ih.trans (List.sublist_append_right _ _)

theorem openLines_filter_sublist (p : Entry → Bool) (es : List Entry) :
    (openLines (es.filter p)).Sublist (openLines es) :=
  (List.filter_sublist.filter _).map _

theorem Entry.seal_loc (e : Entry) : e.seal.loc = e.loc := by
  unfold Entry.seal
  split <;> rfl

theorem Entry.seal_not_opened (e : Entry) : e.seal.state ≠ .opened := by
  unfold Entry.seal
  split
  · exact nofun
  · assumption

/-- Sealing the entries that satisfy `p` moves none and opens none. -/
theorem openLines_seal_sublist (p : Entry → Bool) (es : List Entry) :
    (openLines (es.map (fun e => if p e then e.seal else e))).Sublist (openLines es) := by
  refine openLines_map_sublist (fun e => ?_) (fun e => ?_) es
  · split
    · exact e.seal_loc
    · rfl
  · split
    · exact fun h => absurd h e.seal_not_opened
    · exact id

theorem openLines_sealOldest_sublist (es : List Entry) : (openLines (sealOldest es)).Sublist (openLines es) := by
  induction es with
  | nil => exact .refl _
  | cons e es ih =>
    unfold sealOldest
    split
    · rw [openLines_cons, if_neg e.seal_not_opened, openLines_cons]
      exact List.sublist_append_right _ _
    · rw [openLines_cons, openLines_cons]
      exact ih.append_left _

theorem State.sealAll_openLines (s : State) : openLines s.sealAll.pwb.entries = [] := by
  rw [openLines_eq_nil]
  simp [State.sealAll, State.sealWhere, Entry.seal_not_opened]

/-- A merge leaves the entry in its line, and opens none. -/
theorem Entry.merge_loc (e : Entry) (bytes : List (Option Byte)) : (e.merge bytes).loc = e.loc := by
  unfold Entry.merge
  dsimp only
  split
  · exact Entry.seal_loc _
  · rfl

theorem Entry.merge_opened {e : Entry} {bytes : List (Option Byte)} (h : (e.merge bytes).state = .opened) :
    e.state = .opened := by
  unfold Entry.merge at h
  dsimp only at h
  split at h
  · exact absurd h (Entry.seal_not_opened _)
  · exact h

/-- R7 and R12 by the lines of the OPEN entries: no line twice, and the line of a waiting write is none of them. -/
theorem State.oneOpen_iff (s : State) :
    s.OneOpen ↔ (openLines s.pwb.entries).Nodup ∧ ∀ w, s.pwb.waiting = some w → w.loc ∉ openLines s.pwb.entries := by
  have twice : (openLines s.pwb.entries).Nodup ↔
      s.pwb.entries.Pairwise (fun e f => ¬(e.state = .opened ∧ f.state = .opened ∧ e.loc = f.loc)) := by
    unfold openLines List.Nodup
    rw [List.pairwise_map, List.pairwise_filter]
    simp only [decide_eq_true_eq, not_and, ne_eq]
  have line (w : PendingWrite) : w.loc ∉ openLines s.pwb.entries ↔ ∀ e ∈ s.pwb.entries, isOpenAt w.loc e = false := by
    simp [mem_openLines, isOpenAt]
  constructor
  · rintro ⟨entries, waiting⟩
    exact ⟨twice.2 entries, fun w h => (line w).2 (waiting w h)⟩
  · rintro ⟨entries, waiting⟩
    exact ⟨twice.1 entries, fun w h => (line w).1 (waiting w h)⟩

theorem State.shutOutsideRun_iff (s : State) :
    s.ShutOutsideRun ↔ (s.sc.state ≠ .run → s.heldPhase = none ∧ openLines s.pwb.entries = []) := by
  simp only [openLines_eq_nil]
  exact ⟨fun ⟨held, opens⟩ h => ⟨held h, opens h⟩, fun h => ⟨fun n => (h n).1, fun n => (h n).2⟩⟩

/-! ### The host reads and their requests (R28, R135) -/

/-- Whether the read's transfer has been granted. -/
def HostRead.granted (r : HostRead) : Bool := r.phase = .transfer

/-- The host-read requests that wait. -/
def State.hostRequests (s : State) : Nat := s.mp.reqs.countP (fun r => r.requester = .hostRead)

theorem State.readRequests_eq (s : State) :
    s.readRequests = match s.rp.host.map HostRead.granted with
      | some false => 1
      | _ => 0 := by
  unfold State.readRequests
  cases s.rp.host with
  | none => rfl
  | some r => by_cases h : r.phase = .transfer <;> simp [HostRead.granted, h]

theorem State.heldPhase_congr {s t : State} (h : t.hp = s.hp) : t.heldPhase = s.heldPhase := by
  unfold State.heldPhase
  rw [h]

@[simp] theorem State.join_probe (s : State) (r : Request) : (s.join r).mp.probe = s.mp.probe := by
  unfold State.join
  split <;> rfl

@[simp] theorem State.withdraw_probe (s : State) (p : Request → Bool) : (s.withdraw p).mp.probe = s.mp.probe := rfl

@[simp] theorem State.setDev_probe (s : State) (d : Dev) (r : DevRecord) : (s.setDev d r).mp.probe = s.mp.probe := rfl

@[simp] theorem State.setDev_reqs (s : State) (d : Dev) (r : DevRecord) : (s.setDev d r).mp.reqs = s.mp.reqs := rfl

theorem State.hostRequests_join (s : State) (r : Request) :
    (s.join r).hostRequests ≤ s.hostRequests + if r.requester = .hostRead then 1 else 0 := by
  unfold State.join
  split
  · simp [State.hostRequests, List.countP_append, List.countP_singleton]
  · omega

theorem State.hostRequests_withdraw (s : State) (p : Request → Bool) : (s.withdraw p).hostRequests ≤ s.hostRequests :=
  List.filter_sublist.countP_le

/-! ### What is kept -/

/-- No access is held or released, no entry is opened, and no host read is asked for. -/
structure State.HostKept (s t : State) : Prop where
  phase   : t.heldPhase = s.heldPhase
  waiting : t.pwb.waiting = s.pwb.waiting
  opens   : (openLines t.pwb.entries).Sublist (openLines s.pwb.entries)
  wait    : t.fu.wait.isSome = s.fu.wait.isSome
  host    : t.rp.host.isSome = s.rp.host.isSome
  asked   : t.hostRequests + s.readRequests ≤ s.hostRequests + t.readRequests

/-- Beside that, the state controller and the probe are as they were, and the metadata unit is as busy as it was. -/
structure State.Works (s t : State) : Prop extends State.HostKept s t where
  probe      : t.mp.probe = s.mp.probe
  controller : t.sc = s.sc
  op         : t.mu.op = s.mu.op
  write      : t.mu.waiting = s.mu.waiting

theorem State.HostKept.trans {s t u : State} (h : s.HostKept t) (k : t.HostKept u) : s.HostKept u where
  phase := k.phase.trans h.phase
  waiting := k.waiting.trans h.waiting
  opens := k.opens.trans h.opens
  wait := k.wait.trans h.wait
  host := k.host.trans h.host
  asked := by
    have := h.asked
    have := k.asked
    omega

theorem State.Works.trans {s t u : State} (h : s.Works t) (k : t.Works u) : s.Works u where
  toHostKept := h.toHostKept.trans k.toHostKept
  probe := k.probe.trans h.probe
  controller := k.controller.trans h.controller
  op := k.op.trans h.op
  write := k.write.trans h.write

/-- What an operation has to leave of each block for the accesses held to stand as they were. -/
theorem State.HostKept.of_frame {s t : State} (hp : t.hp = s.hp := by simp)
    (waiting : t.pwb.waiting = s.pwb.waiting := by simp)
    (opens : (openLines t.pwb.entries).Sublist (openLines s.pwb.entries) := by simp)
    (wait : t.fu.wait.isSome = s.fu.wait.isSome := by simp)
    (read : t.rp.host.map HostRead.granted = s.rp.host.map HostRead.granted := by simp)
    (reqs : t.hostRequests ≤ s.hostRequests := by simp [State.hostRequests]) : s.HostKept t where
  phase := State.heldPhase_congr hp
  waiting := waiting
  opens := opens
  wait := wait
  host := by simpa using congrArg Option.isSome read
  asked := by rw [State.readRequests_eq, State.readRequests_eq, read]; omega

theorem State.HostKept.works {s t : State} (h : s.HostKept t) (probe : t.mp.probe = s.mp.probe := by simp)
    (controller : t.sc = s.sc := by simp) (op : t.mu.op = s.mu.op := by simp)
    (write : t.mu.waiting = s.mu.waiting := by simp) : s.Works t :=
  { h with probe := probe, controller := controller, op := op, write := write }

theorem State.Works.refl (s : State) : s.Works s := State.HostKept.works .of_frame

/-! ### The operations of the buffer and the fence unit -/

theorem State.setMgp_works (s : State) (m : ManagementPort) : s.Works (s.setMgp m) := State.HostKept.works .of_frame
theorem State.setPins_works (s : State) (x : Pins) : s.Works (s.setPins x) := State.HostKept.works .of_frame
theorem State.setPending_works (s : State) (x : List Instr) : s.Works (s.setPending x) := State.HostKept.works .of_frame
theorem State.setWd_works (s : State) (x : WindowDecoder) : s.Works (s.setWd x) := State.HostKept.works .of_frame
theorem State.setRu_works (s : State) (x : RemapUnit) : s.Works (s.setRu x) := State.HostKept.works .of_frame
theorem State.setDe_works (s : State) (x : PerDev Engine) : s.Works (s.setDe x) := State.HostKept.works .of_frame
theorem State.setCtx_works (s : State) (d : Dev) (c : Option Ctx) : s.Works (s.setCtx d c) :=
  State.HostKept.works .of_frame
theorem State.setDev_works (s : State) (d : Dev) (r : DevRecord) : s.Works (s.setDev d r) :=
  State.HostKept.works .of_frame
theorem State.count_works (s : State) (c : Counter) (n : Nat) : s.Works (s.count c n) := State.HostKept.works .of_frame
theorem State.postFault_works (s : State) (k : FaultKind) (d : Option Dev) (p c : Option Nat) :
    s.Works (s.postFault k d p c) :=
  State.HostKept.works .of_frame
theorem State.nvmStart_works (s : State) (d : Dev) (p : Nat) (b : List (Option Byte)) : s.Works (s.nvmStart d p b) :=
  State.HostKept.works .of_frame
theorem State.nvmPass_works (s : State) (d : Dev) : s.Works (s.nvmPass d) := State.HostKept.works .of_frame
theorem State.nvmSpoil_works (s : State) (d : Dev) : s.Works (s.nvmSpoil d) := State.HostKept.works .of_frame

theorem State.join_works (s : State) {r : Request} (h : r.requester ≠ .hostRead) : s.Works (s.join r) :=
  State.HostKept.works (.of_frame (reqs := by simpa [h] using s.hostRequests_join r))

theorem State.withdraw_works (s : State) (p : Request → Bool) : s.Works (s.withdraw p) :=
  State.HostKept.works (.of_frame (reqs := s.hostRequests_withdraw p))

theorem State.freeWhere_works (s : State) (p : Entry → Bool) : s.Works (s.freeWhere p) :=
  State.HostKept.works (.of_frame (waiting := rfl) (opens := openLines_filter_sublist _ _))

theorem FenceUnit.markLost_wait (f : FenceUnit) (seqs : List Word32) : (f.markLost seqs).wait.isSome = f.wait.isSome := by
  simp [FenceUnit.markLost]

theorem State.setFu_works (s : State) {f : FenceUnit} (h : f.wait.isSome = s.fu.wait.isSome) : s.Works (s.setFu f) :=
  State.HostKept.works (.of_frame (wait := h))

theorem State.declareLost_works (s : State) (p : Entry → Bool) : s.Works (s.declareLost p) :=
  (s.freeWhere_works p).trans <| (State.count_works _ _ _).trans <|
    State.setFu_works _ (FenceUnit.markLost_wait _ _)

theorem State.sealWhere_works (s : State) (p : Entry → Bool) : s.Works (s.sealWhere p) :=
  State.HostKept.works (.of_frame (waiting := rfl) (opens := openLines_seal_sublist p _))

theorem State.gatherPage_works (s : State) (d : Dev) (page : Nat) : s.Works (s.gatherPage d page) := by
  refine State.HostKept.works (.of_frame (waiting := rfl) (opens := openLines_map_sublist (fun e => ?_) (fun e => ?_) _))
  · split <;> rfl
  · split
    · exact nofun
    · exact id

@[simp] theorem FenceUnit.owePulse_wait (f : FenceUnit) : f.owePulse.wait = f.wait := by
  unfold FenceUnit.owePulse
  dsimp only
  split <;> rfl

theorem State.markerDone_works (s : State) (m : Marker) : s.Works (s.markerDone m) :=
  (s.setFu_works (f := s.fu.owePulse) (by simp)).trans <| (State.count_works _ _ _).trans (State.setMgp_works _ _)

theorem State.sealAll_works (s : State) : s.Works s.sealAll := s.sealWhere_works _

theorem State.fenceArrival_works (s : State) : s.Works s.fenceArrival := by
  refine s.sealAll_works.trans ?_
  unfold State.fenceArrival
  dsimp only
  (repeat' split)
  · exact State.markerDone_works _ _
  · exact State.setFu_works _ rfl
  · exact State.setFu_works _ rfl

theorem State.completeHead_works {s t : State} (h : s.completeHead = some t) : s.Works t := by
  unfold State.completeHead at h
  split at h
  · exact nomatch h
  · next m ms _ =>
    split at h
    · cases h
      exact (s.setFu_works (f := { s.fu with queue := ms }) rfl).trans (State.markerDone_works _ _)
    · exact nomatch h

/-! ### The operations of the read path -/

theorem State.setRefill_works (s : State) (l : Option Loc) : s.Works (s.setRp { s.rp with refill := l }) :=
  State.HostKept.works .of_frame

theorem State.dropRefill_works (s : State) (p : Loc → Bool) : s.Works (s.dropRefill p) := by
  unfold State.dropRefill
  split
  · exact .refl s
  · split
    · exact (s.setRefill_works none).trans (State.withdraw_works _ _)
    · exact .refl s

theorem State.setLines_works (s : State) (l : List LineRecord) : s.Works (s.setRp { s.rp with lines := l }) :=
  State.HostKept.works .of_frame

theorem State.invalidate_works (s : State) (d : Dev) (page : Nat) : s.Works (s.invalidate d page) :=
  (s.setLines_works _).trans (State.dropRefill_works _ _)

/-- An answer leaves a read without its transfer. -/
theorem State.answerReads_works (s : State) (d : Dev) {p q : ReadPhase} (hp : p ≠ .transfer) (hq : q ≠ .transfer) :
    s.Works (s.answerReads d p q) := by
  refine State.HostKept.works (.of_frame (read := ?_))
  show (s.rp.host.map _).map _ = _
  rw [Option.map_map]
  refine congrArg (fun f => s.rp.host.map f) (funext fun r => ?_)
  simp only [Function.comp, HostRead.granted]
  split
  · next h => simp [h.2, hp, hq]
  · rfl

theorem State.forgetAsked_works (s : State) (d : Dev) : s.Works (s.forgetAsked d) := by
  refine State.HostKept.works (.of_frame (read := ?_))
  show (s.rp.host.map _).map _ = _
  rw [Option.map_map]
  refine congrArg (fun f => s.rp.host.map f) (funext fun r => ?_)
  simp only [Function.comp, HostRead.granted]
  split <;> rfl

theorem State.requesterGone_works (s : State) (d : Dev) : s.Works (s.requesterGone d) := by
  unfold State.requesterGone
  (repeat' split)
  · exact .refl s
  · exact (s.withdraw_works _).trans (State.setCtx_works _ _ _)
  · exact .refl s
  · exact (s.setCtx_works _ _).trans (State.join_works _ (by simp))
  · exact .refl s

theorem State.endSuspendOf_works (s : State) (d : Dev) (p : ReadPhase) : s.Works (s.endSuspendOf d p) := by
  unfold State.endSuspendOf
  split
  · exact s.requesterGone_works d
  · exact .refl s

theorem State.acceptSuspend_works (s : State) (d : Dev) (c : Ctx) : s.Works (s.acceptSuspend d c) :=
  (s.setCtx_works _ _).trans (State.join_works _ (by simp))

theorem State.hostAsks_works {s t : State} (h : s.hostAsks = some t) : s.Works t := by
  unfold State.hostAsks at h
  split at h
  · exact nomatch h
  · next r hr =>
    split at h
    · next hq =>
      split at h
      · exact nomatch h
      · split at h <;> cases h
        · refine State.Works.trans (State.HostKept.works (.of_frame (read := ?_))) (State.acceptSuspend_works _ _ _)
          simp [hr, HostRead.granted, hq.1]
        · exact State.HostKept.works (.of_frame (read := by simp [hr, HostRead.granted]))
    · exact nomatch h

theorem State.fetchAsks_works {s t : State} (h : s.fetchAsks = some t) : s.Works t := by
  unfold State.fetchAsks at h
  split at h
  · exact nomatch h
  · split at h
    · split at h
      · exact nomatch h
      · split at h <;> cases h
        · exact State.Works.trans (State.HostKept.works .of_frame) (State.acceptSuspend_works _ _ _)
        · exact State.HostKept.works .of_frame
    · exact nomatch h

theorem State.closeFetch_works (s : State) : s.Works s.closeFetch := by
  unfold State.closeFetch
  split
  · exact .refl s
  · exact State.Works.trans (State.HostKept.works .of_frame)
      ((State.withdraw_works _ _).trans (State.endSuspendOf_works _ _ _))

theorem State.considerRefill_works (s : State) (loc : Loc) : s.Works (s.considerRefill loc) := by
  unfold State.considerRefill
  dsimp only
  split
  · exact (s.dropRefill_works _).trans <| (State.setRefill_works _ _).trans (State.join_works _ (by simp))
  · exact .refl s

/-! ### The operations of the remap unit and the drain engines -/

theorem State.setMu_works (s : State) {m : MetadataUnit} (op : m.op = s.mu.op) (write : m.waiting = s.mu.waiting) :
    s.Works (s.setMu m) :=
  State.HostKept.works .of_frame (op := op) (write := write)

theorem State.remapChanged_works (s : State) : s.Works s.remapChanged :=
  (s.setRu_works _).trans (State.setMu_works _ rfl rfl)

theorem State.remapTo_works (s : State) (d : Dev) (home spare : Nat) : s.Works (s.remapTo d home spare) :=
  (s.setRu_works _).trans (State.remapChanged_works _)

theorem State.retireCandidate_works (s : State) (d : Dev) (spare : Nat) : s.Works (s.retireCandidate d spare) :=
  (s.setRu_works _).trans (State.remapChanged_works _)

theorem State.markFailed_works (s : State) (d : Dev) (home : Nat) (changed : Bool) :
    s.Works (s.markFailed d home changed) := by
  unfold State.markFailed
  dsimp only
  split
  · exact s.setRu_works _
  · exact (s.setRu_works _).trans (State.remapChanged_works _)

theorem State.takeSpare_works {s t : State} {d : Dev} {p : Nat} (h : s.takeSpare d = some (p, t)) : s.Works t := by
  have f := State.takeSpare_frame h
  exact State.HostKept.works (.of_frame (by simp [f]) (by simp [f]) (by simp [f]) (by simp [f]) (by simp [f])
    (by simp [State.hostRequests, f])) (by simp [f]) (by simp [f]) (by simp [f]) (by simp [f])

theorem State.loseContext_works (s : State) (d : Dev) (c : Ctx) (kind : FaultKind) : s.Works (s.loseContext d c kind) :=
  (s.declareLost_works _).trans <| (State.postFault_works _ _ _ _ _).trans (State.setCtx_works _ _ _)

theorem State.gather_works {s t : State} {d : Dev} (h : s.gather d = some t) : s.Works t := by
  unfold State.gather at h
  split at h
  · exact nomatch h
  · next e _ =>
    refine (s.gatherPage_works d e.loc.page).trans ?_
    dsimp only at h
    split at h <;> cases h
    · exact (State.declareLost_works _ _).trans (State.postFault_works _ _ _ _ _)
    · exact (State.setCtx_works _ _ _).trans (State.join_works _ (by simp))

theorem State.endByPersist_works (s : State) (d : Dev) (c : Ctx) : s.Works (s.endByPersist d c) := by
  unfold State.endByPersist
  split
  · exact s.loseContext_works d c _
  · have freed : s.Works (((s.freeWhere (inSet d c.entrySet)).count .programsCompleted 1).setCtx d none) :=
      (s.freeWhere_works _).trans <| (State.count_works _ _ _).trans (State.setCtx_works _ _ _)
    dsimp only
    split
    · exact freed
    · exact freed.trans (State.postFault_works _ _ _ _ _)

theorem State.endContext_works {s t : State} {d : Dev} (h : s.endContext d = some t) : s.Works t := by
  unfold State.endContext at h
  (repeat' split at h) <;> cases h
  exact s.endByPersist_works d _

theorem State.endByFault_works {s t : State} {d : Dev} (h : s.endByFault d = some t) : s.Works t := by
  unfold State.endByFault at h
  (repeat' split at h) <;> cases h
  exact s.loseContext_works d _ _

theorem State.batchPasses_works (s : State) (d : Dev) (c : Ctx) : s.Works (s.batchPasses d c) :=
  (s.invalidate_works _ _).trans <| (State.freeWhere_works _ _).trans <| (State.count_works _ _ _).trans
    (State.setCtx_works _ _ _)

theorem State.memoryStep_works (s : State) (d : Dev) (c : Ctx) (cmd : Cmd) : s.Works (s.memoryStep d c cmd) := by
  unfold State.memoryStep
  split
  · exact s.setCtx_works _ _
  · exact (s.setCtx_works _ _).trans (State.join_works _ (by simp))

theorem State.enterAwait_works (s : State) (d : Dev) (c : Ctx) : s.Works (s.enterAwait d c) := by
  unfold State.enterAwait
  dsimp only
  (repeat' split)
  · exact s.loseContext_works d _ _
  · exact s.setCtx_works _ _
  · exact s.setCtx_works _ _

theorem State.unremappable_works (s : State) (d : Dev) (c : Ctx) (changed : Bool) :
    s.Works (s.unremappable d c changed) := by
  unfold State.unremappable
  split
  · exact (s.markFailed_works _ _ _).trans <| (State.invalidate_works _ _ _).trans (State.enterAwait_works _ _ _)
  · exact (s.loseContext_works d c _).trans (State.setDev_works _ _ _)

theorem State.retireProgram_works (s : State) (d : Dev) (c : Ctx) (image : List Byte) :
    s.Works (s.retireProgram d c image) := by
  unfold State.retireProgram
  split
  · exact s.memoryStep_works _ _ _
  · split
    · next h => exact (State.takeSpare_works h).trans (State.memoryStep_works _ _ _ _)
    · exact s.unremappable_works d c _

theorem State.retireRead_works (s : State) (d : Dev) (c : Ctx) (changed : Bool) : s.Works (s.retireRead d c changed) := by
  unfold State.retireRead
  split
  · exact s.unremappable_works d c _
  · split
    · exact s.memoryStep_works _ _ _
    · exact s.retireProgram_works d c _

theorem State.batchFails_works (s : State) (d : Dev) (c : Ctx) : s.Works (s.batchFails d c) := s.retireRead_works _ _ _

theorem State.spareFails_works (s : State) (d : Dev) (c : Ctx) (spare : Nat) : s.Works (s.spareFails d c spare) :=
  (s.invalidate_works _ _).trans <| (State.retireCandidate_works _ _ _).trans (State.retireRead_works _ _ _ _)

theorem State.sparePasses_works (s : State) (d : Dev) (c : Ctx) (spare : Nat) : s.Works (s.sparePasses d c spare) := by
  have remapped : s.Works (((s.invalidate d c.home).remapTo d c.home spare).count .retirements 1) :=
    (s.invalidate_works _ _).trans <| (State.remapTo_works _ _ _ _).trans (State.count_works _ _ _)
  unfold State.sparePasses
  dsimp only
  split
  · exact remapped.trans <| (State.postFault_works _ _ _ _ _).trans (State.enterAwait_works _ _ _)
  · exact remapped.trans (State.enterAwait_works _ _ _)

theorem State.giveUpSuspend_works (s : State) (d : Dev) (c : Ctx) : s.Works (s.giveUpSuspend d c) := by
  unfold State.giveUpSuspend
  split
  · exact (s.withdraw_works _).trans (State.answerReads_works _ _ (by simp) (by simp))
  · exact .refl s

theorem State.programStarts_works (s : State) (d : Dev) : s.Works (s.programStarts d) := by
  unfold State.programStarts
  split
  · exact .refl s
  · dsimp only
    split <;> exact s.setCtx_works _ _

theorem State.programCompletes_works (s : State) (d : Dev) (pass : Bool) : s.Works (s.programCompletes d pass) := by
  have passes (c : Ctx) : s.Works ((s.giveUpSuspend d c).batchPasses d c) :=
    (s.giveUpSuspend_works d c).trans (State.batchPasses_works _ _ _)
  have fails (c : Ctx) : s.Works (((s.giveUpSuspend d c).invalidate d c.home).batchFails d c) :=
    (s.giveUpSuspend_works d c).trans <| (State.invalidate_works _ _ _).trans (State.batchFails_works _ _ _)
  unfold State.programCompletes
  (repeat' split)
  · exact .refl s
  · exact passes _
  · exact fails _
  · exact passes _
  · exact fails _
  · exact s.sparePasses_works _ _ _
  · exact s.spareFails_works _ _ _
  · exact .refl s
  · exact .refl s

theorem State.deviceSuspends_works (s : State) (d : Dev) : s.Works (s.deviceSuspends d) := by
  unfold State.deviceSuspends
  dsimp only
  (repeat' split)
  · exact .refl s
  · exact (s.withdraw_works _).trans <| (State.setCtx_works _ _ _).trans
      (State.answerReads_works _ _ (by simp) (by simp))
  · exact (s.withdraw_works _).trans <| (State.setCtx_works _ _ _).trans (State.join_works _ (by simp))
  · exact s.join_works (by simp)
  · exact (s.setCtx_works _ _).trans (State.join_works _ (by simp))
  · exact s.join_works (by simp)
  · exact s.join_works (by simp)
  · exact .refl s

theorem State.suspendSent_works (s : State) (d : Dev) : s.Works (s.suspendSent d) := by
  unfold State.suspendSent
  (repeat' split)
  · exact .refl s
  · exact s.setCtx_works _ _
  · exact s.setCtx_works _ _

theorem State.engineResumed_works (s : State) (d : Dev) : s.Works (s.engineResumed d) := by
  unfold State.engineResumed
  (repeat' split)
  · exact .refl s
  · exact s.setCtx_works _ _
  · exact .refl s

theorem State.readUnderSuspendEnds_works (s : State) (d : Dev) : s.Works (s.readUnderSuspendEnds d) := by
  unfold State.readUnderSuspendEnds
  (repeat' split)
  · exact .refl s
  · exact (s.setCtx_works _ _).trans (State.join_works _ (by simp))
  · exact .refl s

theorem State.engineResetDone_works (s : State) (d : Dev) : s.Works (s.engineResetDone d) := by
  unfold State.engineResetDone
  (repeat' split)
  · exact .refl s
  · exact s.spareFails_works _ _ _
  · exact s.batchFails_works _ _
  · exact .refl s

theorem State.ackExpires_works (s : State) (d : Dev) : s.Works (s.ackExpires d) := by
  unfold State.ackExpires
  (repeat' split)
  · exact .refl s
  · exact (s.setCtx_works _ _).trans (State.answerReads_works _ _ (by simp) (by simp))
  · exact .refl s

theorem State.programExpires_works (s : State) (d : Dev) : s.Works (s.programExpires d) := by
  unfold State.programExpires
  (repeat' split)
  · exact .refl s
  · exact (s.giveUpSuspend_works _ _).trans <| (State.invalidate_works _ _ _).trans <|
      (State.postFault_works _ _ _ _ _).trans <| (State.setCtx_works _ _ _).trans (State.join_works _ (by simp))
  · exact .refl s

theorem State.stopEngine_works (s : State) (d : Dev) : s.Works (s.stopEngine d) := by
  refine (s.setDe_works (s.de.set d { s.de.get d with stopping := true })).trans ?_
  unfold State.stopEngine
  dsimp only
  (repeat' split)
  · exact .refl _
  · exact (State.setCtx_works _ _ _).trans (State.withdraw_works _ _)
  · exact .refl _
  · exact (State.setCtx_works _ _ _).trans (State.withdraw_works _ _)
  · exact .refl _
  · exact (State.setCtx_works _ _ _).trans (State.withdraw_works _ _)
  · exact .refl _
  · exact State.setCtx_works _ _ _
  · exact .refl _

theorem State.awaitAgain_works (s : State) (d : Dev) (c : Ctx) : s.Works (s.awaitAgain d c) := by
  unfold State.awaitAgain
  split
  · exact s.loseContext_works d c _
  · exact s.setCtx_works _ _

theorem State.resumeEngine_works (s : State) (d : Dev) : s.Works (s.resumeEngine d) := by
  refine (s.setDe_works (s.de.set d { s.de.get d with stopping := false })).trans ?_
  unfold State.resumeEngine
  dsimp only
  (repeat' split)
  · exact .refl _
  · exact State.memoryStep_works _ _ _ _
  · exact State.retireRead_works _ _ _ _
  · exact State.retireProgram_works _ _ _ _
  · exact State.retireRead_works _ _ _ _
  · exact State.awaitAgain_works _ _ _
  · exact State.setCtx_works _ _ _
  · exact .refl _

/-! ### The operations of the memory port for the engines -/

theorem State.turnBusy_works (s : State) (d : Dev) (r : DevRecord) : s.Works (s.turnBusy d r) :=
  (s.setDev_works d r).trans (State.dropRefill_works _ _)

theorem State.programTaken_works (s : State) (q : Requester) (d : Dev) (page : Nat) (bytes : List (Option Byte)) :
    s.Works (s.programTaken q d page bytes) := by
  unfold State.programTaken
  dsimp only
  split
  · exact (s.nvmStart_works d page bytes).trans <| (State.turnBusy_works _ d _).trans <|
      (State.forgetAsked_works _ d).trans (State.programStarts_works _ _)
  · exact (s.nvmStart_works d page bytes).trans <| (State.turnBusy_works _ d _).trans (State.forgetAsked_works _ d)

theorem State.resetTaken_works (s : State) (q : Requester) (d : Dev) : s.Works (s.resetTaken q d) := by
  unfold State.resetTaken
  dsimp only
  split
  · exact (s.nvmSpoil_works d).trans <| (State.turnBusy_works _ d _).trans (State.join_works _ (by simp))
  · exact (s.nvmSpoil_works d).trans (State.turnBusy_works _ d _)

theorem State.resumeTaken_works (s : State) (d : Dev) : s.Works (s.resumeTaken d) := by
  unfold State.resumeTaken
  split
  · exact (s.setDev_works _ _).trans (State.engineResumed_works _ _)
  · exact .refl s

theorem State.suspendedReported_works (s : State) (d : Dev) : s.Works (s.suspendedReported d) := by
  refine (s.turnBusy_works d { s.dev d with activity := .suspended, poll := none }).trans ?_
  unfold State.suspendedReported
  dsimp only
  (repeat' split)
  · exact .refl _
  · exact State.deviceSuspends_works _ _
  · exact State.join_works _ (by simp)
  · exact .refl _

theorem State.retireReadReturned_works (s : State) (d : Dev) (bytes : List Byte) :
    s.Works (s.retireReadReturned d bytes) := by
  unfold State.retireReadReturned
  (repeat' split)
  · exact .refl s
  · exact s.retireProgram_works _ _ _
  · exact .refl s

theorem State.pollDue_works (s : State) (d : Dev) : s.Works (s.pollDue d) := by
  unfold State.pollDue
  split
  · exact (s.setDev_works _ _).trans (State.join_works _ (by simp))
  · exact .refl s

theorem State.muProgramExpires_works (s : State) : s.Works s.muProgramExpires := by
  unfold State.muProgramExpires
  split
  · exact (s.postFault_works _ _ _ _).trans <| (State.setDev_works _ _ _).trans (State.join_works _ (by simp))
  · exact .refl s

theorem State.retireOnRequest_works (s : State) (d : Dev) (page : Nat) : s.Works (s.retireOnRequest d page) :=
  (s.setMgp_works _).trans <| (State.gatherPage_works _ _ _).trans (State.retireRead_works _ _ _ _)

theorem State.swap_works {s t : State} (h : s.swap = some t) : s.Works t := by
  unfold State.swap at h
  (repeat' split at h) <;> cases h
  · exact State.HostKept.works .of_frame
  · exact State.HostKept.works .of_frame

theorem Access.tick_phase (a : Access) : a.tick.phase = a.phase := by
  unfold Access.tick
  split <;> rfl

theorem State.tick_heldPhase (s : State) : s.tick.heldPhase = s.heldPhase := by
  show ((s.setHp { s.hp with access := s.hp.access.map Access.tick }).heldPhase) = _
  unfold State.heldPhase
  cases s.hp.access <;> simp [Access.tick_phase]

theorem State.tick_works (s : State) : s.Works s.tick := by
  have devices : s.HostKept { s.tick with hp := s.hp } :=
    .of_frame (hp := rfl) (waiting := rfl) (opens := openLines_map_sublist (f := Entry.tick) (fun _ => rfl) (fun _ => id) _) (wait := rfl)
      (read := rfl) (reqs := Nat.le_refl _)
  exact State.HostKept.works { devices with phase := s.tick_heldPhase } (probe := rfl)

end Sys2Proof.Machine
end

section
/-! The operations of the state controller and the metadata unit: each leaves the held accesses, and says where it may lead the
operating state. -/

namespace Sys2Proof.Machine

/- One theorem after another: waiting ones would each hold a thread. -/
set_option Elab.async false

/-- The held accesses stand, no probe is begun, RUN is not left, and BOOT is not entered, nor its beginning. -/
structure State.Moves (s t : State) : Prop extends State.HostKept s t where
  probe : t.mp.probe.isSome = true → s.mp.probe.isSome = true
  boot  : t.sc.state = .boot → s.sc.state = .boot ∧ (t.sc.step = none → s.sc.step = none)
  run   : t.sc.state ≠ .run → s.sc.state ≠ .run

theorem State.Moves.trans {s t u : State} (h : s.Moves t) (k : t.Moves u) : s.Moves u where
  toHostKept := h.toHostKept.trans k.toHostKept
  probe := h.probe ∘ k.probe
  boot b :=
    have ⟨bt, st⟩ := k.boot b
    have ⟨bs, ss⟩ := h.boot bt
    ⟨bs, ss ∘ st⟩
  run := h.run ∘ k.run

theorem State.HostKept.moves {s t : State} (h : s.HostKept t)
    (boot : t.sc.state = .boot → s.sc.state = .boot ∧ (t.sc.step = none → s.sc.step = none) := by simp)
    (run : t.sc.state ≠ .run → s.sc.state ≠ .run := by simp)
    (probe : t.mp.probe.isSome = true → s.mp.probe.isSome = true := by simp) : s.Moves t :=
  { h with probe := probe, boot := boot, run := run }

theorem State.Works.moves {s t : State} (h : s.Works t) : s.Moves t :=
  h.toHostKept.moves (by rw [h.controller]; exact fun b => ⟨b, id⟩) (by rw [h.controller]; exact id)
    (by rw [h.probe]; exact id)

theorem State.Moves.refl (s : State) : s.Moves s := (State.Works.refl s).moves

/-! ### Where the operating state goes (R155) -/

theorem State.enterRun_sc (s : State) :
    s.enterRun.sc = { s.sc with state := .run, step := none, returnWrite := false, plan := none } := by
  simp [State.enterRun]

theorem State.setSc_hostKept (s : State) (x : StateController) : s.HostKept (s.setSc x) := .of_frame

theorem State.setSc_moves (s : State) (x : StateController)
    (boot : x.state = .boot → s.sc.state = .boot ∧ (x.step = none → s.sc.step = none) := by simp)
    (run : x.state ≠ .run → s.sc.state ≠ .run := by simp) : s.Moves (s.setSc x) :=
  (s.setSc_hostKept x).moves boot run

theorem State.setHeader_moves (s : State) (h : HeaderView) : s.Moves (s.setHeader h) :=
  s.setSc_moves _ (fun b => ⟨b, id⟩) id

theorem State.setPfail_moves (s : State) (level : Bool) : s.Moves (s.setPfail level) :=
  s.setSc_moves _ (fun b => ⟨b, id⟩) id

theorem State.setMu_moves (s : State) (m : MetadataUnit) : s.Moves (s.setMu m) :=
  State.HostKept.moves .of_frame (by simp) (by simp)

theorem State.setOp_moves (s : State) (op : Option MuOp) : s.Moves (s.setOp op) := s.setMu_moves _
theorem State.askWrite_moves (s : State) (w : ScWrite) : s.Moves (s.askWrite w) := s.setMu_moves _

theorem State.muRequest_works (s : State) (cmd : Cmd) : s.Works (s.muRequest cmd) := s.join_works (by simp)

/-- RUN may be entered from anywhere. -/
theorem State.enterRun_moves (s : State) : s.Moves s.enterRun := by
  have kept : s.HostKept s.enterRun :=
    (s.setSc_hostKept _).trans ((State.resumeEngine_works _ .d0).trans (State.resumeEngine_works _ .d1)).toHostKept
  have probe : s.enterRun.mp.probe = s.mp.probe :=
    (State.resumeEngine_works _ .d1).probe.trans (State.resumeEngine_works _ .d0).probe
  exact kept.moves (by simp [s.enterRun_sc]) (by simp [s.enterRun_sc]) (by simp [probe])

/-- HALTED is entered from a state other than RUN. -/
theorem State.halt_moves {s : State} (h : s.sc.state ≠ .run) : s.Moves s.halt :=
  s.setSc_moves _ nofun (fun _ => h)

theorem State.cleanFailed_moves {s : State} (h : s.sc.state ≠ .run) : s.Moves s.cleanFailed :=
  (s.setHeader_moves _).trans <| (State.postFault_works _ _ _ _ _).moves.trans
    (State.halt_moves (by simpa [State.setHeader] using h))

theorem State.beginReturn_moves (s : State) : s.Moves s.beginReturn := by
  unfold State.beginReturn
  split
  · exact s.enterRun_moves
  · exact (s.setSc_moves _ (by simp)).trans (State.askWrite_moves _ _)

theorem State.enterDumped_moves {s : State} (h : s.sc.state ≠ .run) : s.Moves s.enterDumped := by
  have dumped : s.Moves (s.setSc { s.sc with state := .dumped, step := none, plan := none, returnWrite := false }) :=
    s.setSc_moves _ nofun (fun _ => h)
  unfold State.enterDumped
  dsimp only
  split
  · exact dumped
  · exact dumped.trans (State.beginReturn_moves _)

theorem State.holdupEnds_moves {s : State} (h : s.sc.state ≠ .run) : s.Moves s.holdupEnds := by
  unfold State.holdupEnds
  dsimp only
  split
  · exact State.enterDumped_moves h
  · split
    · exact (s.setSc_moves _ (by simp) (fun _ => h)).trans (State.askWrite_moves _ _)
    · exact ((s.declareLost_works _).trans <| (State.setCtx_works _ _ _).trans <| (State.setCtx_works _ _ _).trans
        (State.postFault_works _ _ _ _ _)).moves.trans (State.enterDumped_moves (by simpa using h))

theorem State.dumpNext_moves (s : State) (plan : DumpPlan) (w : ScWrite) : s.Moves (s.dumpNext plan w) :=
  (s.setSc_moves _ (by simp)).trans (State.askWrite_moves _ _)

theorem State.writeFailed_moves (s : State) (w : ScWrite) : s.Moves (s.writeFailed w) := by
  have failed {t : State} (h : t.sc.state = .dumping) (n : Nat) :
      t.Moves (t.postFault .dumpFailed (some .d0) (some w.page) (some n)).enterDumped :=
    (t.postFault_works _ _ _ _).moves.trans (State.enterDumped_moves (by simp [h]))
  unfold State.writeFailed
  split
  · next h => exact State.cleanFailed_moves (by simp [h])
  · next h => exact State.cleanFailed_moves (by simp [h])
  · next h =>
    dsimp only
    split
    · exact (s.setHeader_moves _).trans (failed (by simpa [State.setHeader] using h) _)
    · exact failed h _
  · next h => exact State.cleanFailed_moves (by simp [h])
  · exact .refl s

theorem State.bootCleanWrite_moves (s : State) : s.Moves s.bootCleanWrite :=
  (s.setSc_moves _ (by simp)).trans (State.askWrite_moves _ _)

/-- The entries of a replay are SEALED (R26). -/
theorem State.enterReplay_moves {s : State} (h : s.sc.state ≠ .run) (records : List DumpRecord) :
    s.Moves (s.enterReplay records) := by
  have none_open : openLines (s.enterReplay records).pwb.entries = [] := by
    rw [openLines_eq_nil]
    simp [State.enterReplay, DumpRecord.entry]
  exact State.HostKept.moves (.of_frame (waiting := rfl) (opens := by rw [none_open]; exact List.nil_sublist _))
    nofun (fun _ => h)

theorem State.headerReported_moves {s : State} (h : s.sc.state ≠ .run) (r : HeaderReport) :
    s.Moves (s.headerReported r) := by
  unfold State.headerReported
  split
  · exact (s.setHeader_moves _).trans (State.enterRun_moves _)
  · exact (s.setHeader_moves _).trans (State.bootCleanWrite_moves _)
  · exact (s.setHeader_moves _).trans <| (State.postFault_works _ _ _ _ _).moves.trans (State.bootCleanWrite_moves _)
  · exact (s.setHeader_moves _).trans <| (State.postFault_works _ _ _ _ _).moves.trans (State.bootCleanWrite_moves _)
  · exact (s.setHeader_moves .valid).trans (State.enterReplay_moves (by simpa [State.setHeader] using h) _)

theorem State.setProbe_hostKept (s : State) (p : Option (PerDev (Option Bool))) :
    s.HostKept (s.setMp { s.mp with probe := p }) :=
  .of_frame

theorem State.breakOff_moves (s : State) (p : Persist) (touched : Bool) : s.Moves (s.breakOff p touched) :=
  s.setMu_moves _

theorem State.stopPersist_moves (s : State) : s.Moves s.stopPersist := by
  unfold State.stopPersist
  split
  · split
    · exact (s.withdraw_works _).moves.trans (State.breakOff_moves _ _ _)
    · exact s.setOp_moves _
  · exact .refl s

theorem State.stopBootReads_moves (s : State) : s.Moves s.stopBootReads := by
  unfold State.stopBootReads
  (repeat' split)
  · exact (s.withdraw_works _).moves.trans (State.setOp_moves _ _)
  · exact .refl s
  · exact (s.withdraw_works _).moves.trans (State.setOp_moves _ _)
  · exact .refl s
  · exact (s.withdraw_works _).moves.trans (State.setOp_moves _ _)
  · exact .refl s
  · exact .refl s

/-- STOPPED is entered from a state other than RUN. -/
theorem State.enterStopped_moves {s : State} (h : s.sc.state ≠ .run) : s.Moves s.enterStopped :=
  have stopped : s.Moves (s.setSc { s.sc with state := .stopped, step := none }) :=
    s.setSc_moves _ nofun (fun _ => h)
  stopped.trans <| (State.stopEngine_works _ .d0).moves.trans <| (State.stopEngine_works _ .d1).moves.trans <|
    (State.stopPersist_moves _).trans <| (State.stopBootReads_moves _).trans <| (State.withdraw_works _ _).moves.trans <|
    ((State.setProbe_hostKept _ none).moves (fun b => ⟨b, id⟩) id nofun).trans (State.setMu_moves _ _)

theorem State.enterStopped_state (s : State) : s.enterStopped.sc.state = .stopped := by simp [State.enterStopped]

/-! A metadata fault, by its parts (R148). -/

/-- The fault flag of a kind. -/
def State.flagFault (s : State) (k : Kind) : State := s.setMu (s.mu.setSlot k { s.mu.slot k with fault := true })

/-- The persist of a kind ends. -/
def State.endPersistOf (s : State) (k : Kind) : State :=
  match s.mu.op with
  | some (.persist p) => if p.snapshot.kind = k then (s.withdraw (isFrom .mu .d0)).setOp none else s
  | _ => s

/-- The decoder learns that its table does not persist. -/
def State.tellDecoder (s : State) (k : Kind) : State :=
  if k = .config then s.setWd { s.wd with persist := .failed } else s

/-- A restart that waits for a persist ends. -/
def State.giveUpRestart (s : State) : State := if s.sc.state = .restarting then s.enterRun else s

theorem State.raiseFault_eq (s : State) (k : Kind) :
    s.raiseFault k = (((s.flagFault k).endPersistOf k).tellDecoder k).giveUpRestart :=
  rfl

theorem State.endPersistOf_moves (s : State) (k : Kind) : s.Moves (s.endPersistOf k) := by
  unfold State.endPersistOf
  (repeat' split)
  · exact (s.withdraw_works _).moves.trans (State.setOp_moves _ _)
  · exact .refl s
  · exact .refl s

theorem State.tellDecoder_works (s : State) (k : Kind) : s.Works (s.tellDecoder k) := by
  unfold State.tellDecoder
  split
  · exact s.setWd_works _
  · exact .refl s

theorem State.giveUpRestart_moves (s : State) : s.Moves s.giveUpRestart := by
  unfold State.giveUpRestart
  split
  · exact s.enterRun_moves
  · exact .refl s

theorem State.raiseFault_moves (s : State) (k : Kind) : s.Moves (s.raiseFault k) := by
  rw [s.raiseFault_eq]
  exact (s.setMu_moves _).trans <| (State.endPersistOf_moves _ k).trans <| (State.tellDecoder_works _ k).moves.trans
    (State.giveUpRestart_moves _)

theorem State.requestPart_moves (s : State) (p : Persist) : s.Moves (s.requestPart p) :=
  (s.setOp_moves _).trans (State.muRequest_works _ _).moves

theorem State.startPersist_moves {s t : State} (h : s.startPersist = some t) : s.Moves t := by
  unfold State.startPersist at h
  split at h <;> cases h
  exact (s.setMu_moves _).trans (State.requestPart_moves _ _)

theorem State.persistDone_moves (s : State) (p : Persist) : s.Moves (s.persistDone p) := by
  unfold State.persistDone
  dsimp only
  split
  · exact (s.setMu_moves _).trans (State.setRu_works _ _).moves
  · exact (s.setMu_moves _).trans ((State.setWd_works _ _).trans (State.setMgp_works _ _)).moves

theorem State.attemptFails_moves (s : State) (p : Persist) : s.Moves (s.attemptFails p) := by
  unfold State.attemptFails
  split
  · exact s.requestPart_moves _
  · dsimp only
    split
    · exact (s.setMu_moves _).trans <| (State.postFault_works _ _ _ _ _).moves.trans <| (State.setOp_moves _ _).trans
        (State.raiseFault_moves _ _)
    · exact (s.setMu_moves _).trans <| (State.postFault_works _ _ _ _ _).moves.trans (State.requestPart_moves _ _)

theorem State.takeWrite_moves {s t : State} (h : s.takeWrite = some t) : s.Moves t := by
  unfold State.takeWrite at h
  split at h
  · next w _ =>
    cases h
    refine (s.setMu_moves { s.mu with waiting := none }).trans ?_
    dsimp only
    split
    · exact (State.setOp_moves _ _).trans (State.muRequest_works _ _).moves
    · exact State.writeFailed_moves _ _
  · exact nomatch h

theorem State.writeFails_moves (s : State) (w : ScWrite) (attempt : Nat) : s.Moves (s.writeFails w attempt) := by
  unfold State.writeFails
  split
  · exact (s.setOp_moves _).trans (State.muRequest_works _ _).moves
  · exact (s.setOp_moves _).trans (State.writeFailed_moves _ _)

theorem State.muOffline_moves (s : State) : s.Moves s.muOffline := by
  refine ((s.raiseFault_moves .config).trans (State.raiseFault_moves _ .remap)).trans ?_
  unfold State.muOffline
  dsimp only
  split
  · exact (State.setOp_moves _ _).trans (State.writeFailed_moves _ _)
  · exact State.setOp_moves _ _
  · exact .refl _

theorem State.loadConfig_moves (s : State) (a b : List Byte) : s.Moves (s.loadConfig a b) := by
  unfold State.loadConfig
  split
  · exact (s.setWd_works _).moves.trans (State.setMu_moves _ _)
  · exact (s.setWd_works _).moves.trans <| (State.setMu_moves _ _).trans (State.postFault_works _ _ _ _ _).moves

theorem State.loadRemap_moves (s : State) (a b : List Byte) : s.Moves (s.loadRemap a b) := by
  unfold State.loadRemap
  split
  · exact (s.setRu_works _).moves.trans (State.setMu_moves _ _)
  · exact (s.setRu_works _).moves.trans <| (State.setMu_moves _ _).trans (State.postFault_works _ _ _ _ _).moves

theorem State.sparesLowAtLoad_works (s : State) (d : Dev) : s.Works (s.sparesLowAtLoad d) := by
  unfold State.sparesLowAtLoad
  split
  · exact s.postFault_works _ _ _ _
  · exact .refl s

theorem State.loadDone_moves (s : State) (pages : List (List Byte)) : s.Moves (s.loadDone pages) :=
  (s.loadConfig_moves _ _).trans <| (State.loadRemap_moves _ _ _).trans <|
    ((State.sparesLowAtLoad_works _ .d0).trans <| (State.sparesLowAtLoad_works _ .d1).trans
      (State.setMgp_works _ _)).moves.trans <|
    (State.setSc_moves _ _ (by simp)).trans <| (State.setOp_moves _ _).trans
      (State.muRequest_works _ _).moves

theorem State.readDumpPage_moves (s : State) (n : Nat) (crc : Word32) (bytes : List Byte) (k : Nat) :
    s.Moves (s.readDumpPage n crc bytes k) :=
  (s.setOp_moves _).trans (State.muRequest_works _ _).moves

theorem State.headerRead_moves {s : State} (h : s.sc.state ≠ .run) (bytes : List Byte) : s.Moves (s.headerRead bytes) := by
  refine (s.setOp_moves none).trans ?_
  have reported (r : HeaderReport) : (s.setOp none).Moves ((s.setOp none).headerReported r) :=
    State.headerReported_moves (by simpa using h) r
  unfold State.headerRead
  dsimp only
  (repeat' split)
  · exact reported _
  · exact reported _
  · exact State.readDumpPage_moves _ _ _ _ _
  · exact reported _
  · exact reported _

theorem State.recordsRead_moves {s : State} (h : s.sc.state ≠ .run) (n : Nat) (crc : Word32) (acc : List Byte) (k : Nat)
    (bytes : List Byte) : s.Moves (s.recordsRead n crc acc k bytes) := by
  unfold State.recordsRead
  dsimp only
  split
  · exact s.readDumpPage_moves _ _ _ _
  · exact (s.setOp_moves none).trans (State.headerReported_moves (by simpa using h) _)

theorem State.muReadEnds_moves (s : State) (bytes : List Byte) : s.Moves (s.muReadEnds bytes) := by
  unfold State.muReadEnds
  split
  · exact s.setOp_moves _
  · next hb =>
    have h : s.sc.state ≠ .run := by
      intro hr
      simp [hr] at hb
    split
    · dsimp only
      split
      · exact (s.setOp_moves _).trans (State.muRequest_works _ _).moves
      · exact s.loadDone_moves _
    · exact State.headerRead_moves h _
    · exact State.recordsRead_moves h _ _ _ _ _
    · exact .refl s

theorem State.replayEnd_moves {s t : State} (h : s.replayEnd = some t) : s.Moves t := by
  unfold State.replayEnd at h
  split at h <;> cases h
  exact s.askWrite_moves _

/-- The end of the probe leaves BOOT for HALTED, or goes on in BOOT (R157). -/
theorem State.probeReported_moves {s : State} (h : s.sc.state ≠ .run) : s.Moves s.probeReported := by
  have ended : s.Moves (s.setMp { s.mp with probe := none }) :=
    (s.setProbe_hostKept none).moves (fun b => ⟨b, id⟩) id nofun
  refine ended.trans ?_
  unfold State.probeReported
  dsimp only
  split
  · exact (State.setSc_moves _ _ (by simp)).trans <| (State.setOp_moves _ _).trans
      (State.muRequest_works _ _).moves
  · exact (State.setSc_moves _ _ (by simp)).trans (State.halt_moves h)

end Sys2Proof.Machine
end

section
/-! What every effect keeps of the held accesses and the OPEN entries: each access with its holder (R104), one OPEN entry of a
line (R7), and neither outside RUN (R18, R112). -/

namespace Sys2Proof.Machine

/- One theorem after another: waiting ones would each hold a thread. -/
set_option Elab.async false

/-! ### No access held -/

/-- No access is held, and no block holds anything for one. -/
structure State.NoneHeld (s : State) : Prop where
  phase    : s.heldPhase = none
  waiting  : s.pwb.waiting = none
  wait     : s.fu.wait = none
  host     : s.rp.host = none
  requests : s.hostRequests = 0

theorem State.NoneHeld.held {s : State} (h : s.NoneHeld) : s.Held where
  asked := h.requests.trans_le (Nat.zero_le _)
  buffer := by simp [h.waiting, h.phase]
  wait := by simp [h.wait, h.phase]
  read := by simp [h.host, h.phase]

section
variable {s : State} (h : s.Held)
include h

theorem State.Held.waiting_none (hp : s.heldPhase ≠ some .heldBuffer) : s.pwb.waiting = none := by
  simpa using mt h.buffer.1 hp

theorem State.Held.wait_none (hp : s.heldPhase ≠ some .heldWt) : s.fu.wait = none := by
  simpa using mt h.wait.1 hp

theorem State.Held.host_none (hp : s.heldPhase ≠ some .heldRead) : s.rp.host = none := by
  simpa using mt h.read.1 hp

/-- Without a read that waits for its transfer no host-read request waits. -/
theorem State.Held.requests_zero (hr : s.readRequests = 0) : s.hostRequests = 0 :=
  Nat.le_zero.1 (hr ▸ h.asked)

theorem State.Held.noneHeld (hp : s.heldPhase = none) : s.NoneHeld where
  phase := hp
  waiting := h.waiting_none (by simp [hp])
  wait := h.wait_none (by simp [hp])
  host := h.host_none (by simp [hp])
  requests := h.requests_zero (by simp [State.readRequests, h.host_none (by simp [hp])])

theorem State.Held.phase_of_waiting {w : PendingWrite} (hw : s.pwb.waiting = some w) : s.heldPhase = some .heldBuffer :=
  h.buffer.1 (by simp [hw])

theorem State.Held.phase_of_wait {w : WaitRecord} (hw : s.fu.wait = some w) : s.heldPhase = some .heldWt :=
  h.wait.1 (by simp [hw])

theorem State.Held.phase_of_host {r : HostRead} (hr : s.rp.host = some r) : s.heldPhase = some .heldRead :=
  h.read.1 (by simp [hr])

end

theorem State.heldPhase_isSome {s : State} {p : AccessPhase} (h : s.heldPhase = some p) :
    ∃ a, s.hp.access = some a ∧ a.phase = p ∧ p ≠ .complete := by
  unfold State.heldPhase at h
  split at h
  · exact nomatch h
  · next a ha =>
    split at h <;> cases h
    exact ⟨a, ha, rfl, ‹_›⟩

/-- A completed access is not held. -/
@[simp] theorem State.complete_heldPhase (s : State) (err : Option Cause) (data : Half) :
    (s.complete err data).heldPhase = none := by
  unfold State.complete
  split
  · next h => simp [State.heldPhase, h]
  · split <;> simp [State.heldPhase, State.count]

theorem State.holdAccess_heldPhase {s : State} {p : AccessPhase} (h : s.hp.access.isSome = true) (hp : p ≠ .complete) :
    (s.holdAccess p).heldPhase = some p := by
  obtain ⟨a, ha⟩ := Option.isSome_iff_exists.1 h
  simp [State.holdAccess, State.heldPhase, ha, hp]

/-! ### What is kept -/

/-- What the invariants of the held accesses and the OPEN entries need of a change. -/
structure State.Keeps (s t : State) : Prop where
  held    : s.Held → t.Held
  oneOpen : s.Held → s.OneOpen → t.OneOpen
  order   : s.BootOrder → t.BootOrder
  shut    : s.Held → s.BootOrder → s.ShutOutsideRun → t.ShutOutsideRun

theorem State.Keeps.trans {s t u : State} (h : s.Keeps t) (k : t.Keeps u) : s.Keeps u where
  held hs := k.held (h.held hs)
  oneOpen hs ho := k.oneOpen (h.held hs) (h.oneOpen hs ho)
  order hb := k.order (h.order hb)
  shut hs hb hc := k.shut (h.held hs) (h.order hb) (h.shut hs hb hc)

theorem State.HostKept.held {s t : State} (k : s.HostKept t) (h : s.Held) : t.Held where
  asked := by
    have := k.asked
    have : s.hostRequests ≤ s.readRequests := h.asked
    show t.hostRequests ≤ t.readRequests
    omega
  buffer := by rw [k.waiting, k.phase]; exact h.buffer
  wait := by rw [k.wait, k.phase]; exact h.wait
  read := by rw [k.host, k.phase]; exact h.read

theorem State.HostKept.noneHeld {s t : State} (k : s.HostKept t) (h : s.NoneHeld) : t.NoneHeld :=
  (k.held h.held).noneHeld (k.phase.trans h.phase)

theorem State.OneOpen.of_sublist {s t : State} (h : s.OneOpen)
    (opens : (openLines t.pwb.entries).Sublist (openLines s.pwb.entries))
    (waiting : ∀ w, t.pwb.waiting = some w → s.pwb.waiting = some w) : t.OneOpen := by
  rw [State.oneOpen_iff] at h ⊢
  exact ⟨h.1.sublist opens, fun w hw hl => h.2 w (waiting w hw) (opens.subset hl)⟩

theorem State.ShutOutsideRun.of_sublist {s t : State} (h : s.ShutOutsideRun)
    (run : t.sc.state ≠ .run → s.sc.state ≠ .run) (phase : s.heldPhase = none → t.heldPhase = none)
    (opens : (openLines t.pwb.entries).Sublist (openLines s.pwb.entries)) : t.ShutOutsideRun := by
  rw [State.shutOutsideRun_iff] at h ⊢
  intro ht
  obtain ⟨held, shut⟩ := h (run ht)
  rw [shut] at opens
  exact ⟨phase held, List.sublist_nil.1 opens⟩

theorem State.HostKept.keeps {s t : State} (k : s.HostKept t) (order : s.BootOrder → t.BootOrder)
    (run : s.BootOrder → t.sc.state ≠ .run → s.sc.state ≠ .run) : s.Keeps t where
  held := k.held
  oneOpen _ h := h.of_sublist k.opens (by simp [k.waiting])
  order := order
  shut _ hb h := h.of_sublist (run hb) (by simp [k.phase]) k.opens

theorem State.BootOrder.congr {s t : State} (h : s.BootOrder) (probe : t.mp.probe = s.mp.probe) (sc : t.sc = s.sc)
    (op : t.mu.op = s.mu.op) (write : t.mu.waiting = s.mu.waiting) : t.BootOrder := by
  constructor
  · rw [sc, op, write, probe]
    exact h.start
  · rw [sc, op, write, probe]
    exact h.probe

/-- Outside BOOT, with no probe in hand, nothing is said. -/
theorem State.bootOrder_of_left {s : State} (state : s.sc.state ≠ .boot) (probe : s.mp.probe = none) : s.BootOrder where
  start h := absurd h state
  probe h := by simp [probe] at h

theorem State.BootOrder.probe_none {s : State} (h : s.BootOrder) (state : s.sc.state ≠ .boot) : s.mp.probe = none := by
  simpa using mt (fun hp => (h.probe hp).1) state

theorem State.Works.keeps {s t : State} (k : s.Works t) : s.Keeps t :=
  k.toHostKept.keeps (fun h => h.congr k.probe k.controller k.op k.write) (fun _ => by rw [k.controller]; exact id)

theorem State.Keeps.refl (s : State) : s.Keeps s := (State.Works.refl s).keeps

/-- A move keeps the order of boot when the metadata unit, found idle in BOOT, is left idle in BOOT. -/
theorem State.Moves.keeps {s t : State} (k : s.Moves t)
    (quiet : s.sc.state = .boot → s.mu.op = none → s.mu.waiting = none →
      t.mu.op = none ∧ t.mu.waiting = none ∧ t.sc.state = .boot := by simp_all) : s.Keeps t := by
  refine k.toHostKept.keeps (fun h => ?_) (fun _ => k.run)
  constructor
  · intro boot step
    have ⟨bs, ss⟩ := k.boot boot
    obtain ⟨op, write, probe⟩ := h.start bs (ss step)
    obtain ⟨op', write', -⟩ := quiet bs op write
    exact ⟨op', write', by simpa using mt k.probe (by simp [probe])⟩
  · intro probe
    obtain ⟨boot, op, write⟩ := h.probe (k.probe probe)
    obtain ⟨op', write', boot'⟩ := quiet boot op write
    exact ⟨boot', op', write'⟩

/-! ### Operations that let a held access go -/

/-- A held access may be let go, and beside that the host's side is left. -/
structure State.Releases (s t : State) : Prop where
  held       : s.Held → t.Held
  phase      : s.heldPhase = none → t.heldPhase = none
  waiting    : ∀ w, t.pwb.waiting = some w → s.pwb.waiting = some w
  opens      : (openLines t.pwb.entries).Sublist (openLines s.pwb.entries)
  probe      : t.mp.probe = s.mp.probe
  controller : t.sc = s.sc
  op         : t.mu.op = s.mu.op
  write      : t.mu.waiting = s.mu.waiting

theorem State.Releases.keeps {s t : State} (k : s.Releases t) : s.Keeps t where
  held := k.held
  oneOpen _ h := h.of_sublist k.opens k.waiting
  order h := h.congr k.probe k.controller k.op k.write
  shut _ _ h := h.of_sublist (by rw [k.controller]; exact id) k.phase k.opens

/-- What an operation has to leave that ends with no access held. -/
theorem State.Releases.of_noneHeld {s t : State} (held : s.Held → t.NoneHeld) (phase : t.heldPhase = none := by simp)
    (waiting : ∀ w, t.pwb.waiting = some w → s.pwb.waiting = some w := by simp)
    (opens : (openLines t.pwb.entries).Sublist (openLines s.pwb.entries) := by simp)
    (probe : t.mp.probe = s.mp.probe := by simp) (controller : t.sc = s.sc := by simp)
    (op : t.mu.op = s.mu.op := by simp) (write : t.mu.waiting = s.mu.waiting := by simp) : s.Releases t where
  held h := (held h).held
  phase _ := phase
  waiting := waiting
  opens := opens
  probe := probe
  controller := controller
  op := op
  write := write

theorem State.closeHostRead_host (s : State) : s.closeHostRead.rp.host = none := by
  unfold State.closeHostRead
  split
  · assumption
  · dsimp only
    split
    · rfl
    · unfold State.endSuspendOf
      split
      · simp
      · rfl

/-- Withdrawn with its read, no host-read request waits. -/
theorem State.closeHostRead_requests {s : State} (h : s.hostRequests ≤ s.readRequests) : s.closeHostRead.hostRequests = 0 := by
  unfold State.closeHostRead
  split
  · next hn => exact Nat.le_zero.1 (h.trans (by simp [State.readRequests, hn]))
  · next r hr =>
    dsimp only
    split
    · next ht => exact Nat.le_zero.1 (h.trans (by simp [State.readRequests, hr, ht]))
    · have none_left : ((s.setRp { s.rp with host := none }).withdraw (fun q => q.requester = .hostRead)).hostRequests
          = 0 := by
        simp [State.hostRequests, State.withdraw, List.countP_filter]
      unfold State.endSuspendOf
      split
      · have kept := (State.requesterGone_works
          ((s.setRp { s.rp with host := none }).withdraw (fun q => q.requester = .hostRead)) r.loc.dev).asked
        have idle (t : State) (ht : t.rp.host = none) : t.readRequests = 0 := by simp [State.readRequests, ht]
        rw [none_left, idle _ rfl, idle _ (by simp)] at kept
        exact Nat.le_zero.1 kept
      · exact none_left

theorem State.closeHostRead_probe (s : State) : s.closeHostRead.mp.probe = s.mp.probe := by
  unfold State.closeHostRead
  split
  · rfl
  · dsimp only
    split
    · rfl
    · exact (State.endSuspendOf_works _ _ _).probe

end Sys2Proof.Machine
end

section
/-! What every effect keeps of the held accesses and the OPEN entries, the effects that touch them. -/

namespace Sys2Proof.Machine

/- One theorem after another: waiting ones would each hold a thread. -/
set_option Elab.async false

/-! ### Held accesses let go -/

/-- A read that waits for its transfer completes with its record closed. -/
theorem State.closeHostRead_complete_releases {s : State} {r : HostRead} (hr : s.rp.host = some r) (c : Option Cause)
    (data : Half) : s.Releases (s.closeHostRead.complete c data) := by
  refine .of_noneHeld (fun h => ?_) (probe := by simp [s.closeHostRead_probe])
  have phase := h.phase_of_host hr
  exact {
    phase := by simp
    waiting := by simpa using h.waiting_none (by simp [phase])
    wait := by simpa using h.wait_none (by simp [phase])
    host := by simpa using s.closeHostRead_host
    requests := by simpa [State.hostRequests] using State.closeHostRead_requests h.asked }

/-- A write that waits for an entry completes. -/
theorem State.dropPending_complete_releases {s : State} {w : PendingWrite} (hw : s.pwb.waiting = some w)
    (c : Option Cause) (data : Half) : s.Releases (s.dropPending.complete c data) := by
  refine .of_noneHeld (fun h => ?_)
    (waiting := by simp [State.dropPending]) (opens := by simp [State.dropPending])
  have phase := h.phase_of_waiting hw
  have host := h.host_none (by simp [phase])
  exact {
    phase := by simp
    waiting := by simp [State.dropPending]
    wait := by simpa using h.wait_none (by simp [phase])
    host := by simpa using host
    requests := by simpa [State.hostRequests] using h.requests_zero (by simp [State.readRequests, host]) }

/-- A write-through access completes with its wait record closed. -/
theorem State.closeWait_complete_releases {s : State} {w : WaitRecord} (hw : s.fu.wait = some w) (c : Option Cause)
    (data : Half) : s.Releases ((s.setFu { s.fu with wait := none }).complete c data) := by
  refine .of_noneHeld (fun h => ?_)
  have phase := h.phase_of_wait hw
  have host := h.host_none (by simp [phase])
  exact {
    phase := by simp
    waiting := by simpa using h.waiting_none (by simp [phase])
    wait := by simp
    host := by simpa using host
    requests := by simpa [State.hostRequests] using h.requests_zero (by simp [State.readRequests, host]) }

theorem State.completeWait_releases {s t : State} (h : s.completeWait = some t) : s.Releases t := by
  unfold State.completeWait at h
  split at h
  · exact nomatch h
  · next hw =>
    split at h <;> cases h
    exact State.closeWait_complete_releases hw _ _

theorem State.deliverRead_releases (s : State) (bytes : List Byte) : s.Keeps (s.deliverRead bytes) := by
  unfold State.deliverRead
  split
  · next r hr =>
    split
    · next ht =>
      refine State.Releases.keeps (.of_noneHeld (fun h => ?_))
      have phase := h.phase_of_host hr
      exact {
        phase := by simp
        waiting := by simpa using h.waiting_none (by simp [phase])
        wait := by simpa using h.wait_none (by simp [phase])
        host := by simp
        requests := by simpa [State.hostRequests] using h.requests_zero (by simp [State.readRequests, hr, ht]) }
    · exact .refl s
  · exact .refl s

theorem State.readsOffline_keeps (s : State) (d : Dev) : s.Keeps (s.readsOffline d) := by
  have lines : s.Works ((s.setRp { s.rp with lines := s.rp.lines.filter (fun r => r.loc.dev ≠ d) }).dropRefill
      (fun l => l.dev = d)) := (s.setLines_works _).trans (State.dropRefill_works _ _)
  have fetches (a : State) : a.Works (match a.rp.fetch with
      | some f => if f.loc.dev = d then a.closeFetch else a
      | none => a) := by
    split
    · split
      · exact a.closeFetch_works
      · exact .refl a
    · exact .refl a
  have reads (b : State) : b.Keeps (match b.rp.host with
      | some r => if r.loc.dev = d ∧ r.phase ≠ .transfer then b.closeHostRead.complete (some .deviceUnavailable) 0 else b
      | none => b) := by
    split
    · next hr =>
      split
      · exact (State.closeHostRead_complete_releases hr _ _).keeps
      · exact .refl b
    · exact .refl b
  exact lines.keeps.trans ((fetches _).keeps.trans (reads _))

/-! ### The release and the stall limit (R106, R110, R111) -/

theorem State.heldPhase_of_access {s : State} {a : Access} (ha : s.hp.access = some a) (hp : a.phase ≠ .complete) :
    s.heldPhase = some a.phase := by
  simp [State.heldPhase, ha, hp]

/-- Renamed as a fetch's, no request is a host read's. -/
theorem State.Held.abandonRead_noneHeld {s : State} (h : s.Held) {a : Access} (ha : s.hp.access = some a)
    (hp : a.phase = .heldRead) (lastErr : Option HostError) :
    ((s.setHp { access := none, lastErr := lastErr }).abandonRead).NoneHeld := by
  have phase := State.heldPhase_of_access ha (by simp [hp])
  rw [hp] at phase
  have waiting := h.waiting_none (by simp [phase])
  have wait := h.wait_none (by simp [phase])
  obtain ⟨r, hr⟩ := Option.isSome_iff_exists.1 (h.read.2 phase)
  unfold State.abandonRead
  simp only [State.setHp_rp, hr]
  split
  · next ht =>
    exact ⟨rfl, waiting, wait, rfl, h.requests_zero (by simp [State.readRequests, hr, ht])⟩
  · refine ⟨rfl, waiting, wait, rfl, ?_⟩
    simp only [State.hostRequests, State.setMp_mp, List.countP_map, List.countP_eq_zero, Function.comp, decide_eq_true_eq]
    intro q _
    split
    · simp
    · assumption

theorem State.abandonRead_probe (s : State) : s.abandonRead.mp.probe = s.mp.probe := by
  unfold State.abandonRead
  split
  · rfl
  · split <;> rfl

theorem State.strobeReleased_keeps (s : State) : s.Keeps s.strobeReleased := by
  unfold State.strobeReleased
  split
  · exact .refl s
  · next a ha =>
    split
    · next hp =>
      refine State.Works.keeps (State.HostKept.works ?_)
      exact { State.HostKept.of_frame (s := s) (t := s) with phase := by simp [State.heldPhase, ha, hp] }
    · next hp =>
      unfold State.abandon
      have phase := State.heldPhase_of_access ha hp
      split
      · next hb =>
        rw [hb] at phase
        refine State.Releases.keeps (.of_noneHeld (fun h => ?_) rfl (waiting := nofun) (opens := .refl _))
        have host := h.host_none (by simp [phase])
        exact ⟨rfl, rfl, h.wait_none (by simp [phase]), host, h.requests_zero (by simp [State.readRequests, host])⟩
      · next hb =>
        rw [hb] at phase
        refine State.Releases.keeps (.of_noneHeld (fun h => ?_) rfl)
        have host := h.host_none (by simp [phase])
        exact ⟨rfl, h.waiting_none (by simp [phase]), rfl, host, h.requests_zero (by simp [State.readRequests, host])⟩
      · next hb =>
        refine State.Releases.keeps (.of_noneHeld (fun h => h.abandonRead_noneHeld ha hb _) ?_
          (probe := State.abandonRead_probe _))
        exact (State.heldPhase_congr (s := s.setHp { access := none, lastErr := some ⟨.abandoned, a.addr, a.dir⟩ })
          (by simp)).trans rfl
      · next hb => exact absurd hb hp

@[simp] theorem State.timeoutAccess_heldPhase (s : State) (a : Access) : (s.timeoutAccess a).heldPhase = none :=
  (State.count_works _ _ _).phase.trans (State.complete_heldPhase _ _ _)

theorem State.stallExpires_keeps (s : State) : s.Keeps s.stallExpires := by
  unfold State.stallExpires
  split
  · exact .refl s
  · next a ha =>
    dsimp only
    split
    · exact .refl s
    · next hp =>
      have phase := State.heldPhase_of_access ha (by simp [hp])
      rw [hp] at phase
      have let_go : s.Releases (s.timeoutAccess a).dropPending := by
        refine .of_noneHeld (fun h => ?_) (s.timeoutAccess_heldPhase a) (waiting := by simp [State.dropPending])
          (opens := by simp [State.dropPending])
        have host := h.host_none (by simp [phase])
        exact ⟨s.timeoutAccess_heldPhase a, rfl, by simpa using h.wait_none (by simp [phase]), by simpa using host,
          by simpa [State.hostRequests] using h.requests_zero (by simp [State.readRequests, host])⟩
      exact let_go.keeps.trans (State.postFault_works _ _ _ _ _).keeps
    · next hp =>
      have phase := State.heldPhase_of_access ha (by simp [hp])
      rw [hp] at phase
      refine State.Releases.keeps (.of_noneHeld (fun h => ?_) (s.timeoutAccess_heldPhase a))
      have host := h.host_none (by simp [phase])
      exact ⟨s.timeoutAccess_heldPhase a, by simpa using h.waiting_none (by simp [phase]), rfl, by simpa using host,
        by simpa [State.hostRequests] using h.requests_zero (by simp [State.readRequests, host])⟩
    · next hp =>
      have phase := State.heldPhase_of_access ha (by simp [hp])
      rw [hp] at phase
      have done : (s.timeoutAccess a).closeHostRead.heldPhase = none :=
        (State.heldPhase_congr (by simp)).trans (s.timeoutAccess_heldPhase a)
      refine State.Releases.keeps (.of_noneHeld (fun h => ?_) done (probe := by simp [State.closeHostRead_probe]))
      exact ⟨done, by simpa using h.waiting_none (by simp [phase]), by simpa using h.wait_none (by simp [phase]),
        State.closeHostRead_host _,
        State.closeHostRead_requests (by simpa [State.hostRequests, State.readRequests] using h.asked)⟩

/-! ### Leaving RUN, and cold reset (R112, R175) -/

/-- What a change has to bring that ends with no access held and no entry OPEN. -/
theorem State.Keeps.of_shut {s t : State} (held : s.Held → t.NoneHeld) (opens : openLines t.pwb.entries = [])
    (order : s.BootOrder → t.BootOrder) : s.Keeps t where
  held h := (held h).held
  oneOpen h _ := t.oneOpen_iff.2 (by simp [opens, (held h).waiting])
  order := order
  shut h _ _ := t.shutOutsideRun_iff.2 (fun _ => ⟨(held h).phase, opens⟩)

theorem State.coldReset_keeps (s : State) : s.Keeps s.coldReset :=
  .of_shut (fun _ => ⟨rfl, rfl, rfl, rfl, rfl⟩) rfl (fun _ => ⟨fun _ _ => ⟨rfl, rfl, rfl⟩, nofun⟩)

theorem State.internalReset_keeps (s : State) : s.Keeps s.internalReset :=
  .of_shut (fun _ => ⟨rfl, rfl, rfl, rfl, rfl⟩) rfl (fun _ => ⟨fun _ _ => ⟨rfl, rfl, rfl⟩, nofun⟩)

/-- The held access is refused, and its holder, unless it is a read's, closed (R112). -/
theorem State.refuseHeld_facts {s : State} (h : s.Held) :
    s.refuseHeld.heldPhase = none ∧ s.refuseHeld.pwb.waiting = none ∧ s.refuseHeld.fu.wait = none := by
  unfold State.refuseHeld
  split
  · next hp => exact ⟨hp, h.waiting_none (by simp [hp]), h.wait_none (by simp [hp])⟩
  · next hp => exact ⟨by simp, by simp [State.dropPending], by simpa using h.wait_none (by simp [hp])⟩
  · next hp => exact ⟨by simp, by simpa using h.waiting_none (by simp [hp]), by simp⟩
  · next p hb hw hp => 
    exact ⟨by simp, by simpa using h.waiting_none (by simpa [hp] using hb), by simpa using h.wait_none (by simpa [hp] using hw)⟩

theorem State.refuseHeld_entries (s : State) : s.refuseHeld.pwb.entries = s.pwb.entries := by
  unfold State.refuseHeld
  split <;> simp [State.dropPending]

theorem State.leaveRun_openLines (s : State) : openLines s.leaveRun.pwb.entries = [] := by
  rw [← s.sealAll_openLines, ← s.sealAll.refuseHeld_entries]
  simp [State.leaveRun]

theorem State.leaveRun_probe (s : State) : s.leaveRun.mp.probe = s.mp.probe := by
  show ((s.sealAll.refuseHeld).closeHostRead.closeFetch.dropRefill _).mp.probe = _
  rw [(State.dropRefill_works _ _).probe, (State.closeFetch_works _).probe, State.closeHostRead_probe]
  simp

/-- Nothing is held once RUN has been left. -/
theorem State.Held.leaveRun_noneHeld {s : State} (h : s.Held) : s.leaveRun.NoneHeld := by
  have sealed := s.sealAll_works.held h
  obtain ⟨phase, waiting, wait⟩ := State.refuseHeld_facts sealed
  have closed : s.sealAll.refuseHeld.closeHostRead.NoneHeld :=
    { phase := (State.heldPhase_congr (by simp)).trans phase
      waiting := by simpa using waiting
      wait := by simpa using wait
      host := State.closeHostRead_host _
      requests := State.closeHostRead_requests
        (by simpa [State.hostRequests, State.readRequests] using sealed.asked) }
  exact ((State.closeFetch_works _).trans (State.dropRefill_works _ _)).noneHeld closed

/-- RUN, or DUMPED, is left for a state other than BOOT. -/
theorem State.leave_keeps {s : State} (h : s.sc.state ≠ .boot) (x : StateController) (hx : x.state ≠ .boot) :
    s.Keeps (s.setSc x).leaveRun :=
  .of_shut (fun hh => ((s.setSc_hostKept x).held hh).leaveRun_noneHeld) (State.leaveRun_openLines _)
    (fun hb => State.bootOrder_of_left (by simpa using hx) (by rw [State.leaveRun_probe]; exact hb.probe_none h))

theorem State.enterRestarting_keeps {s : State} (h : s.sc.state = .run) : s.Keeps s.enterRestarting :=
  State.leave_keeps (by simp [h]) _ nofun

theorem State.enterHoldup_keeps {s : State} (h : s.sc.state ≠ .boot) : s.Keeps s.enterHoldup := by
  have left := State.leave_keeps h
    { s.sc with state := .holdup, step := none, returnWrite := false, plan := none } nofun
  refine left.trans <| (State.stopEngine_works _ .d0).keeps.trans <| (State.stopEngine_works _ .d1).keeps.trans <|
    (State.stopPersist_moves _).keeps ?_
  simp

end Sys2Proof.Machine
end

section
/-! What every effect keeps of the held accesses and the OPEN entries: arrivals, grants, and the ends of transfers. -/

namespace Sys2Proof.Machine

/- One theorem after another: waiting ones would each hold a thread. -/
set_option Elab.async false

/-! ### An access whose holder is not yet decided (R105, R109) -/

/-- An access stands, and no block holds anything for it. -/
structure State.Fresh (s : State) : Prop where
  access   : s.hp.access.isSome = true
  waiting  : s.pwb.waiting = none
  wait     : s.fu.wait = none
  host     : s.rp.host = none
  requests : s.hostRequests = 0

theorem State.hostRequests_congr {s t : State} (h : t.mp.reqs = s.mp.reqs) : t.hostRequests = s.hostRequests := by
  unfold State.hostRequests
  rw [h]

/-- What an operation has to leave that completes a fresh access. -/
theorem State.Fresh.noneHeld {s t : State} (h : s.Fresh) (phase : t.heldPhase = none := by simp)
    (waiting : t.pwb.waiting = s.pwb.waiting := by simp) (wait : t.fu.wait = s.fu.wait := by simp)
    (host : t.rp.host = s.rp.host := by simp) (reqs : t.mp.reqs = s.mp.reqs := by simp) : t.NoneHeld where
  phase := phase
  waiting := waiting.trans h.waiting
  wait := wait.trans h.wait
  host := host.trans h.host
  requests := (State.hostRequests_congr reqs).trans h.requests

theorem State.Fresh.of_noneHeld {s t : State} (h : s.NoneHeld) (access : t.hp.access.isSome = true)
    (waiting : t.pwb.waiting = s.pwb.waiting := by simp) (wait : t.fu.wait = s.fu.wait := by simp)
    (host : t.rp.host = s.rp.host := by simp) (reqs : t.mp.reqs = s.mp.reqs := by simp) : t.Fresh where
  access := access
  waiting := waiting.trans h.waiting
  wait := wait.trans h.wait
  host := host.trans h.host
  requests := (State.hostRequests_congr reqs).trans h.requests

theorem State.allocate_waiting (s : State) (w : PendingWrite) : (s.allocate w).pwb.waiting = s.pwb.waiting := rfl

theorem State.allocateAndAccept_pwb (s : State) (w : PendingWrite) :
    (s.allocateAndAccept w).pwb = (s.allocate w).pwb := by
  unfold State.allocateAndAccept
  dsimp only
  split <;> simp

theorem State.Fresh.allocateAndAccept_held {s : State} (h : s.Fresh) (w : PendingWrite) :
    (s.allocateAndAccept w).Held := by
  unfold State.allocateAndAccept
  dsimp only
  split
  · have phase := State.holdAccess_heldPhase (p := .heldWt)
      (s := ((s.allocate w).count .writesAccepted 1).setFu
        { ((s.allocate w).count .writesAccepted 1).fu with
          wait := some { seq := ((s.allocate w).count .writesAccepted 1).pwb.counter, lost := false } })
      (by simpa using h.access) (by simp)
    constructor
    · exact ((State.hostRequests_congr (by simp)).trans h.requests).trans_le (Nat.zero_le _)
    · rw [phase]
      simp [State.allocate_waiting, h.waiting]
    · rw [phase]
      simp
    · rw [phase]
      simp [h.host]
  · exact (h.noneHeld (waiting := by simp [State.allocate_waiting])).held

theorem State.Fresh.takeEntry_held {s : State} (h : s.Fresh) (w : PendingWrite) : (s.takeEntry w).Held := by
  unfold State.takeEntry
  split
  · exact h.allocateAndAccept_held w
  · have phase := State.holdAccess_heldPhase (p := .heldBuffer) (s := s.setPwb { s.pwb with waiting := some w })
      (by simpa using h.access) (by simp)
    constructor
    · exact ((State.hostRequests_congr (by simp)).trans h.requests).trans_le (Nat.zero_le _)
    · simp [phase]
    · simp [phase, h.wait]
    · simp [phase, h.host]

/-- The entry of a write joins the OPEN ones in its line alone (R9). -/
theorem State.allocate_openLines (s : State) (w : PendingWrite) :
    (openLines (s.allocate w).pwb.entries).Sublist (openLines s.pwb.entries ++ [w.loc]) := by
  have joined : (openLines (s.pwb.entries ++ [s.newEntry w])).Sublist (openLines s.pwb.entries ++ [w.loc]) := by
    rw [openLines_append, openLines_cons]
    refine List.Sublist.append_left ?_ _
    split
    · exact .refl _
    · exact List.nil_sublist _
  unfold State.allocate
  dsimp only
  split
  · exact (openLines_sealOldest_sublist _).trans joined
  · exact joined

theorem State.allocateAndAccept_oneOpen {s : State} (waiting : s.pwb.waiting = none)
    (once : (openLines s.pwb.entries).Nodup) {w : PendingWrite} (free : w.loc ∉ openLines s.pwb.entries) :
    (s.allocateAndAccept w).OneOpen := by
  rw [State.oneOpen_iff, State.allocateAndAccept_pwb, State.allocate_waiting, waiting]
  refine ⟨List.Nodup.sublist (s.allocate_openLines w) ?_, nofun⟩
  exact List.Nodup.append once (List.nodup_singleton _) (by simpa using free)

theorem State.takeEntry_oneOpen {s : State} (waiting : s.pwb.waiting = none)
    (once : (openLines s.pwb.entries).Nodup) {w : PendingWrite} (free : w.loc ∉ openLines s.pwb.entries) :
    (s.takeEntry w).OneOpen := by
  unfold State.takeEntry
  split
  · exact State.allocateAndAccept_oneOpen waiting once free
  · rw [State.oneOpen_iff]
    simp only [State.holdAccess_frame, State.setPwb_pwb, Option.some.injEq, forall_eq']
    exact ⟨once, free⟩

/-! ### A write and a read that arrive (R7 to R12, R28) -/

theorem State.mergeWrite_heldPhase (s : State) (w : PendingWrite) : (s.mergeWrite w).heldPhase = none :=
  (State.count_works _ _ _).phase.trans <| (State.count_works _ _ _).phase.trans (State.complete_heldPhase _ _ _)

theorem State.mergeWrite_waiting (s : State) (w : PendingWrite) : (s.mergeWrite w).pwb.waiting = s.pwb.waiting := by
  simp [State.mergeWrite]

theorem State.mergeWrite_openLines (s : State) (w : PendingWrite) :
    (openLines (s.mergeWrite w).pwb.entries).Sublist (openLines s.pwb.entries) := by
  have entries : (s.mergeWrite w).pwb.entries =
      s.pwb.entries.map (fun e => if isOpenAt w.loc e then e.merge w.bytes else e) := by simp [State.mergeWrite]
  rw [entries]
  refine openLines_map_sublist (fun e => ?_) (fun e => ?_) _
  · split
    · exact e.merge_loc _
    · rfl
  · split
    · exact Entry.merge_opened
    · exact id

theorem State.Fresh.placeWrite_held {s : State} (h : s.Fresh) (w : PendingWrite) : (s.placeWrite w).Held := by
  unfold State.placeWrite
  split
  · have sealed : s.sealAll.Fresh := ⟨h.access, h.waiting, h.wait, h.host, h.requests⟩
    exact sealed.takeEntry_held w
  · split
    · exact (h.noneHeld (s.mergeWrite_heldPhase w) (s.mergeWrite_waiting w)).held
    · exact h.takeEntry_held w

theorem State.Fresh.placeWrite_oneOpen {s : State} (h : s.Fresh) (once : (openLines s.pwb.entries).Nodup)
    (w : PendingWrite) : (s.placeWrite w).OneOpen := by
  unfold State.placeWrite
  split
  · refine State.takeEntry_oneOpen (s := s.sealAll) h.waiting ?_ ?_
    · rw [s.sealAll_openLines]
      exact List.nodup_nil
    · rw [s.sealAll_openLines]
      exact List.not_mem_nil
  · split
    · rw [State.oneOpen_iff, State.mergeWrite_waiting, h.waiting]
      exact ⟨once.sublist (s.mergeWrite_openLines w), nofun⟩
    · next hn =>
      refine State.takeEntry_oneOpen h.waiting once ?_
      simpa [mem_openLines, isOpenAt] using hn

theorem State.asked_of_queued {s : State} (h : s.hostRequests = 0) (x : HostRead) (hx : x.phase = .queued) (r : Request) :
    (((s.setRp { s.rp with host := some x }).join r).holdAccess .heldRead).hostRequests ≤
      (((s.setRp { s.rp with host := some x }).join r).holdAccess .heldRead).readRequests := by
  have joined := (s.setRp { s.rp with host := some x }).hostRequests_join r
  rw [State.hostRequests_congr (s := s) (t := s.setRp { s.rp with host := some x }) rfl, h] at joined
  rw [State.hostRequests_congr (s := (s.setRp { s.rp with host := some x }).join r) (by simp)]
  refine joined.trans ?_
  simp only [State.readRequests, State.holdAccess_frame, State.join_frame, State.setRp_rp, hx]
  split <;> simp

/-- The request of a read joins as the only one of a host read (R33). -/
theorem State.Fresh.requestFetch_held {s : State} (h : s.Fresh) (loc : Loc) (positions : List Nat) :
    (s.requestFetch loc positions).Held := by
  have clear : s.HostKept ((s.dropRefill (fun _ => true)).closeFetch) :=
    ((s.dropRefill_works _).trans (State.closeFetch_works _)).toHostKept
  have requests : ((s.dropRefill (fun _ => true)).closeFetch).hostRequests = 0 := by
    have asked := clear.asked
    have host : ((s.dropRefill (fun _ => true)).closeFetch).rp.host = none := by simpa [h.host] using clear.host
    simp only [State.readRequests, h.host, host, h.requests] at asked
    omega
  unfold State.requestFetch
  dsimp only
  have phase (t : State) (ht : t.hp = s.hp) : (t.holdAccess .heldRead).heldPhase = some .heldRead :=
    State.holdAccess_heldPhase (by simpa [ht] using h.access) (by simp)
  constructor
  · exact State.asked_of_queued requests _ rfl _
  · simp [phase, h.waiting]
  · simp [phase, h.wait]
  · simp [phase]

theorem State.Fresh.readArrives_held {s : State} (h : s.Fresh) (loc : Loc) (positions : List Nat) :
    (s.readArrives loc positions).Held := by
  unfold State.readArrives
  split
  · exact h.noneHeld.held
  · split
    · exact h.noneHeld.held
    · split
      · exact (State.considerRefill_works _ _).held h.noneHeld.held
      · exact h.requestFetch_held loc positions

/-! ### The arrival (R105 to R109) -/

theorem State.Fresh.handOn_held {s : State} (h : s.Fresh) (x : Decoded) (addr : BitVec 23) (even odd : Bool) (dir : Dir)
    (hd : Half) : (s.handOn x addr even odd dir hd).Held := by
  cases dir
  case read => exact h.readArrives_held _ _
  case write => exact h.placeWrite_held _

theorem State.Fresh.handOn_oneOpen {s : State} (h : s.Fresh) (once : (openLines s.pwb.entries).Nodup) (x : Decoded)
    (addr : BitVec 23) (even odd : Bool) (dir : Dir) (hd : Half) : (s.handOn x addr even odd dir hd).OneOpen := by
  cases dir
  case read => exact State.oneOpen_iff _ |>.2 (by simpa [State.handOn, h.waiting] using once)
  case write => exact h.placeWrite_oneOpen once _

theorem State.Fresh.noteDecode {s : State} (h : s.Fresh) (x : Decoded) : (s.noteDecode x).Fresh :=
  ⟨by simpa [State.noteDecode] using h.access, h.waiting, h.wait, h.host, h.requests⟩

theorem State.Fresh.decodeAccess_held {s : State} (h : s.Fresh) (addr : BitVec 23) (even odd : Bool) (dir : Dir)
    (hd : Half) : (s.decodeAccess addr even odd dir hd).Held := by
  unfold State.decodeAccess
  split
  · exact h.noneHeld.held
  · dsimp only
    split
    · exact State.NoneHeld.held ((h.noteDecode ‹_›).noneHeld)
    · exact (h.noteDecode _).handOn_held ..

theorem State.Fresh.decodeAccess_oneOpen {s : State} (h : s.Fresh) (once : (openLines s.pwb.entries).Nodup)
    (addr : BitVec 23) (even odd : Bool) (dir : Dir) (hd : Half) : (s.decodeAccess addr even odd dir hd).OneOpen := by
  have completed {t : State} (ht : t.Fresh) (entries : t.pwb.entries = s.pwb.entries) (c : Option Cause) :
      (t.complete c 0).OneOpen :=
    (State.oneOpen_iff _).2 (by simpa [ht.waiting, entries] using once)
  unfold State.decodeAccess
  split
  · exact completed h rfl _
  · dsimp only
    split
    · exact completed (h.noteDecode _) rfl _
    · exact (h.noteDecode _).handOn_oneOpen once ..

theorem State.readArrives_probe (s : State) (loc : Loc) (positions : List Nat) :
    (s.readArrives loc positions).mp.probe = s.mp.probe := by
  unfold State.readArrives
  split
  · simp
  · split
    · simp
    · split
      · simpa using (State.considerRefill_works (s.complete none _) loc).probe
      · simp [State.requestFetch, (State.closeFetch_works _).probe, (State.dropRefill_works _ _).probe]

theorem State.decodeAccess_probe (s : State) (addr : BitVec 23) (even odd : Bool) (dir : Dir) (hd : Half) :
    (s.decodeAccess addr even odd dir hd).mp.probe = s.mp.probe := by
  unfold State.decodeAccess
  split
  · simp
  · dsimp only
    split
    · simp [State.noteDecode]
    · cases dir <;> simp [State.handOn, State.readArrives_probe, State.noteDecode]

theorem State.accessArrives_keeps (s : State) (ha : BitVec 22) (hbl hbh hrd hwr : Bool) (hd : Half) :
    s.Keeps (s.accessArrives ha hbl hbh hrd hwr hd) := by
  unfold State.accessArrives
  split
  · exact .refl s
  · next hn =>
    have free : s.heldPhase = none := by
      have : s.hp.access = none := by simp_all
      simp [State.heldPhase, this]
    dsimp only
    generalize arrivalAddr ha hbl hbh = addr, arrivalDir hrd = dir
    have fresh (h : s.Held) : (s.openAccess addr hbl hbh dir hd).Fresh := .of_noneHeld (h.noneHeld free) rfl
    split
    · exact State.Releases.keeps (.of_noneHeld (fun h => (fresh h).noneHeld))
    · next hr =>
      have hr : s.sc.state = .run := by simpa [State.openAccess] using hr
      split
      · exact State.Releases.keeps (.of_noneHeld (fun h => (fresh h).noneHeld))
      · have once (h : s.OneOpen) : (openLines (s.openAccess addr hbl hbh dir hd).pwb.entries).Nodup :=
          (s.oneOpen_iff.1 h).1
        exact {
          held := fun h => (fresh h).decodeAccess_held ..
          oneOpen := fun h ho => (fresh h).decodeAccess_oneOpen (once ho) ..
          order := fun h => h.congr (by simp [State.decodeAccess_probe, State.openAccess]) (by simp) (by simp) (by simp)
          shut := fun _ _ h => ⟨fun n => absurd (by simpa using hr) n, fun n => absurd (by simpa using hr) n⟩ }

theorem State.fillPending_keeps {s t : State} (ht : s.fillPending = some t) : s.Keeps t := by
  unfold State.fillPending at ht
  split at ht
  · exact nomatch ht
  · next w hw =>
    split at ht <;> cases ht
    have fresh (h : s.Held) : s.dropPending.Fresh := by
      have phase := h.phase_of_waiting hw
      have host := h.host_none (by simp [phase])
      obtain ⟨a, access, -⟩ := State.heldPhase_isSome phase
      exact ⟨by simp [access], rfl, h.wait_none (by simp [phase]), host,
        h.requests_zero (by simp [State.readRequests, host])⟩
    exact {
      held := fun h => (fresh h).allocateAndAccept_held w
      oneOpen := fun h ho => by
        obtain ⟨once, free⟩ := s.oneOpen_iff.1 ho
        exact State.allocateAndAccept_oneOpen (s := s.dropPending) rfl once (free w hw)
      order := fun h => h.congr (by simp) (by simp) (by simp) (by simp)
      shut := fun h _ hs => by
        have run : s.sc.state = .run := by
          by_contra n
          exact absurd (hs.held n) (by simp [h.phase_of_waiting hw])
        exact ⟨fun n => absurd (by simpa using run) n, fun n => absurd (by simpa using run) n⟩ }

/-! ### The grant (R137) -/

theorem State.choice_mem {s : State} {r : Request} (h : s.choice = some r) : r ∈ s.mp.reqs := by
  have waits {r : Request} {p : Request → Bool} (h : s.eligibles.find? p = some r) : r ∈ s.mp.reqs :=
    (List.mem_filter.1 (List.mem_of_find?_eq_some h)).1
  unfold State.choice at h
  dsimp only at h
  split at h
  · cases h
    exact waits ‹s.eligibles.find? _ = some r›
  · split at h <;> cases h
    · exact waits ‹s.eligibles.find? _ = some r›
    · exact waits ‹s.eligibles.find? _ = some r›
  · cases h
    exact waits ‹s.eligibles.find? _ = some r›
  · split at h
    · cases h
      exact waits ‹s.eligibles.find? _ = some r›
    · cases h
      exact waits ‹s.eligibles.find? _ = some r›
    · exact waits h

theorem State.startTransfer_works (s : State) (r : Request) (cmd : Cmd) (home : Nat) (under : Bool) :
    s.Works (s.startTransfer r cmd home under) :=
  State.HostKept.works (.of_frame (reqs := List.erase_sublist.countP_le)) (probe := rfl)

/-- The granted host read has its transfer, and its request waits no longer. -/
theorem State.hostRead_granted {s : State} {r : Request} (hr : r ∈ s.mp.reqs) (host : r.requester = .hostRead) (cmd : Cmd)
    (home : Nat) (under : Bool) :
    s.Works ((s.startTransfer r cmd home under).setRp { (s.startTransfer r cmd home under).rp with
      host := (s.startTransfer r cmd home under).rp.host.map (fun h => { h with phase := .transfer }) }) := by
  have erased : (s.mp.reqs.erase r).countP (fun r => r.requester = .hostRead) + 1 ≤ s.hostRequests := by
    have := List.perm_cons_erase hr |>.countP_eq (fun r => decide (r.requester = .hostRead))
    simp only [List.countP_cons, host] at this
    simp [State.hostRequests, this]
  have one : s.readRequests ≤ 1 := by
    unfold State.readRequests
    (repeat' split) <;> simp
  refine State.HostKept.works
    { phase := rfl, waiting := rfl, opens := .refl _, wait := rfl, host := ?_, asked := ?_ } (probe := rfl)
  · simp [State.startTransfer]
  · show List.countP _ (s.mp.reqs.erase r) + _ ≤ _
    omega

theorem State.fetchGone_works (s : State) : s.Works (s.setRp { s.rp with fetch := none }) := State.HostKept.works .of_frame

theorem State.grantTo_keeps {s : State} {r : Request} (hr : r ∈ s.mp.reqs) : s.Keeps (s.grantTo r) := by
  unfold State.grantTo
  dsimp only
  split
  · next host _ =>
    split
    · have asked : 1 ≤ s.hostRequests := List.countP_pos_iff.2 ⟨r, hr, by simpa using host⟩
      refine State.Releases.keeps (.of_noneHeld (fun h => ?_) (probe := by simp [s.closeHostRead_probe]))
      obtain ⟨x, hx⟩ : ∃ x, s.rp.host = some x := by
        rw [← Option.isSome_iff_exists]
        by_contra hn
        exact absurd (h.requests_zero (by simp_all [State.readRequests])) (by omega)
      exact ((State.closeHostRead_complete_releases hx _ _).held h).noneHeld (by simp)
    · exact (State.hostRead_granted hr host _ _ _).keeps
  · split
    · exact s.closeFetch_works.keeps
    · exact ((s.startTransfer_works _ _ _ _).trans (State.fetchGone_works _)).keeps
  · split
    · exact (s.dropRefill_works _).keeps
    · exact ((s.startTransfer_works _ _ _ _).trans (State.setRefill_works _ _)).keeps
  · exact (s.startTransfer_works _ _ _ _).keeps

end Sys2Proof.Machine
end

section
/-! What every effect keeps of the held accesses and the OPEN entries: the probe, the metadata unit, the loss of a device, and
the four together. -/

namespace Sys2Proof.Machine

/- One theorem after another: waiting ones would each hold a thread. -/
set_option Elab.async false

/-! ### The probe (R126, R157) -/

theorem State.BootOrder.of_boot_step {s : State} (step : s.sc.step ≠ none) (probe : s.mp.probe = none) : s.BootOrder where
  start _ h := absurd h step
  probe h := by simp [probe] at h

/-- The probe has reported: a device 0 found has its load begun, and otherwise the part is HALTED. -/
theorem State.probeReported_keeps {s : State} (h : s.mp.probe.isSome = true) : s.Keeps s.probeReported := by
  have ended := s.setProbe_hostKept none
  unfold State.probeReported
  dsimp only
  split
  · refine State.HostKept.keeps (ended.trans ((State.setSc_hostKept _ _).trans
      ((State.setOp_moves _ _).toHostKept.trans (State.muRequest_works _ _).toHostKept))) (fun _ => ?_) (fun _ => by simp)
    exact .of_boot_step (by simp) (by rw [(State.muRequest_works _ _).probe]; simp)
  · refine State.HostKept.keeps (ended.trans ((State.setSc_hostKept _ _).trans (State.setSc_hostKept _ _)))
      (fun _ => State.bootOrder_of_left (by simp [State.halt]) (by simp [State.halt])) (fun hb _ => ?_)
    simp [(hb.probe h).1]

theorem State.probeNext_keeps (s : State) : s.Keeps s.probeNext := by
  unfold State.probeNext
  split
  · next hp =>
    (repeat' split)
    · exact (s.join_works (by simp)).keeps
    · exact (s.join_works (by simp)).keeps
    · exact State.probeReported_keeps (by simp [hp])
  · exact .refl s

theorem State.probeResetSettled_keeps (s : State) (d : Dev) (ready : Bool) : s.Keeps (s.probeResetSettled d ready) := by
  unfold State.probeResetSettled
  split
  · exact .refl s
  · next hp =>
    refine State.Keeps.trans ?_ (State.probeNext_keeps _)
    refine (s.setProbe_hostKept _).keeps (fun h => ?_) (fun _ => id)
    have inHand := h.probe (by simp [hp])
    exact ⟨fun boot step => absurd (h.start boot step).2.2 (by simp [hp]), fun _ => inHand⟩

theorem State.identified_keeps (s : State) (d : Dev) (answer : BusAnswer) : s.Keeps (s.identified d answer) := by
  unfold State.identified
  split
  · exact .refl s
  · next p hp =>
    have online : s.Works (if answer = .identity true 8192 then s.setDev d { s.dev d with state := .online } else s) := by
      split
      · exact s.setDev_works _ _
      · exact .refl s
    refine online.keeps.trans ?_
    have inHand := online.probe.trans hp
    dsimp only
    generalize (if answer = .identity true 8192 then s.setDev d { s.dev d with state := .online } else s) = a at inHand ⊢
    split
    · exact (a.join_works (by simp)).keeps
    · exact State.probeReported_keeps (by simp [inHand])

theorem State.bootStarts_keeps {s t : State} (h : s.bootStarts = some t) : s.Keeps t := by
  unfold State.bootStarts at h
  split at h
  · next hs =>
    cases h
    obtain ⟨boot, step⟩ := hs
    have sampled := s.setPfail_moves s.pins.pfail
    refine State.Keeps.trans (sampled.keeps (fun b op write => ⟨op, write, b⟩)) ?_
    split
    · refine State.HostKept.keeps (State.enterStopped_moves (by simp [State.setPfail, boot])).toHostKept
        (fun _ => State.bootOrder_of_left (by simp [State.enterStopped_state]) ?_) (fun _ _ => by simp [State.setPfail, boot])
      simp [State.enterStopped]
    · refine State.HostKept.keeps ?_ (fun h => ?_) (fun _ _ => by simp [State.setPfail, boot])
      · exact (State.setSc_hostKept _ _).trans ((State.setProbe_hostKept _ _).trans (State.join_works _ (by simp)).toHostKept)
      · obtain ⟨op, write, -⟩ := h.start boot step
        exact ⟨by simp [State.startProbe], fun _ => ⟨by simpa [State.startProbe] using boot, by simpa [State.startProbe] using op,
          by simpa [State.startProbe] using write⟩⟩
  · exact nomatch h

/-! ### The metadata unit (R146 to R149, R153) -/

theorem State.writeDone_keeps {s : State} {w : ScWrite} {a : Nat} (h : s.mu.op = some (.write w a)) :
    s.Keeps ((s.setOp none).writeDone w) := by
  have busy {t : State} (k : s.Moves t) : s.Keeps t := k.keeps (by simp [h])
  have free := s.setOp_moves none
  unfold State.writeDone
  split
  · exact busy (free.trans ((State.setHeader_moves _ _).trans (State.enterRun_moves _)))
  · exact busy (free.trans ((State.setHeader_moves _ _).trans ((State.setMgp_works _ _).moves.trans
      (State.enterRun_moves _))))
  · split
    · refine busy (free.trans (State.Moves.trans ?_ (State.dumpNext_moves _ _ _)))
      split
      · exact State.setHeader_moves _ _
      · exact .refl _
    · next hd _ _ _ _ =>
      have hd : s.sc.state = .dumping := by simpa using hd
      exact busy (free.trans ((State.setHeader_moves _ _).trans (State.enterDumped_moves (by simp [State.setHeader, hd]))))
  · next hd =>
    have hd : s.sc.state = .dumped := by simpa using hd
    have dumped : s.Moves (((s.setOp none).setHeader .clean).setSc
        { ((s.setOp none).setHeader .clean).sc with returnWrite := false }) :=
      free.trans ((State.setHeader_moves _ _).trans (State.setSc_moves _ _ (fun b => ⟨b, id⟩) id))
    dsimp only
    split
    · exact (busy dumped).trans (State.enterHoldup_keeps (by simp [State.setHeader, hd]))
    · exact busy (dumped.trans (State.enterRun_moves _))
  · exact busy free

theorem State.muProgramEnds_keeps (s : State) (pass : Bool) : s.Keeps (s.muProgramEnds pass) := by
  unfold State.muProgramEnds
  split
  · next p hp =>
    have busy {t : State} (k : s.Moves t) : s.Keeps t := k.keeps (by simp [hp])
    dsimp only
    (repeat' split)
    · exact busy (s.persistDone_moves p)
    · exact busy (s.breakOff_moves p true)
    · exact busy (s.requestPart_moves _)
    · exact busy (s.attemptFails_moves p)
  · next w a hw =>
    split
    · exact State.writeDone_keeps hw
    · exact (s.writeFails_moves w a).keeps (by simp [hw])
  · exact .refl s

theorem State.muReadEnds_keeps (s : State) (bytes : List Byte) : s.Keeps (s.muReadEnds bytes) := by
  refine (s.muReadEnds_moves bytes).keeps (fun boot op write => ?_)
  simp [State.muReadEnds, boot, op, write]

theorem State.flagFault_op (s : State) (k : Kind) : (s.flagFault k).mu.op = s.mu.op := by cases k <;> rfl
theorem State.flagFault_waiting (s : State) (k : Kind) : (s.flagFault k).mu.waiting = s.mu.waiting := by cases k <;> rfl

theorem State.endPersistOf_idle {s : State} (h : s.mu.op = none) (k : Kind) : s.endPersistOf k = s := by
  simp [State.endPersistOf, h]

theorem State.giveUpRestart_eq {s : State} (h : s.sc.state ≠ .restarting) : s.giveUpRestart = s := by
  simp [State.giveUpRestart, h]

theorem State.tellDecoder_sc (s : State) (k : Kind) : (s.tellDecoder k).sc = s.sc := (s.tellDecoder_works k).controller

theorem State.raiseFault_idle {s : State} (boot : s.sc.state = .boot) (op : s.mu.op = none) (write : s.mu.waiting = none)
    (k : Kind) : (s.raiseFault k).mu.op = none ∧ (s.raiseFault k).mu.waiting = none ∧ (s.raiseFault k).sc.state = .boot := by
  have flagged : (s.flagFault k).mu.op = none := (s.flagFault_op k).trans op
  have state : ((s.flagFault k).tellDecoder k).sc.state = .boot := by
    rw [State.tellDecoder_sc]
    exact boot
  rw [s.raiseFault_eq, State.endPersistOf_idle flagged, State.giveUpRestart_eq (by simp [state])]
  exact ⟨(State.tellDecoder_works _ k).op.trans flagged,
    (State.tellDecoder_works _ k).write.trans ((s.flagFault_waiting k).trans write), state⟩

theorem State.muOffline_keeps (s : State) : s.Keeps s.muOffline := by
  refine s.muOffline_moves.keeps (fun boot op write => ?_)
  obtain ⟨op, write, boot⟩ := State.raiseFault_idle boot op write .config
  obtain ⟨op, write, boot⟩ := State.raiseFault_idle boot op write .remap
  simp [State.muOffline, op, write, boot]

/-! ### Status results and ends of transfers (R120, R128 to R131) -/

theorem State.resetCompletes_keeps (s : State) (d : Dev) : s.Keeps (s.resetCompletes d) := by
  refine (s.setDev_works d (s.dev d).toIdle).keeps.trans ?_
  unfold State.resetCompletes
  dsimp only
  split
  · exact (State.engineResetDone_works _ _).keeps
  · exact State.muProgramEnds_keeps _ _
  · exact State.probeResetSettled_keeps _ _ _
  · exact .refl _

theorem State.programReady_keeps (s : State) (d : Dev) (pass : Bool) : s.Keeps (s.programReady d pass) := by
  have idle : s.Works ((if pass then s.nvmPass d else s.nvmSpoil d).setDev d (s.dev d).toIdle) := by
    split
    · exact (s.nvmPass_works d).trans (State.setDev_works _ _ _)
    · exact (s.nvmSpoil_works d).trans (State.setDev_works _ _ _)
  have told (a : State) (ordered : Bool) (owner : Option Owner) : a.Keeps (if ordered then a
      else match owner with
        | some .engine => a.programCompletes d pass
        | some .mu => a.muProgramEnds pass
        | _ => a) := by
    (repeat' split)
    · exact .refl a
    · exact (a.programCompletes_works d pass).keeps
    · exact a.muProgramEnds_keeps pass
    · exact .refl a
  exact idle.keeps.trans (told _ _ _)

theorem State.statusReturned_keeps (s : State) (d : Dev) (r : StatusResult) : s.Keeps (s.statusReturned d r) := by
  unfold State.statusReturned
  split
  · exact s.programReady_keeps d _
  · exact s.programReady_keeps d _
  · exact (s.suspendedReported_works d).keeps
  · exact (s.setDev_works _ _).keeps
  · exact s.resetCompletes_keeps d
  · exact s.resetCompletes_keeps d
  · exact (s.setDev_works _ _).keeps
  · exact .refl s

theorem State.readReturned_keeps (s : State) (t : Transfer) (page line n : Nat) :
    s.Keeps (s.readReturned t page line n) := by
  have delivered (b : List Byte) : s.Keeps (if t.req.requester = .hostRead then s.deliverRead b else s) := by
    split
    · exact s.deliverRead_releases b
    · exact .refl s
  have suspends (a : State) : a.Keeps (if t.underSuspend then a.readUnderSuspendEnds t.req.dev else a) := by
    split
    · exact (a.readUnderSuspendEnds_works _).keeps
    · exact .refl a
  exact (delivered _).trans ((State.setLines_works _ _).keeps.trans (suspends _))

theorem State.transferEnds_keeps (s : State) (answer : BusAnswer) : s.Keeps (s.transferEnds answer) := by
  unfold State.transferEnds
  split
  · exact .refl s
  · next t _ =>
    have free : s.Works (s.setMp { s.mp with bus := none }) := State.HostKept.works .of_frame (probe := rfl)
    refine free.keeps.trans ?_
    dsimp only
    split
    · split
      · exact (State.retireReadReturned_works _ _ _).keeps
      · exact State.muReadEnds_keeps _ _
      · exact State.readReturned_keeps _ _ _ _ _
    · exact (State.programTaken_works _ _ _ _ _).keeps
    · exact (State.programTaken_works _ _ _ _ _).keeps
    · exact State.statusReturned_keeps _ _ _
    · exact (State.suspendSent_works _ _).keeps
    · exact (State.resumeTaken_works _ _).keeps
    · exact (State.resetTaken_works _ _ _).keeps
    · exact State.identified_keeps _ _ _

/-! ### The loss of a device (R133) -/

theorem State.markOffline_keeps (s : State) (d : Dev) : s.Keeps (s.markOffline d) := by
  have waits (a : State) : a.Keeps (match a.pwb.waiting with
      | some w => if w.loc.dev = d then a.dropPending.complete (some .deviceUnavailable) 0 else a
      | none => a) := by
    split
    · next hw =>
      split
      · exact (State.dropPending_complete_releases hw _ _).keeps
      · exact .refl a
    · exact .refl a
  have unit (a : State) : a.Keeps (if d = .d0 then a.muOffline else a) := by
    split
    · exact a.muOffline_keeps
    · exact .refl a
  exact (s.setDev_works d { (s.dev d).toIdle with state := .offline }).keeps.trans <|
    (State.readsOffline_keeps _ d).trans <| (State.withdraw_works _ _).keeps.trans <|
    (State.setCtx_works _ d none).keeps.trans <| (State.declareLost_works _ (isOfDev d)).keeps.trans <|
    (waits _).trans <| (State.postFault_works _ _ _ _ _).keeps.trans (unit _)

theorem State.resetExpires_keeps (s : State) (d : Dev) : s.Keeps (s.resetExpires d) := by
  unfold State.resetExpires
  (repeat' split)
  · exact (s.setDev_works _ _).keeps.trans (State.probeResetSettled_keeps _ _ _)
  · exact s.markOffline_keeps d
  · exact .refl s

/-! ### PFAIL (R156) -/

theorem State.setPfail_keeps (s : State) (level : Bool) : s.Keeps (s.setPfail level) :=
  (s.setPfail_moves level).keeps (fun b op write => ⟨op, write, b⟩)

theorem State.enterStopped_keeps {s : State} (h : s.sc.state ≠ .run) : s.Keeps s.enterStopped :=
  (State.enterStopped_moves h).toHostKept.keeps
    (fun _ => State.bootOrder_of_left (by simp [State.enterStopped_state]) (by simp [State.enterStopped])) (fun _ _ => h)

theorem State.pfailRises_keeps (s : State) : s.Keeps s.pfailRises := by
  refine (s.setPfail_keeps true).trans ?_
  unfold State.pfailRises
  dsimp only
  split
  · next h => exact State.enterStopped_keeps (by simp [h])
  · next h => exact State.enterStopped_keeps (by simp [h])
  · next h => exact State.enterHoldup_keeps (by simp [h])
  · next h => exact State.enterHoldup_keeps (by simp [h])
  all_goals exact .refl _

theorem State.pfailFalls_keeps (s : State) : s.Keeps s.pfailFalls := by
  refine (s.setPfail_keeps false).trans ?_
  unfold State.pfailFalls
  dsimp only
  split
  · next h =>
    split
    · exact .refl _
    · exact (State.beginReturn_moves _).keeps (by simp [h])
  all_goals exact .refl _

/-! ### Every effect -/

theorem State.setFu_same_wait {s : State} {f : FenceUnit} (h : f.wait = s.fu.wait) : s.Works (s.setFu f) :=
  s.setFu_works (by rw [h])

theorem FenceUnit.pulseEnds_wait (f : FenceUnit) : f.pulseEnds.wait = f.wait := by
  unfold FenceUnit.pulseEnds
  split <;> rfl

theorem FenceUnit.lowTimeEnds_wait (f : FenceUnit) : f.lowTimeEnds.wait = f.wait := by
  unfold FenceUnit.lowTimeEnds
  (repeat' split) <;> rfl

theorem keeps_of_due {s t : State} (h : Due s t) : s.Keeps t := by
  cases h with
  | bootStarts h => exact State.bootStarts_keeps h
  | fillPending h => exact State.fillPending_keeps h
  | completeHead h => exact (State.completeHead_works h).keeps
  | completeWait h => exact (State.completeWait_releases h).keeps
  | swap h => exact (State.swap_works h).keeps
  | endContext d h => exact (State.endContext_works h).keeps
  | endByFault d h => exact (State.endByFault_works h).keeps
  | holdupEnd h =>
    unfold State.holdupEnd at h
    split at h
    · next hs =>
      cases h
      exact (State.holdupEnds_moves (by simp [hs.1])).keeps (by simp [hs.1])
    · exact nomatch h
  | stoppedReset h =>
    unfold State.stoppedReset at h
    split at h <;> cases h
    exact s.internalReset_keeps
  | replayEnd h =>
    refine (State.replayEnd_moves h).keeps ?_
    unfold State.replayEnd at h
    split at h
    · next hs => simp [hs.1]
    · exact nomatch h
  | restartEnd h =>
    unfold State.restartEnd at h
    split at h <;> cases h
    exact s.internalReset_keeps
  | gather d h => exact (State.gather_works h).keeps
  | takeWrite h =>
    refine (State.takeWrite_moves h).keeps (fun _ _ write => ?_)
    simp [State.takeWrite, write] at h
  | startPersist h =>
    refine (State.startPersist_moves h).keeps (fun boot _ _ => ?_)
    simp [State.startPersist, State.persistDue, boot] at h
  | hostAsks h => exact (State.hostAsks_works h).keeps
  | fetchAsks h => exact (State.fetchAsks_works h).keeps
  | grant h =>
    unfold State.grant at h
    split at h
    · obtain ⟨r, hr, rfl⟩ := Option.map_eq_some_iff.1 h
      exact State.grantTo_keeps (State.choice_mem hr)
    · exact nomatch h

theorem keeps_of_effect {s t : State} (h : Effect s t) : s.Keeps t := by
  cases h with
  | due h => exact keeps_of_due h
  | pending x => exact (s.setPending_works x).keeps
  | pins x => exact (s.setPins_works x).keeps
  | tick => exact s.tick_works.keeps
  | coldReset => exact s.coldReset_keeps
  | coldResetLow => exact s.coldReset_keeps.trans (State.setFu_same_wait (s := s.coldReset) (f := FenceUnit.reset) rfl).keeps
  | nvmSpoil d => exact (s.nvmSpoil_works d).keeps
  | port m _ => exact (s.setMgp_works m).keeps
  | pulseEnds => exact (State.setFu_same_wait s.fu.pulseEnds_wait).keeps
  | lowTimeEnds => exact (State.setFu_same_wait s.fu.lowTimeEnds_wait).keeps
  | fenceArrival => exact s.fenceArrival_works.keeps
  | accessArrives ha hbl hbh hrd hwr hd => exact s.accessArrives_keeps ha hbl hbh hrd hwr hd
  | strobeReleased => exact s.strobeReleased_keeps
  | stallExpires => exact s.stallExpires_keeps
  | sealWhere p => exact (s.sealWhere_works p).keeps
  | transferEnds answer => exact s.transferEnds_keeps answer
  | pollDue d => exact (s.pollDue_works d).keeps
  | ackExpires d => exact (s.ackExpires_works d).keeps
  | programExpires d => exact (s.programExpires_works d).keeps
  | muProgramExpires => exact s.muProgramExpires_works.keeps
  | resetExpires d => exact s.resetExpires_keeps d
  | pfailRises => exact s.pfailRises_keeps
  | pfailFalls => exact s.pfailFalls_keeps
  | commitTaken _ => exact ((s.setWd_works _).trans (State.setMgp_works _ _)).keeps
  | restartTaken h => exact State.enterRestarting_keeps h
  | retireOnRequest d page => exact (s.retireOnRequest_works d page).keeps

/-- Settles O9: the held accesses are kept with their holders by each effect that a command is made of. -/
theorem heldKept : Obligations.HeldKept := fun _ _ h he =>
  step_keeps_of_effects (fun _ _ e => (keeps_of_effect e).held) h he

/-- Settles O10: the lines of the OPEN entries stay without a double, and the line of a waiting write is none of them. -/
theorem oneOpenKept : Obligations.OneOpenKept := fun _ _ h he =>
  (step_keeps_of_effects (P := fun s => s.Held ∧ s.OneOpen)
    (fun _ _ e ⟨held, one⟩ => ⟨(keeps_of_effect e).held held, (keeps_of_effect e).oneOpen held one⟩) h he).2

/-- Settles O12: RUN is left only with the entries sealed and the held access refused, and entered states take none. -/
theorem shutOutsideRunKept : Obligations.ShutOutsideRunKept := fun _ _ h he =>
  (step_keeps_of_effects (P := fun s => s.Held ∧ s.BootOrder ∧ s.ShutOutsideRun)
    (fun _ _ e ⟨held, order, shut⟩ =>
      ⟨(keeps_of_effect e).held held, (keeps_of_effect e).order order, (keeps_of_effect e).shut held order shut⟩) h he).2.2

end Sys2Proof.Machine
end

section
/-! The forward lookup (R20) and the batch of a gather (R50): at each byte the newest entry that covers it gives the value. -/

namespace Sys2Proof.Machine

/- One theorem after another: waiting ones would each hold a thread. -/
set_option Elab.async false

/-! ### The lookup -/

/-- The value an entry gives to a byte, if it covers it. -/
def Entry.gives (e : Entry) (loc : Loc) (pos : Nat) : Option Byte := if e.loc = loc then byteAt e.bytes pos else none

theorem Entry.gives_eq_some_iff {e : Entry} {loc : Loc} {pos : Nat} {v : Byte} :
    e.gives loc pos = some v ↔ e.loc = loc ∧ byteAt e.bytes pos = some v := by
  simp [Entry.gives]

theorem Entry.gives_eq_none_iff {e : Entry} {loc : Loc} {pos : Nat} :
    e.gives loc pos = none ↔ (e.loc = loc → byteAt e.bytes pos = none) := by
  simp [Entry.gives]

theorem forward_eq (es : List Entry) (loc : Loc) (pos : Nat) :
    forward es loc pos = es.reverse.findSome? (fun e => e.gives loc pos) :=
  rfl

theorem forward_eq_none_iff {es : List Entry} {loc : Loc} {pos : Nat} :
    forward es loc pos = none ↔ ∀ e ∈ es, e.loc = loc → byteAt e.bytes pos = none := by
  simp [forward_eq, Entry.gives_eq_none_iff]

/-- The entries newer than the one found are those before it in the reversed age list. -/
theorem forward_eq_some_iff {es : List Entry} {loc : Loc} {pos : Nat} {v : Byte} :
    forward es loc pos = some v ↔ ∃ older e newer, es = older ++ e :: newer ∧ e.loc = loc ∧ byteAt e.bytes pos = some v ∧
      ∀ f ∈ newer, f.loc = loc → byteAt f.bytes pos = none := by
  rw [forward_eq, List.findSome?_eq_some_iff]
  constructor
  · rintro ⟨newer, e, older, split, found, skipped⟩
    obtain ⟨here, value⟩ := Entry.gives_eq_some_iff.1 found
    refine ⟨older.reverse, e, newer.reverse, by simpa using congrArg List.reverse split, here, value, fun f hf => ?_⟩
    exact Entry.gives_eq_none_iff.1 (skipped f (List.mem_reverse.1 hf))
  · rintro ⟨older, e, newer, rfl, here, value, skipped⟩
    refine ⟨newer.reverse, e, older.reverse, by simp, Entry.gives_eq_some_iff.2 ⟨here, value⟩, fun f hf => ?_⟩
    exact Entry.gives_eq_none_iff.2 (skipped f (List.mem_reverse.1 hf))

/-- Settles O18: the search of the reversed age list stops at the newest entry that covers the byte. -/
theorem lookupFindsNewest : Obligations.LookupFindsNewest :=
  ⟨fun _ _ _ _ => forward_eq_some_iff, fun _ _ _ => forward_eq_none_iff⟩

/-! ### The batch of a gather (R50) -/

/-- A newer entry is looked at first. -/
theorem forward_append_singleton (es : List Entry) (e : Entry) (loc : Loc) (pos : Nat) :
    forward (es ++ [e]) loc pos = (e.gives loc pos).or (forward es loc pos) := by
  simp only [forward_eq, List.reverse_append, List.reverse_singleton, List.singleton_append, List.findSome?_cons]
  cases e.gives loc pos <;> rfl

theorem overlay_length (old new : List (Option Byte)) (h : new.length = old.length) :
    (overlay old new).length = old.length := by
  simp [overlay, h]

theorem byteAt_overlay {old new : List (Option Byte)} {k : Nat} (ho : k < old.length) (hn : k < new.length) :
    byteAt (overlay old new) k = (byteAt new k).or (byteAt old k) := by
  simp only [byteAt, overlay, List.getElem?_zipWith, List.getElem?_eq_getElem ho, List.getElem?_eq_getElem hn]
  cases new[k] <;> rfl

theorem lineBatch_append_singleton (set : List Entry) (e : Entry) (line : Nat) :
    lineBatch (set ++ [e]) line =
      if e.loc.line = line then overlay (lineBatch set line) e.bytes else lineBatch set line := by
  by_cases h : e.loc.line = line <;> simp [lineBatch, h]

theorem lineBatch_length {set : List Entry} (h : ∀ e ∈ set, e.bytes.length = 16) (line : Nat) :
    (lineBatch set line).length = 16 := by
  induction set using List.reverseRecOn with
  | nil => rfl
  | append_singleton set e ih =>
    have older := ih (fun x hx => h x (by simp [hx]))
    rw [lineBatch_append_singleton]
    split
    · rw [overlay_length _ _ (by rw [older]; exact h e (by simp)), older]
    · exact older

/-- On one page, a line of the batch is the forward lookup over the set. -/
theorem byteAt_lineBatch {set : List Entry} {d : Dev} {page : Nat}
    (h : ∀ e ∈ set, e.loc.dev = d ∧ e.loc.page = page ∧ e.bytes.length = 16) (line : Nat) {k : Nat} (hk : k < 16) :
    byteAt (lineBatch set line) k = forward set ⟨d, page, line⟩ k := by
  induction set using List.reverseRecOn with
  | nil =>
    show (emptyLine[k]?).join = none
    rw [emptyLine, List.getElem?_replicate, if_pos hk]
    rfl
  | append_singleton set e ih =>
    have older := ih (fun x hx => h x (by simp [hx]))
    have length := lineBatch_length (fun x hx => (h x (by simp [hx])).2.2 : ∀ x ∈ set, x.bytes.length = 16) line
    obtain ⟨dev, onPage, bytes⟩ := h e (by simp)
    have here : e.loc = ⟨d, page, line⟩ ↔ e.loc.line = line := by
      rw [show e.loc = ⟨d, page, e.loc.line⟩ from by rw [← dev, ← onPage]]
      simp
    rw [lineBatch_append_singleton, forward_append_singleton, ← older, Entry.gives]
    by_cases hl : e.loc.line = line
    · rw [if_pos hl, if_pos (here.2 hl), byteAt_overlay (by omega) (by omega)]
    · rw [if_neg hl, if_neg (mt here.1 hl), Option.none_or]

/-- Blocks of one length laid end to end. -/
theorem getElem?_flatMap_range {α : Type} (f : Nat → List α) {n : Nat} (hf : ∀ i, (f i).length = n) {m i k : Nat}
    (hi : i < m) (hk : k < n) : ((List.range m).flatMap f)[n * i + k]? = (f i)[k]? := by
  induction m with
  | zero => omega
  | succ m ih =>
    have length : ((List.range m).flatMap f).length = n * m := by
      simp [List.length_flatMap, hf, Nat.mul_comm]
    rw [List.range_succ, List.flatMap_append, List.flatMap_singleton]
    by_cases hm : i = m
    · subst hm
      rw [List.getElem?_append_right (by omega), length, Nat.add_sub_cancel_left]
    · have earlier : n * i + n ≤ n * m := by
        rw [← Nat.mul_succ]
        exact Nat.mul_le_mul_left n (by omega)
      rw [List.getElem?_append_left (by omega)]
      exact ih (by omega)

/-! ### A declaration in the fence unit (R74, R79) -/

theorem anyAtOrBelow_eq_decide (seqs : List Word32) (m : Word32) :
    anyAtOrBelow seqs m = decide (∃ q ∈ seqs, atOrBelow q m = true) := by
  rw [Bool.eq_iff_iff, decide_eq_true_iff]
  simp [anyAtOrBelow]

theorem FenceUnit.markLost_eq (f : FenceUnit) (seqs : List Word32) : f.markLost seqs = { f with
    queue := f.queue.map (fun m => { m with lost := m.lost || decide (∃ q ∈ seqs, atOrBelow q m.marker = true) })
    wait := f.wait.map (fun w => { w with lost := w.lost || decide (∃ q ∈ seqs, atOrBelow q w.seq = true) }) } := by
  simp only [FenceUnit.markLost, anyAtOrBelow_eq_decide, FenceUnit.mk.injEq, and_true]
  constructor
  · refine congrArg (fun g => f.queue.map g) (funext fun m => ?_)
    by_cases h : ∃ q ∈ seqs, atOrBelow q m.marker = true <;> simp [h]
  · refine congrArg (fun g => f.wait.map g) (funext fun w => ?_)
    by_cases h : ∃ q ∈ seqs, atOrBelow q w.seq = true <;> simp [h]

/-! ### The gather (R21, R49) -/

/-- What a gather makes of an entry (R21). -/
def Entry.gather (d : Dev) (page : Nat) (e : Entry) : Entry :=
  if isGathered d page e then { e with state := .draining, deadline := none } else e

theorem State.gatherPage_eq (s : State) (d : Dev) (page : Nat) :
    s.gatherPage d page = s.setPwb { s.pwb with entries := s.pwb.entries.map (Entry.gather d page) } :=
  rfl

theorem Entry.gather_of_not {d : Dev} {page : Nat} {e : Entry} (h : isGathered d page e = false) :
    e.gather d page = e := by
  simp [Entry.gather, h]

theorem Entry.gather_seq (d : Dev) (page : Nat) (e : Entry) : (e.gather d page).seq = e.seq := by
  unfold Entry.gather
  split <;> rfl

/-- With nothing of the device DRAINING before, the gathered entries are the set. -/
theorem inSet_gather {es : List Entry} {d : Dev} {page : Nat} (h : ∀ x ∈ es, x.loc.dev = d → x.state ≠ .draining)
    {e : Entry} (he : e ∈ es) :
    inSet d ((gatheredSet es d page).map Entry.seq) (e.gather d page) = isGathered d page e := by
  rw [Bool.eq_iff_iff, inSet_iff, Entry.gather_seq]
  constructor
  · rintro ⟨dev, draining, -⟩
    by_contra hn
    rw [Entry.gather_of_not (by simpa using hn)] at dev draining
    exact h e he dev draining
  · intro hg
    have member : e.seq ∈ (gatheredSet es d page).map Entry.seq :=
      List.mem_map_of_mem (List.mem_filter.2 ⟨he, hg⟩)
    simpa [Entry.gather, hg, member] using ((isGathered_iff d page e).1 hg).1

/-- Declared LOST right after the gather, the set goes and every other entry stays. -/
theorem State.declareLost_gathered {s : State} {d : Dev} {page : Nat}
    (h : ∀ x ∈ s.pwb.entries, x.loc.dev = d → x.state ≠ .draining) :
    (s.gatherPage d page).declareLost (inSet d ((gatheredSet s.pwb.entries d page).map Entry.seq)) = { s with
      pwb := { s.pwb with entries := s.pwb.entries.filter (fun x => !isGathered d page x) }
      fu := s.fu.markLost ((gatheredSet s.pwb.entries d page).map Entry.seq)
      mgp := { s.mgp with
        counters := s.mgp.counters.raise .entriesLost (gatheredSet s.pwb.entries d page).length } } := by
  have lost : (s.pwb.entries.map (Entry.gather d page)).filter
      (inSet d ((gatheredSet s.pwb.entries d page).map Entry.seq)) =
        (gatheredSet s.pwb.entries d page).map (Entry.gather d page) := by
    rw [List.filter_map]
    exact congrArg _ (List.filter_congr fun e he => inSet_gather h he)
  have kept : (s.pwb.entries.map (Entry.gather d page)).filter
      (fun e => !inSet d ((gatheredSet s.pwb.entries d page).map Entry.seq) e) =
        s.pwb.entries.filter (fun e => !isGathered d page e) := by
    have left {e : Entry} (he : e ∈ s.pwb.entries) :
        (!inSet d ((gatheredSet s.pwb.entries d page).map Entry.seq) (e.gather d page)) = !isGathered d page e :=
      congrArg (!·) (inSet_gather h he)
    rw [List.filter_map]
    refine (congrArg _ (List.filter_congr fun e he => left he)).trans ?_
    refine (List.map_congr_left fun e he => ?_).trans (List.map_id _)
    exact Entry.gather_of_not (by simpa using (List.mem_filter.1 he).2)
  have seqs : ((gatheredSet s.pwb.entries d page).map (Entry.gather d page)).map Entry.seq =
      (gatheredSet s.pwb.entries d page).map Entry.seq := by
    rw [List.map_map]
    exact List.map_congr_left fun e _ => e.gather_seq d page
  simp only [State.declareLost, State.freeWhere, State.gatherPage_eq, State.setPwb_pwb, lost, kept, seqs, List.length_map]
  rfl

/-- Settles O45: the flags by cases on each record, the gather by the steps of the model, and the batch line by line. -/
theorem drainGather : Obligations.DrainGather := by
  refine ⟨FenceUnit.markLost_eq, ?gather, ?batch⟩
  case gather =>
    intro s d e alive noContext takes idle state oldest
    dsimp only
    have gatherable : s.gatherable d = some e := by
      rw [State.gatherable, if_pos ⟨noContext, takes, idle, by simpa [or_comm, or_left_comm] using state⟩]
      exact oldest
    refine ⟨fun notFailed => ?_, fun failed noDraining => ?_⟩
    · have due : s.gather d = some (((s.gatherPage d e.loc.page).setCtx d
          (some (newCtx e.loc.page (s.ru.physical d e.loc.page) .drain .programming
            (gatheredSet s.pwb.entries d e.loc.page)))).join
          ⟨.engine, d, .programMasked (s.ru.physical d e.loc.page) (formBatch (gatheredSet s.pwb.entries d e.loc.page))⟩) := by
        simp only [State.gather, gatherable]
        exact if_neg (by simpa using notFailed)
      refine congrArg _ ((State.named_of_due alive due).trans (congrArg State.settle ?_))
      rw [State.join, if_pos (State.mayQueue_of_takes takes)]
      rfl
    · have due : s.gather d = some (((s.gatherPage d e.loc.page).declareLost
          (inSet d ((gatheredSet s.pwb.entries d e.loc.page).map Entry.seq))).postFault .retireFail (some d)
            (some e.loc.page) (some (gatheredSet s.pwb.entries d e.loc.page).length)) := by
        simp only [State.gather, gatherable]
        exact if_pos failed
      refine congrArg _ ((State.named_of_due alive due).trans (congrArg State.settle ?_))
      rw [State.declareLost_gathered noDraining]
      rfl
  case batch =>
    intro set d page line k hline hk onPage
    rw [← byteAt_lineBatch onPage line hk, byteAt, byteAt, formBatch,
      getElem?_flatMap_range _ (lineBatch_length fun x hx => (onPage x hx).2.2) hline hk]

end Sys2Proof.Machine
end

section
/-! The room of every list and count (`State.Fits`): the operations of the host's side, the buffer, the fence unit, the read path
and the drain engines keep within it. Each lemma is named after its operation, so that a proof about a chain of operations reads
as that chain. -/

namespace Sys2Proof.Machine

/- One theorem after another: waiting ones would each hold a thread. -/
set_option Elab.async false

section
variable {s t : State} {d : Dev}

/-! ### What a block holds is replaced -/

theorem State.Fits.setPending (h : s.Fits) {x : List Instr} : (s.setPending x).Fits := { h with }
theorem State.Fits.setPins (h : s.Fits) {x : Pins} : (s.setPins x).Fits := { h with }
theorem State.Fits.setHp (h : s.Fits) {x : HostPort} : (s.setHp x).Fits := { h with }
theorem State.Fits.setSc (h : s.Fits) {x : StateController} : (s.setSc x).Fits := { h with }
theorem State.Fits.setNvm (h : s.Fits) {x : PerDev Nvm} : (s.setNvm x).Fits := { h with }
theorem State.Fits.setIndet (h : s.Fits) {x : Nat} : (s.setIndet x).Fits := { h with }

theorem State.Fits.setMgp (h : s.Fits) {m : ManagementPort} (faults : m.faults.length ≤ s.mgp.faults.length := by rfl) :
    (s.setMgp m).Fits :=
  { h with faults := faults.trans h.faults }

theorem State.Fits.setWd (h : s.Fits) {w : WindowDecoder} (limit : w.live.params.suspendLimit.toNat ≤ 7)
    (image : ∀ t, w.image = some t → t.params.suspendLimit.toNat ≤ 7) : (s.setWd w).Fits :=
  { h with limit := limit, image := image }

theorem State.Fits.setPwb (h : s.Fits) {b : WriteBuffer} (entries : b.entries.length ≤ Config.bufferEntries) :
    (s.setPwb b).Fits :=
  { h with entries := entries }

theorem State.Fits.setRp (h : s.Fits) {r : ReadPath} (lines : r.lines.length ≤ s.rp.lines.length := by rfl) :
    (s.setRp r).Fits :=
  { h with lines := lines.trans h.lines }

theorem State.Fits.setFu (h : s.Fits) {f : FenceUnit} (markers : f.queue.length ≤ Config.fenceRecords)
    (weights : ∀ m ∈ f.queue, 1 ≤ m.weight ∧ m.weight ≤ Config.saturation) (owed : f.owed ≤ Config.saturation) :
    (s.setFu f).Fits :=
  { h with markers := markers, weights := weights, owed := owed }

theorem State.Fits.setRu (h : s.Fits) {u : RemapUnit} (free : ∀ d, (u.free.get d).length ≤ Config.sparePages) :
    (s.setRu u).Fits :=
  { h with spares := free }

theorem State.Fits.setMp (h : s.Fits) {m : MemoryPort} (starve : m.starve ≤ Config.starvationLimit) : (s.setMp m).Fits :=
  { h with starve := starve }

theorem State.Fits.setMu (h : s.Fits) {m : MetadataUnit} (op : ∀ o, m.op = some o → o.fits) : (s.setMu m).Fits :=
  { h with replay := op }

/-! A change that leaves what is counted. -/

theorem State.Fits.fuSame (h : s.Fits) {f : FenceUnit} (queue : f.queue = s.fu.queue := by rfl)
    (owed : f.owed = s.fu.owed := by rfl) : (s.setFu f).Fits :=
  h.setFu (queue ▸ h.markers) (queue ▸ h.weights) (owed ▸ h.owed)

theorem State.Fits.ruSame (h : s.Fits) {u : RemapUnit} (free : u.free = s.ru.free := by rfl) : (s.setRu u).Fits :=
  h.setRu (free ▸ h.spares)

theorem State.Fits.mpSame (h : s.Fits) {m : MemoryPort} (starve : m.starve = s.mp.starve := by rfl) : (s.setMp m).Fits :=
  h.setMp (starve ▸ h.starve)

theorem State.Fits.muSame (h : s.Fits) {m : MetadataUnit} (op : m.op = s.mu.op := by rfl) : (s.setMu m).Fits :=
  h.setMu (op ▸ h.replay)

theorem State.Fits.pwbSame (h : s.Fits) {b : WriteBuffer} (entries : b.entries = s.pwb.entries := by rfl) :
    (s.setPwb b).Fits :=
  h.setPwb (entries ▸ h.entries)

theorem State.Fits.setDe (h : s.Fits) {e : PerDev Engine} (ctx : ∀ d c, (e.get d).ctx = some c → c.Fits) :
    (s.setDe e).Fits :=
  { h with ctx := ctx }

/-- One engine is replaced by one whose context fits. -/
theorem State.Fits.setEngine (h : s.Fits) {e : Engine} (ctx : ∀ c, e.ctx = some c → c.Fits) :
    (s.setDe (s.de.set d e)).Fits := by
  refine h.setDe (fun f c hc => ?_)
  by_cases he : f = d
  · subst he
    rw [PerDev.get_set_same] at hc
    exact ctx c hc
  · rw [PerDev.get_set_other _ he] at hc
    exact h.ctx f c hc

theorem State.Fits.setCtx (h : s.Fits) {c : Option Ctx} (fits : ∀ x, c = some x → x.Fits) : (s.setCtx d c).Fits :=
  h.setEngine fits

theorem State.Fits.setCtx_none (h : s.Fits) : (s.setCtx d none).Fits := h.setCtx (by simp)

theorem State.Fits.setCtx_some (h : s.Fits) {c : Ctx} (fits : c.Fits) : (s.setCtx d (some c)).Fits :=
  h.setCtx (by rintro _ ⟨⟩; exact fits)

/-- The stop flag of an engine is no count. -/
theorem State.Fits.setStopping (h : s.Fits) {b : Bool} :
    (s.setDe (s.de.set d { s.de.get d with stopping := b })).Fits :=
  h.setEngine (h.ctx d)

theorem State.Fits.setDev (h : s.Fits) {r : DevRecord} : (s.setDev d r).Fits := h.mpSame
theorem State.Fits.count (h : s.Fits) {c : Counter} {n : Nat} : (s.count c n).Fits := h.setMgp

theorem State.Fits.postFault (h : s.Fits) {k : FaultKind} {f : Option Dev} {p n : Option Nat} :
    (s.postFault k f p n).Fits := by
  unfold State.postFault
  dsimp only
  split
  · next room => exact { h with faults := List.length_append.trans_le room }
  · exact h.setMgp

theorem State.Fits.complete (h : s.Fits) {e : Option Cause} {data : Half} : (s.complete e data).Fits := by
  unfold State.complete
  split
  · exact h
  · split
    · exact h.setHp
    · exact h.setHp.count

theorem State.Fits.holdAccess (h : s.Fits) {p : AccessPhase} : (s.holdAccess p).Fits := by
  unfold State.holdAccess
  split
  · exact h
  · exact h.setHp

theorem State.Fits.join (h : s.Fits) {r : Request} : (s.join r).Fits := by
  unfold State.join
  split
  · exact h.mpSame
  · exact h

theorem State.Fits.withdraw (h : s.Fits) {p : Request → Bool} : (s.withdraw p).Fits := h.mpSame

/-! ### The buffer (R2) -/

theorem sealOldest_length (es : List Entry) : (sealOldest es).length = es.length := by
  induction es with
  | nil => rfl
  | cons e es ih =>
    unfold sealOldest
    split <;> simp [ih]

theorem State.Fits.sealWhere (h : s.Fits) {p : Entry → Bool} : (s.sealWhere p).Fits :=
  h.setPwb (by simpa using h.entries)

theorem State.Fits.sealAll (h : s.Fits) : s.sealAll.Fits := h.sealWhere

theorem State.Fits.gatherPage (h : s.Fits) {page : Nat} : (s.gatherPage d page).Fits :=
  h.setPwb (by simpa using h.entries)

theorem State.Fits.freeWhere (h : s.Fits) {p : Entry → Bool} : (s.freeWhere p).Fits :=
  h.setPwb ((List.length_filter_le _ _).trans h.entries)

theorem State.Fits.dropPending (h : s.Fits) : s.dropPending.Fits := h.pwbSame

theorem State.Fits.mergeWrite (h : s.Fits) {w : PendingWrite} : (s.mergeWrite w).Fits :=
  (h.setPwb (by simpa using h.entries)).complete.count.count

theorem State.Fits.allocate (h : s.Fits) {w : PendingWrite} (free : s.occupancy < Config.bufferEntries) :
    (s.allocate w).Fits := by
  refine h.setPwb ?_
  unfold State.occupancy at free
  dsimp only
  split
  · rw [sealOldest_length, List.length_append]
    exact free
  · rw [List.length_append]
    exact free

theorem State.Fits.allocateAndAccept (h : s.Fits) {w : PendingWrite} (free : s.occupancy < Config.bufferEntries) :
    (s.allocateAndAccept w).Fits := by
  unfold State.allocateAndAccept
  dsimp only
  split
  · exact (h.allocate free).count.fuSame.holdAccess
  · exact (h.allocate free).count.complete

theorem State.Fits.takeEntry (h : s.Fits) {w : PendingWrite} : (s.takeEntry w).Fits := by
  unfold State.takeEntry
  split
  · exact h.allocateAndAccept ‹_›
  · exact h.pwbSame.holdAccess

theorem State.Fits.placeWrite (h : s.Fits) {w : PendingWrite} : (s.placeWrite w).Fits := by
  unfold State.placeWrite
  (repeat' split)
  · exact h.sealAll.takeEntry
  · exact h.mergeWrite
  · exact h.takeEntry

/-! ### The fence unit (R69, R72, R75) -/

theorem State.Fits.markLost (h : s.Fits) {seqs : List Word32} : (s.setFu (s.fu.markLost seqs)).Fits := by
  refine h.setFu (by simpa [FenceUnit.markLost] using h.markers) (fun x hx => ?_) h.owed
  obtain ⟨m, hm, rfl⟩ := List.mem_map.1 hx
  have weight := h.weights m hm
  split <;> exact weight

theorem State.Fits.declareLost (h : s.Fits) {p : Entry → Bool} : (s.declareLost p).Fits := h.freeWhere.count.markLost

theorem State.Fits.owePulse (h : s.Fits) : (s.setFu s.fu.owePulse).Fits := by
  unfold FenceUnit.owePulse
  dsimp only
  split
  · exact h.setFu h.markers h.weights (Nat.min_le_right _ _)
  · exact h.setFu h.markers h.weights (Nat.min_le_right _ _)

theorem State.Fits.markerDone (h : s.Fits) {m : Marker} : (s.markerDone m).Fits := h.owePulse.count.setMgp

theorem mergeNewest_length (v : Word32) (ms : List Marker) : (mergeNewest v ms).length = ms.length := by
  rcases List.eq_nil_or_concat ms with rfl | ⟨older, m, rfl⟩
  · rfl
  · simp [mergeNewest_append]

theorem mergeNewest_weights {v : Word32} {ms : List Marker} (h : ∀ m ∈ ms, 1 ≤ m.weight ∧ m.weight ≤ Config.saturation) :
    ∀ m ∈ mergeNewest v ms, 1 ≤ m.weight ∧ m.weight ≤ Config.saturation := by
  rcases List.eq_nil_or_concat ms with rfl | ⟨older, m, rfl⟩
  · exact h
  · rw [List.concat_eq_append] at h ⊢
    rw [mergeNewest_append]
    intro x hx
    rcases List.mem_append.1 hx with hx | hx
    · exact h x (by simp [hx])
    · cases List.mem_singleton.1 hx
      exact ⟨Nat.le_min.2 ⟨Nat.le_add_left _ _, by decide⟩, Nat.min_le_right _ _⟩

theorem State.Fits.fenceArrival (h : s.Fits) : s.fenceArrival.Fits := by
  unfold State.fenceArrival
  dsimp only
  (repeat' split)
  · exact h.sealAll.markerDone
  · next room =>
    refine h.sealAll.setFu (List.length_append.trans_le room) (fun m hm => ?_) h.owed
    rcases List.mem_append.1 hm with hm | hm
    · exact h.weights m hm
    · cases List.mem_singleton.1 hm
      exact ⟨Nat.le_refl 1, show 1 ≤ 255 by decide⟩
  · exact h.sealAll.setFu ((mergeNewest_length _ _).trans_le h.markers) (mergeNewest_weights h.weights) h.owed

/-! ### The read path (R31) -/

theorem State.Fits.dropRefill (h : s.Fits) {p : Loc → Bool} : (s.dropRefill p).Fits := by
  unfold State.dropRefill
  (repeat' split)
  · exact h
  · exact h.setRp.withdraw
  · exact h

theorem State.Fits.invalidate (h : s.Fits) {page : Nat} : (s.invalidate d page).Fits :=
  (h.setRp (List.length_filter_le _ _)).dropRefill

theorem State.Fits.answerReads (h : s.Fits) {p q : ReadPhase} : (s.answerReads d p q).Fits := h.setRp
theorem State.Fits.forgetAsked (h : s.Fits) : (s.forgetAsked d).Fits := h.setRp

/-- The counts of a context are as they were, and so is where it stood, or it stands outside the retirement flow. -/
theorem Ctx.Fits.of_running {c x : Ctx} (h : c.Fits) (running : c.phase ≠ .stopped)
    (phase : x.phase = c.phase ∨ x.phase ≠ .retireRead ∧ x.phase ≠ .retireProgram)
    (suspends : x.suspendsUsed = c.suspendsUsed := by rfl) (attempts : x.attempts = c.attempts := by rfl)
    (candidate : x.candidate = c.candidate := by rfl) (before : x.before = c.before := by rfl) : x.Fits where
  suspends := suspends.trans_le h.suspends
  attempts := attempts.trans_le h.attempts
  spent n := by
    obtain ⟨none, read, program, -, -⟩ := h.spent (attempts ▸ n)
    have start : x.before = Option.none := before.trans (h.before running)
    refine ⟨candidate.trans none, ?_, ?_, by simp [start], by simp [start]⟩
    · rcases phase with p | p
      · exact p ▸ read
      · exact p.1
    · rcases phase with p | p
      · exact p ▸ program
      · exact p.2
  before _ := before.trans (h.before running)

theorem State.Fits.requesterGone (h : s.Fits) : (s.requesterGone d).Fits := by
  unfold State.requesterGone
  split
  · exact h
  · next c hc =>
    have fits := h.ctx d c hc
    split
    · next hp _ =>
      split
      · exact h.withdraw.setCtx_some (fits.of_running (by simp [hp]) (.inr (by simp)))
      · exact h
    · next hp _ => exact (h.setCtx_some (fits.of_running (by simp [hp]) (.inl (by rfl)))).join
    · exact h

theorem State.suspendable_spec {loc : Loc} {c : Ctx} (hc : s.suspendable loc = some c) :
    s.ctx loc.dev = some c ∧ c.phase = .programming := by
  unfold State.suspendable at hc
  split at hc
  · exact nomatch hc
  · next hx =>
    split at hc
    · next hp =>
      cases hc
      exact ⟨hx, hp.2.2.1⟩
    · exact nomatch hc

/-- A suspend that is accepted is one of at most 7 (R56, R115). -/
theorem State.Fits.acceptSuspend (h : s.Fits) {c : Ctx} (fits : c.Fits) (running : c.phase ≠ .stopped)
    (room : c.suspendsUsed < s.suspendLimit) : (s.acceptSuspend d c).Fits :=
  have counted : Ctx.Fits { c with suspendsUsed := c.suspendsUsed + 1 } :=
    { fits with suspends := Nat.le_trans room h.limit }
  (h.setCtx_some (counted.of_running running (.inr (by simp)))).join

theorem State.Fits.hostAsks (h : s.Fits) (ht : s.hostAsks = some t) : t.Fits := by
  unfold State.hostAsks at ht
  split at ht
  · exact nomatch ht
  · split at ht
    · split at ht
      · exact nomatch ht
      · next hc =>
        obtain ⟨ctx, phase⟩ := State.suspendable_spec hc
        split at ht <;> cases ht
        · next room => exact h.setRp.acceptSuspend (h.ctx _ _ ctx) (by simp [phase]) room
        · exact h.setRp
    · exact nomatch ht

theorem State.Fits.fetchAsks (h : s.Fits) (ht : s.fetchAsks = some t) : t.Fits := by
  unfold State.fetchAsks at ht
  split at ht
  · exact nomatch ht
  · split at ht
    · split at ht
      · exact nomatch ht
      · next hc =>
        obtain ⟨ctx, phase⟩ := State.suspendable_spec hc
        split at ht <;> cases ht
        · next room => exact h.setRp.acceptSuspend (h.ctx _ _ ctx) (by simp [phase]) room
        · exact h.setRp
    · exact nomatch ht

theorem State.Fits.endSuspendOf (h : s.Fits) {p : ReadPhase} : (s.endSuspendOf d p).Fits := by
  unfold State.endSuspendOf
  split
  · exact h.requesterGone
  · exact h

theorem State.Fits.closeHostRead (h : s.Fits) : s.closeHostRead.Fits := by
  unfold State.closeHostRead
  split
  · exact h
  · dsimp only
    split
    · exact h.setRp
    · exact h.setRp.withdraw.endSuspendOf

theorem State.Fits.closeFetch (h : s.Fits) : s.closeFetch.Fits := by
  unfold State.closeFetch
  split
  · exact h
  · exact h.setRp.withdraw.endSuspendOf

theorem State.Fits.abandonRead (h : s.Fits) : s.abandonRead.Fits := by
  unfold State.abandonRead
  (repeat' split)
  · exact h
  · exact h.setRp
  · exact h.setRp.mpSame

theorem State.Fits.leaveRunReads (h : s.Fits) : s.leaveRunReads.Fits := h.closeHostRead.closeFetch.dropRefill

theorem State.Fits.readsOffline (h : s.Fits) : (s.readsOffline d).Fits := by
  have fetches {a : State} (ha : a.Fits) : (match a.rp.fetch with
      | some f => if f.loc.dev = d then a.closeFetch else a
      | none => a).Fits := by
    (repeat' split)
    · exact ha.closeFetch
    · exact ha
    · exact ha
  have reads {a : State} (ha : a.Fits) : (match a.rp.host with
      | some r =>
        if r.loc.dev = d ∧ r.phase ≠ ReadPhase.transfer then a.closeHostRead.complete (some .deviceUnavailable) 0 else a
      | none => a).Fits := by
    (repeat' split)
    · exact ha.closeHostRead.complete
    · exact ha
    · exact ha
  exact reads (fetches (h.setRp (List.length_filter_le _ _)).dropRefill)

theorem State.Fits.considerRefill (h : s.Fits) {loc : Loc} : (s.considerRefill loc).Fits := by
  unfold State.considerRefill
  dsimp only
  split
  · exact h.dropRefill.setRp.join
  · exact h

theorem State.Fits.requestFetch (h : s.Fits) {loc : Loc} {positions : List Nat} : (s.requestFetch loc positions).Fits :=
  h.dropRefill.closeFetch.setRp.join.holdAccess

theorem State.Fits.readArrives (h : s.Fits) {loc : Loc} {positions : List Nat} : (s.readArrives loc positions).Fits := by
  unfold State.readArrives
  (repeat' split)
  · exact h.complete
  · exact h.complete
  · exact h.complete.considerRefill
  · exact h.requestFetch

theorem State.Fits.deliverRead (h : s.Fits) {bytes : List Byte} : (s.deliverRead bytes).Fits := by
  unfold State.deliverRead
  (repeat' split)
  · exact h.setRp.complete
  · exact h
  · exact h

/-- A fill replaces a record, or one of a full buffer goes (R39). -/
theorem fillLine_length {lines : List LineRecord} (h : lines.length ≤ Config.readAheadRecords) (r : LineRecord) :
    (fillLine lines r).length ≤ Config.readAheadRecords := by
  have others : (lines.filter (fun x => x.loc ≠ r.loc)).length ≤ Config.readAheadRecords :=
    (List.length_filter_le _ _).trans h
  unfold fillLine
  dsimp only
  split
  · next room =>
    rw [List.length_append]
    exact room
  · rw [List.length_append, List.length_tail, List.length_singleton]
    have : 0 < Config.readAheadRecords := by decide
    omega

theorem fillLines_length (d : Dev) (home : Nat) (bytes : List (List Byte)) :
    ∀ {lines : List LineRecord} (line : Nat), lines.length ≤ Config.readAheadRecords →
      (fillLines lines d home line bytes).length ≤ Config.readAheadRecords := by
  induction bytes with
  | nil => exact fun _ h => h
  | cons b bs ih => exact fun line h => ih (line + 1) (fillLine_length h _)

end

end Sys2Proof.Machine
end

section
/-! The room of every list and count: the remap unit and the drain engines keep within it (R46, R84, R89). -/

namespace Sys2Proof.Machine

/- One theorem after another: waiting ones would each hold a thread. -/
set_option Elab.async false

section
variable {s t : State} {d : Dev} {c : Ctx}

/-! ### The remap unit (R84) -/

theorem State.Fits.remapChanged (h : s.Fits) : s.remapChanged.Fits := h.ruSame.muSame

theorem State.Fits.remapTo (h : s.Fits) {home spare : Nat} : (s.remapTo d home spare).Fits := h.ruSame.remapChanged

theorem State.Fits.retireCandidate (h : s.Fits) {spare : Nat} : (s.retireCandidate d spare).Fits :=
  h.ruSame.remapChanged

theorem State.Fits.markFailed (h : s.Fits) {home : Nat} {changed : Bool} : (s.markFailed d home changed).Fits := by
  unfold State.markFailed
  dsimp only
  split
  · exact h.ruSame
  · exact h.ruSame.remapChanged

theorem State.Fits.takeSpare (h : s.Fits) {p : Nat} (ht : s.takeSpare d = some (p, t)) : t.Fits := by
  unfold State.takeSpare at ht
  split at ht
  · exact nomatch ht
  · next p rest free =>
    have fewer (e : Dev) : ((s.ru.free.set d rest).get e).length ≤ Config.sparePages := by
      by_cases he : e = d
      · subst he
        have := h.spares e
        rw [free, List.length_cons] at this
        rw [PerDev.get_set_same]
        omega
      · rw [PerDev.get_set_other _ he]
        exact h.spares e
    have taken : (s.setRu { s.ru with free := s.ru.free.set d rest, hold := s.ru.hold.set d (some p) }).Fits :=
      h.setRu fewer
    obtain ⟨rfl, rfl⟩ := Prod.mk.inj (Option.some.inj ht)
    split
    · exact taken.postFault
    · exact taken

/-! ### A context in hand

The retirement flow takes a context that is not stopped and puts it in a phase of its own choice. -/

/-- The counts of a context fit, and there is no phase to go back to. -/
structure Ctx.Ready (c : Ctx) : Prop where
  suspends : c.suspendsUsed ≤ 7
  attempts : c.attempts ≤ Config.spareAttempts
  spent    : c.attempts = Config.spareAttempts → c.candidate = none
  before   : c.before = none

theorem Ctx.Fits.ready (h : c.Fits) (running : c.phase ≠ .stopped) : c.Ready :=
  ⟨h.suspends, h.attempts, fun n => (h.spent n).1, h.before running⟩

theorem Ctx.Fits.attempts_lt (h : c.Fits)
    (open' : c.candidate ≠ none ∨ c.phase = .retireRead ∨ c.phase = .retireProgram) : c.attempts < Config.spareAttempts := by
  refine Nat.lt_of_le_of_ne h.attempts (fun n => ?_)
  obtain ⟨none, read, program, -, -⟩ := h.spent n
  rcases open' with o | o | o
  · exact o none
  · exact read o
  · exact program o

/-- With a spare left to try, a context may stand in any phase. -/
theorem Ctx.Ready.fits_of_lt (h : c.Ready) (left : c.attempts < Config.spareAttempts) : c.Fits where
  suspends := h.suspends
  attempts := h.attempts
  spent n := absurd n (Nat.ne_of_lt left)
  before _ := h.before

/-- Stopped, a context keeps the phase it had. -/
theorem Ctx.Fits.stop (h : c.Fits) : Ctx.Fits { c with phase := .stopped, before := some c.phase } where
  suspends := h.suspends
  attempts := h.attempts
  spent n := by
    obtain ⟨none, read, program, -, -⟩ := h.spent n
    exact ⟨none, by simp, by simp, by simpa using read, by simpa using program⟩
  before n := absurd rfl n

/-! ### Ends of a context (R53, R96, R97) -/

theorem State.Fits.loseContext (h : s.Fits) {k : FaultKind} : (s.loseContext d c k).Fits :=
  h.declareLost.postFault.setCtx_none

theorem State.Fits.endByPersist (h : s.Fits) : (s.endByPersist d c).Fits := by
  unfold State.endByPersist
  split
  · exact h.loseContext
  · dsimp only
    split
    · exact h.freeWhere.count.setCtx_none
    · exact h.freeWhere.count.setCtx_none.postFault

theorem State.Fits.batchPasses (h : s.Fits) : (s.batchPasses d c).Fits :=
  h.invalidate.freeWhere.count.setCtx_none

theorem State.Fits.gather (h : s.Fits) (ht : s.gather d = some t) : t.Fits := by
  unfold State.gather at ht
  split at ht
  · exact nomatch ht
  · dsimp only at ht
    split at ht <;> cases ht
    · exact h.gatherPage.declareLost.postFault
    · refine (h.gatherPage.setCtx_some ?_).join
      exact ⟨Nat.zero_le _, Nat.zero_le _, nofun, fun _ => rfl⟩

/-! ### The retirement flow (R65, R89 to R97) -/

theorem State.Fits.memoryStep (h : s.Fits) (fits : c.Fits) {cmd : Cmd} : (s.memoryStep d c cmd).Fits := by
  unfold State.memoryStep
  split
  · exact h.setCtx_some fits.stop
  · exact (h.setCtx_some fits).join

theorem State.Fits.enterAwait (h : s.Fits) (ready : c.Ready) : (s.enterAwait d c).Fits := by
  have awaiting (a : Option Word32) (p b) (hp : p = CtxPhase.awaitPersist ∧ b = none ∨ p = .stopped ∧ b = some .awaitPersist) :
      Ctx.Fits { c with phase := p, awaited := a, candidate := none, image := none, before := b } := by
    refine ⟨ready.suspends, ready.attempts, fun _ => ?_, fun n => ?_⟩
    · rcases hp with ⟨rfl, rfl⟩ | ⟨rfl, rfl⟩ <;> simp
    · rcases hp with ⟨rfl, rfl⟩ | ⟨rfl, rfl⟩
      · rfl
      · exact absurd rfl n
  unfold State.enterAwait
  dsimp only
  (repeat' split)
  · exact h.loseContext
  · exact h.setCtx_some (awaiting _ _ _ (.inr ⟨rfl, rfl⟩))
  · exact h.setCtx_some (awaiting _ _ _ (.inl ⟨rfl, ready.before⟩))

theorem State.Fits.unremappable (h : s.Fits) (ready : c.Ready) {changed : Bool} : (s.unremappable d c changed).Fits := by
  unfold State.unremappable
  split
  · exact h.markFailed.invalidate.enterAwait ready
  · exact h.loseContext.setDev

theorem State.Fits.retireProgram (h : s.Fits) (ready : c.Ready) (left : c.attempts < Config.spareAttempts)
    {image : List Byte} : (s.retireProgram d c image).Fits := by
  have programming (p : Option Nat) (n : Nat) :
      Ctx.Fits { c with phase := .retireProgram, candidate := p, programTime := n } :=
    Ctx.Ready.fits_of_lt ⟨ready.suspends, ready.attempts, fun n => absurd n (Nat.ne_of_lt left), ready.before⟩ left
  unfold State.retireProgram
  split
  · exact h.memoryStep (programming _ _)
  · split
    · exact (h.takeSpare ‹_›).memoryStep (programming _ _)
    · exact h.unremappable ready

theorem State.Fits.retireRead (h : s.Fits) (ready : c.Ready) {changed : Bool} : (s.retireRead d c changed).Fits := by
  unfold State.retireRead
  split
  · exact h.unremappable ready
  · next more =>
    have left : c.attempts < Config.spareAttempts := by
      simp only [not_or, not_le] at more
      exact more.2
    split
    · exact h.memoryStep (by
        exact Ctx.Ready.fits_of_lt ⟨ready.suspends, ready.attempts, ready.spent, ready.before⟩ left)
    · exact h.retireProgram ready left

/-- No attempt has been made of the page. -/
theorem State.Fits.batchFails (h : s.Fits) (ready : c.Ready) : (s.batchFails d c).Fits :=
  h.retireRead (by exact ⟨ready.suspends, Nat.zero_le _, nofun, ready.before⟩)

/-- A candidate that failed was one of at most 3. -/
theorem State.Fits.spareFails (h : s.Fits) (ready : c.Ready) (left : c.attempts < Config.spareAttempts) {p : Nat} :
    (s.spareFails d c p).Fits :=
  h.invalidate.retireCandidate.retireRead
    (by exact ⟨ready.suspends, left, fun _ => rfl, ready.before⟩)

theorem State.Fits.sparePasses (h : s.Fits) (ready : c.Ready) {p : Nat} : (s.sparePasses d c p).Fits := by
  unfold State.sparePasses
  dsimp only
  split
  · exact h.invalidate.remapTo.count.postFault.enterAwait ready
  · exact h.invalidate.remapTo.count.enterAwait ready

/-! ### Programs running for the engine (R51 to R61) -/

theorem State.Fits.giveUpSuspend (h : s.Fits) : (s.giveUpSuspend d c).Fits := by
  unfold State.giveUpSuspend
  split
  · exact h.withdraw.answerReads
  · exact h

theorem State.Fits.programStarts (h : s.Fits) : (s.programStarts d).Fits := by
  unfold State.programStarts
  split
  · exact h
  · next c hc =>
    have fits := h.ctx d c hc
    dsimp only
    split
    · exact h.setCtx_some ⟨Nat.zero_le _, fits.attempts, fits.spent, fits.before⟩
    · exact h.setCtx_some ⟨fits.suspends, fits.attempts, fits.spent, fits.before⟩

theorem State.Fits.programCompletes (h : s.Fits) {pass : Bool} : (s.programCompletes d pass).Fits := by
  unfold State.programCompletes
  split
  · exact h
  · next c hc =>
    have fits := h.ctx d c hc
    have batch (running : c.phase ≠ .stopped) : (let s := s.giveUpSuspend d c
        if pass then s.batchPasses d c else (s.invalidate d c.home).batchFails d c).Fits := by
      dsimp only
      split
      · exact h.giveUpSuspend.batchPasses
      · exact h.giveUpSuspend.invalidate.batchFails (fits.ready running)
    split
    · next hp => exact batch (by simp [hp])
    · next hp => exact batch (by simp [hp])
    · next hp =>
      have ready := fits.ready (by simp [hp])
      split
      · split
        · exact h.sparePasses ready
        · exact h.spareFails ready (fits.attempts_lt (.inr (.inr hp)))
      · exact h
    · exact h

theorem State.Fits.deviceSuspends (h : s.Fits) : (s.deviceSuspends d).Fits := by
  unfold State.deviceSuspends
  split
  · exact h
  · next c hc =>
    have fits := h.ctx d c hc
    dsimp only
    split
    · next hp _ =>
      have running : c.phase ≠ .stopped := by simp [hp]
      (repeat' split)
      · exact (h.withdraw.setCtx_some (fits.of_running running (.inl (by rfl)))).answerReads
      · exact (h.withdraw.setCtx_some (fits.of_running running (.inl (by rfl)))).join
      · exact h.join
    · next hp =>
      split
      · exact (h.setCtx_some (fits.of_running (by simp [hp]) (.inr (by simp)))).join
      · exact h.join
    · exact h.join
    · exact h

theorem State.Fits.suspendSent (h : s.Fits) : (s.suspendSent d).Fits := by
  unfold State.suspendSent
  split
  · exact h
  · next c hc =>
    have fits := h.ctx d c hc
    split
    · exact h.setCtx_some ⟨fits.suspends, fits.attempts, fits.spent, fits.before⟩
    · exact h.setCtx_some ⟨fits.suspends, fits.attempts, fits.spent, fits.before⟩

theorem State.Fits.engineResumed (h : s.Fits) : (s.engineResumed d).Fits := by
  unfold State.engineResumed
  split
  · exact h
  · next c hc =>
    split
    · next hp => exact h.setCtx_some ((h.ctx d c hc).of_running (by simp [hp.1]) (.inr (by simp)))
    · exact h

theorem State.Fits.readUnderSuspendEnds (h : s.Fits) : (s.readUnderSuspendEnds d).Fits := by
  unfold State.readUnderSuspendEnds
  split
  · exact h
  · next c hc =>
    split
    · next hp => exact (h.setCtx_some ((h.ctx d c hc).of_running (by simp [hp.1]) (.inl (by rfl)))).join
    · exact h

theorem State.Fits.engineResetDone (h : s.Fits) : (s.engineResetDone d).Fits := by
  unfold State.engineResetDone
  split
  · exact h
  · next c hc =>
    have fits := h.ctx d c hc
    split
    · next hp =>
      have ready := fits.ready (by simp [hp])
      split
      · next hs => exact h.spareFails ready (fits.attempts_lt (.inl (by simp [hs])))
      · exact h.batchFails ready
    · exact h

theorem State.Fits.ackExpires (h : s.Fits) : (s.ackExpires d).Fits := by
  unfold State.ackExpires
  split
  · exact h
  · next c hc =>
    split
    · next hp => exact (h.setCtx_some ((h.ctx d c hc).of_running (by simp [hp.1]) (.inr (by simp)))).answerReads
    · exact h

theorem State.programTimed_running (hc : s.ctx d = some c) (ht : s.programTimed d = true) : c.phase ≠ .stopped := by
  intro hp
  simp [State.programTimed, hc, hp] at ht

theorem State.Fits.programExpires (h : s.Fits) : (s.programExpires d).Fits := by
  unfold State.programExpires
  split
  · exact h
  · next c hc =>
    split
    · next ht =>
      exact (h.giveUpSuspend.invalidate.postFault.setCtx_some
        ((h.ctx d c hc).of_running (State.programTimed_running hc ht) (.inr (by simp)))).join
    · exact h

/-! ### Stopping and resumption (R65 to R67) -/

@[simp] theorem State.setStopping_ctx (s : State) (d : Dev) (b : Bool) :
    (s.setDe (s.de.set d { s.de.get d with stopping := b })).ctx d = s.ctx d := by
  simp [State.ctx]

theorem State.Fits.stopEngine (h : s.Fits) : (s.stopEngine d).Fits := by
  have told := h.setStopping (d := d) (b := true)
  unfold State.stopEngine
  dsimp only
  split
  · exact told
  · next c hc =>
    have here := told.setCtx_some (d := d) (told.ctx d c hc).stop
    (repeat' split)
    · exact here.withdraw
    · exact told
    · exact here.withdraw
    · exact told
    · exact here.withdraw
    · exact told
    · exact here
    · exact told

theorem State.Fits.awaitAgain (h : s.Fits) (fits : c.Fits) : (s.awaitAgain d c).Fits := by
  unfold State.awaitAgain
  split
  · exact h.loseContext
  · exact h.setCtx_some fits

/-- A context that takes up the phase it had before the stop. -/
theorem Ctx.Fits.resume (h : c.Fits) : Ctx.Fits { c with phase := c.before.getD .stopped, before := none } where
  suspends := h.suspends
  attempts := h.attempts
  spent n := by
    obtain ⟨none, -, -, read, program⟩ := h.spent n
    refine ⟨none, ?_, ?_, by simp, by simp⟩
    · cases hb : c.before <;> simp_all
    · cases hb : c.before <;> simp_all
  before _ := rfl

theorem State.Fits.resumeEngine (h : s.Fits) : (s.resumeEngine d).Fits := by
  have told := h.setStopping (d := d) (b := false)
  unfold State.resumeEngine
  dsimp only
  split
  · exact told
  · next c hc =>
    have fits := told.ctx d c hc
    have resumed := fits.resume
    have ready : Ctx.Ready { c with phase := c.before.getD .stopped, before := none } :=
      ⟨resumed.suspends, resumed.attempts, fun n => (resumed.spent n).1, rfl⟩
    split
    · split
      · exact told.memoryStep (by
          exact ⟨Nat.zero_le _, fits.attempts, fun n => ⟨(fits.spent n).1, by simp [*]⟩, fun _ => rfl⟩)
      · exact told.retireRead ready
      · next hb =>
        split
        · refine told.retireProgram ready (Nat.lt_of_le_of_ne fits.attempts fun n => ?_)
          exact (fits.spent n).2.2.2.2 hb
        · exact told.retireRead ready
      · exact told.awaitAgain resumed
      · exact told.setCtx_some resumed
    · exact told

theorem State.Fits.retireReadReturned (h : s.Fits) {bytes : List Byte} : (s.retireReadReturned d bytes).Fits := by
  unfold State.retireReadReturned
  split
  · exact h
  · next c hc =>
    have fits := h.ctx d c hc
    split
    · next hp =>
      have ready := fits.ready (by simp [hp])
      exact h.retireProgram (by exact ⟨ready.suspends, ready.attempts, ready.spent, ready.before⟩)
        (by exact fits.attempts_lt (.inr (.inl hp)))
    · exact h

theorem State.Fits.retireOnRequest (h : s.Fits) {page : Nat} : (s.retireOnRequest d page).Fits :=
  h.setMgp.gatherPage.retireRead (by exact ⟨Nat.zero_le _, Nat.zero_le _, nofun, rfl⟩)

theorem State.Fits.endContext (h : s.Fits) (ht : s.endContext d = some t) : t.Fits := by
  unfold State.endContext at ht
  (repeat' split at ht) <;> cases ht
  exact h.endByPersist

theorem State.Fits.endByFault (h : s.Fits) (ht : s.endByFault d = some t) : t.Fits := by
  unfold State.endByFault at ht
  (repeat' split at ht) <;> cases ht
  exact h.loseContext

end

end Sys2Proof.Machine
end

section
/-! The room of every list and count: the state controller, the metadata unit and the memory port keep within it, and so does
every step. -/

namespace Sys2Proof.Machine

/- One theorem after another: waiting ones would each hold a thread. -/
set_option Elab.async false

section
variable {s t : State} {d : Dev}

/-! ### The operating states (R155 to R173) -/

/-- An operation that no dump record is read in promises no number of records. -/
theorem State.Fits.setOp (h : s.Fits) {op : Option MuOp} (fits : ∀ o, op = some o → o.fits) : (s.setOp op).Fits :=
  h.setMu fits

theorem State.Fits.setOp_none (h : s.Fits) : (s.setOp none).Fits := h.setOp (by simp)

theorem State.Fits.setOp_some (h : s.Fits) {o : MuOp} (fits : o.fits) : (s.setOp (some o)).Fits :=
  h.setOp (by rintro _ ⟨⟩; exact fits)

theorem State.Fits.muRequest (h : s.Fits) {cmd : Cmd} : (s.muRequest cmd).Fits := h.join
theorem State.Fits.askWrite (h : s.Fits) {w : ScWrite} : (s.askWrite w).Fits := h.muSame
theorem State.Fits.setHeader (h : s.Fits) {v : HeaderView} : (s.setHeader v).Fits := h.setSc
theorem State.Fits.setPfail (h : s.Fits) {b : Bool} : (s.setPfail b).Fits := h.setSc
theorem State.Fits.halt (h : s.Fits) : s.halt.Fits := h.setSc

theorem State.Fits.setSlot (h : s.Fits) {k : Kind} {x : SlotStatus} : (s.setMu (s.mu.setSlot k x)).Fits := by
  cases k
  · exact h.muSame
  · exact h.muSame

theorem State.Fits.breakOff (h : s.Fits) {p : Persist} {touched : Bool} : (s.breakOff p touched).Fits :=
  h.setMu (by simp)

theorem State.Fits.stopPersist (h : s.Fits) : s.stopPersist.Fits := by
  unfold State.stopPersist
  (repeat' split)
  · exact h.withdraw.breakOff
  · exact h.setOp_some (by trivial)
  · exact h

theorem State.Fits.enterRun (h : s.Fits) : s.enterRun.Fits := h.setSc.resumeEngine.resumeEngine

theorem State.Fits.cleanFailed (h : s.Fits) : s.cleanFailed.Fits := h.setHeader.postFault.halt

theorem State.Fits.refuseHeld (h : s.Fits) : s.refuseHeld.Fits := by
  unfold State.refuseHeld
  split
  · exact h
  · exact h.dropPending.complete
  · exact h.fuSame.complete
  · exact h.complete

theorem State.Fits.leaveRun (h : s.Fits) : s.leaveRun.Fits := h.sealAll.refuseHeld.leaveRunReads

theorem State.Fits.enterHoldup (h : s.Fits) : s.enterHoldup.Fits := h.setSc.leaveRun.stopEngine.stopEngine.stopPersist

theorem State.Fits.enterRestarting (h : s.Fits) : s.enterRestarting.Fits := h.setSc.leaveRun

theorem State.Fits.stopBootReads (h : s.Fits) : s.stopBootReads.Fits := by
  unfold State.stopBootReads
  (repeat' split)
  · exact h.withdraw.setOp_none
  · exact h
  · exact h.withdraw.setOp_none
  · exact h
  · exact h.withdraw.setOp_none
  · exact h
  · exact h

theorem State.Fits.enterStopped (h : s.Fits) : s.enterStopped.Fits :=
  h.setSc.stopEngine.stopEngine.stopPersist.stopBootReads.withdraw.mpSame.muSame

theorem State.Fits.beginReturn (h : s.Fits) : s.beginReturn.Fits := by
  unfold State.beginReturn
  split
  · exact h.enterRun
  · exact h.setSc.askWrite

theorem State.Fits.enterDumped (h : s.Fits) : s.enterDumped.Fits := by
  unfold State.enterDumped
  dsimp only
  split
  · exact h.setSc
  · exact h.setSc.beginReturn

theorem State.Fits.holdupEnds (h : s.Fits) : s.holdupEnds.Fits := by
  unfold State.holdupEnds
  dsimp only
  (repeat' split)
  · exact h.enterDumped
  · exact h.setSc.askWrite
  · exact h.declareLost.setCtx_none.setCtx_none.postFault.enterDumped

theorem State.Fits.dumpNext (h : s.Fits) {p : DumpPlan} {w : ScWrite} : (s.dumpNext p w).Fits := h.setSc.askWrite

theorem State.Fits.writeDone (h : s.Fits) {w : ScWrite} : (s.writeDone w).Fits := by
  unfold State.writeDone
  split
  · exact h.setHeader.enterRun
  · exact h.setHeader.setMgp.enterRun
  · split
    · split
      · exact h.setHeader.dumpNext
      · exact h.dumpNext
    · exact h.setHeader.enterDumped
  · dsimp only
    split
    · exact h.setHeader.setSc.enterHoldup
    · exact h.setHeader.setSc.enterRun
  · exact h

theorem State.Fits.writeFailed (h : s.Fits) {w : ScWrite} : (s.writeFailed w).Fits := by
  unfold State.writeFailed
  split
  · exact h.cleanFailed
  · exact h.cleanFailed
  · dsimp only
    split
    · exact h.setHeader.postFault.enterDumped
    · exact h.postFault.enterDumped
  · exact h.cleanFailed
  · exact h

theorem State.Fits.bootCleanWrite (h : s.Fits) : s.bootCleanWrite.Fits := h.setSc.askWrite

/-- At most 32 records are loaded (R152). -/
theorem State.Fits.enterReplay (h : s.Fits) {rs : List DumpRecord} (few : rs.length ≤ Config.bufferEntries) :
    (s.enterReplay rs).Fits :=
  h.setSc.setPwb (by simpa using few)

/-- A report of good records is one of at most 32. -/
def HeaderReport.fits : HeaderReport → Prop
  | .validGood rs => rs.length ≤ Config.bufferEntries
  | _ => True

theorem State.Fits.headerReported (h : s.Fits) {r : HeaderReport} (fits : r.fits) : (s.headerReported r).Fits := by
  cases r with
  | clean => exact h.setHeader.enterRun
  | unrecognised => exact h.setHeader.bootCleanWrite
  | openDump => exact h.setHeader.postFault.bootCleanWrite
  | validBad => exact h.setHeader.postFault.bootCleanWrite
  | validGood rs => exact h.setHeader.enterReplay fits

theorem State.Fits.probeReported (h : s.Fits) : s.probeReported.Fits := by
  unfold State.probeReported
  dsimp only
  split
  · exact (h.mpSame.setSc.setOp_some (by trivial)).muRequest
  · exact h.mpSame.setSc.halt

/-- After cold reset nothing is held anywhere. -/
theorem State.fits_of_reset {s : State} (pwb : s.pwb = WriteBuffer.reset) (queue : s.fu.queue = []) (owed : s.fu.owed = 0)
    (faults : s.mgp.faults = []) (rp : s.rp = ReadPath.reset) (mp : s.mp = MemoryPort.reset) (ru : s.ru = RemapUnit.reset)
    (wd : s.wd = WindowDecoder.reset) (de : s.de = ⟨Engine.reset, Engine.reset⟩) (mu : s.mu = MetadataUnit.reset) :
    s.Fits where
  entries := by simp [pwb, WriteBuffer.reset]
  markers := by simp [queue]
  weights := by simp [queue]
  owed := by simp [owed]
  faults := by simp [faults]
  lines := by simp [rp, ReadPath.reset]
  starve := by simp [mp, MemoryPort.reset]
  spares d := by cases d <;> simp [ru, RemapUnit.reset, PerDev.get]
  limit := by simp [State.suspendLimit, wd, WindowDecoder.reset, Table.zero]
  image := by simp [wd, WindowDecoder.reset]
  ctx d := by cases d <;> simp [State.ctx, de, Engine.reset, PerDev.get]
  replay := by simp [mu, MetadataUnit.reset]

theorem State.coldReset_fits (s : State) : s.coldReset.Fits := State.fits_of_reset rfl rfl rfl rfl rfl rfl rfl rfl rfl rfl

theorem State.internalReset_fits (s : State) : s.internalReset.Fits :=
  State.fits_of_reset rfl rfl rfl rfl rfl rfl rfl rfl rfl rfl

theorem State.Fits.bootStarts (h : s.Fits) (ht : s.bootStarts = some t) : t.Fits := by
  unfold State.bootStarts at ht
  split at ht
  · cases ht
    split
    · exact h.setSc.enterStopped
    · exact h.setSc.setSc.mpSame.join
  · exact nomatch ht

/-! ### Metadata faults (R148) -/

theorem State.Fits.endPersistOf (h : s.Fits) {k : Kind} : (s.endPersistOf k).Fits := by
  unfold State.endPersistOf
  (repeat' split)
  · exact h.withdraw.setOp_none
  · exact h
  · exact h

theorem State.Fits.tellDecoder (h : s.Fits) {k : Kind} : (s.tellDecoder k).Fits := by
  unfold State.tellDecoder
  split
  · exact h.setWd h.limit h.image
  · exact h

theorem State.Fits.giveUpRestart (h : s.Fits) : s.giveUpRestart.Fits := by
  unfold State.giveUpRestart
  split
  · exact h.enterRun
  · exact h

theorem State.Fits.raiseFault (h : s.Fits) {k : Kind} : (s.raiseFault k).Fits :=
  s.raiseFault_eq k ▸ h.setSlot.endPersistOf.tellDecoder.giveUpRestart

/-! ### The metadata unit (R145 to R153) -/

theorem State.Fits.requestPart (h : s.Fits) {p : Persist} : (s.requestPart p).Fits := (h.setOp_some (by trivial)).muRequest

theorem State.Fits.startPersist (h : s.Fits) (ht : s.startPersist = some t) : t.Fits := by
  unfold State.startPersist at ht
  split at ht <;> cases ht
  exact h.setSlot.requestPart

theorem State.Fits.persistDone (h : s.Fits) {p : Persist} : (s.persistDone p).Fits := by
  unfold State.persistDone
  dsimp only
  split
  · exact State.Fits.ruSame (h.setMu (by simp))
  · refine State.Fits.setMgp ?_
    exact State.Fits.setWd (h.setMu (by simp)) h.limit h.image

theorem State.Fits.attemptFails (h : s.Fits) {p : Persist} : (s.attemptFails p).Fits := by
  unfold State.attemptFails
  dsimp only
  (repeat' split)
  · exact h.requestPart
  · exact h.setSlot.postFault.setOp_none.raiseFault
  · exact h.setSlot.postFault.requestPart

theorem State.Fits.takeWrite (h : s.Fits) (ht : s.takeWrite = some t) : t.Fits := by
  unfold State.takeWrite at ht
  split at ht
  · cases ht
    split
    · exact (h.muSame.setOp_some (by trivial)).muRequest
    · exact h.muSame.writeFailed
  · exact nomatch ht

theorem State.Fits.writeFails (h : s.Fits) {w : ScWrite} {a : Nat} : (s.writeFails w a).Fits := by
  unfold State.writeFails
  split
  · exact (h.setOp_some (by trivial)).muRequest
  · exact h.setOp_none.writeFailed

theorem State.Fits.muProgramEnds (h : s.Fits) {pass : Bool} : (s.muProgramEnds pass).Fits := by
  unfold State.muProgramEnds
  dsimp only
  (repeat' split)
  · exact h.persistDone
  · exact h.breakOff
  · exact h.requestPart
  · exact h.attemptFails
  · exact h.setOp_none.writeDone
  · exact h.writeFails
  · exact h

theorem State.Fits.muOffline (h : s.Fits) : s.muOffline.Fits := by
  have faulted := (h.raiseFault (k := .config)).raiseFault (k := .remap)
  unfold State.muOffline
  dsimp only
  (repeat' split)
  · exact faulted.setOp_none.writeFailed
  · exact faulted.setOp_none
  · exact faulted

/-! ### The load (R103, R143, R144) -/

theorem Table.inRange_suspendLimit {x : Table} (h : x.inRange = true) : x.params.suspendLimit.toNat ≤ 7 := by
  simp only [Table.inRange, Params.inRange, Bool.and_eq_true, decide_eq_true_eq] at h
  exact h.1.2

theorem Table.valid_inRange {x : Table} (h : x.valid = true) : x.inRange = true := by
  simp only [Table.valid, Bool.and_eq_true] at h
  exact h.1.1.1

theorem configOfSlot_valid {bytes : List Byte} {x : Table} (h : configOfSlot bytes = some x) : x.valid = true := by
  unfold configOfSlot at h
  split at h
  · split at h
    · cases h
      assumption
    · exact nomatch h
  · exact nomatch h

/-- The record chosen is that of one of the slots. -/
theorem chooseSlot_mem {α : Type} {a b : Option α} {genA genB gen : Word32} {slot : Slot} {x : α}
    (h : chooseSlot a b genA genB = some (slot, gen, x)) : a = some x ∨ b = some x := by
  unfold chooseSlot at h
  split at h
  · split at h <;> cases h
    · exact .inr rfl
    · exact .inl rfl
  · cases h
    exact .inl rfl
  · cases h
    exact .inr rfl
  · exact nomatch h

theorem State.Fits.loadConfig (h : s.Fits) {a b : List Byte} : (s.loadConfig a b).Fits := by
  unfold State.loadConfig
  split
  · next hc =>
    have valid := (chooseSlot_mem hc).elim configOfSlot_valid configOfSlot_valid
    exact State.Fits.muSame (h.setWd (by exact Table.inRange_suspendLimit (Table.valid_inRange valid)) (by exact h.image))
  · exact State.Fits.postFault (State.Fits.muSame (h.setWd (by simp [Table.default]) (by exact h.image)))

theorem buildFree_length (table : List RemapEntry) (d : Dev) : (buildFree table d).length ≤ Config.sparePages :=
  (List.length_filter_le _ _).trans_eq (List.length_range' ..)

theorem State.Fits.loadRemap (h : s.Fits) {a b : List Byte} : (s.loadRemap a b).Fits := by
  have built (table : List RemapEntry) (d : Dev) :
      ((⟨buildFree table .d0, buildFree table .d1⟩ : PerDev (List Nat)).get d).length ≤ Config.sparePages := by
    cases d
    · exact buildFree_length table .d0
    · exact buildFree_length table .d1
  unfold State.loadRemap
  split
  · exact (h.setRu (built _)).muSame
  · exact (h.setRu (built _)).muSame.postFault

theorem State.Fits.sparesLowAtLoad (h : s.Fits) : (s.sparesLowAtLoad d).Fits := by
  unfold State.sparesLowAtLoad
  split
  · exact h.postFault
  · exact h

theorem State.Fits.loadDone (h : s.Fits) {pages : List (List Byte)} : (s.loadDone pages).Fits :=
  (h.loadConfig.loadRemap.sparesLowAtLoad.sparesLowAtLoad.setMgp.setSc.setOp_some (by trivial)).muRequest

/-! ### The dump records (R151, R152) -/

theorem State.Fits.readDumpPage (h : s.Fits) {n : Nat} (few : n ≤ Config.bufferEntries) {crc : Word32} {b : List Byte}
    {k : Nat} : (s.readDumpPage n crc b k).Fits :=
  (h.setOp_some (by exact few)).muRequest

theorem dumpRecordsOf_length {present : Dev → Bool} {bytes : List Byte} {n : Nat} :
    ∀ {ordinal : Nat} {rs : List DumpRecord}, dumpRecordsOf present bytes n ordinal = some rs → rs.length = n := by
  induction n with
  | zero =>
    rintro _ _ ⟨⟩
    rfl
  | succ n ih =>
    intro ordinal rs h
    unfold dumpRecordsOf at h
    split at h
    · next rest =>
      cases h
      simp [ih rest]
    · exact nomatch h

theorem State.recordsReport_fits {n : Nat} (few : n ≤ Config.bufferEntries) (crc : Word32) (bytes : List Byte) :
    (s.recordsReport n crc bytes).fits := by
  unfold State.recordsReport
  dsimp only
  split
  · split
    · next hr => exact (dumpRecordsOf_length hr).trans_le few
    · trivial
  · trivial

theorem State.Fits.headerRead (h : s.Fits) {bytes : List Byte} : (s.headerRead bytes).Fits := by
  have idle := h.setOp_none
  unfold State.headerRead
  dsimp only
  (repeat' split)
  · exact idle.headerReported trivial
  · exact idle.headerReported trivial
  · next hn => exact idle.readDumpPage hn.2
  · exact idle.headerReported trivial
  · exact idle.headerReported trivial

theorem State.Fits.recordsRead (h : s.Fits) {n : Nat} (few : n ≤ Config.bufferEntries) {crc : Word32} {acc : List Byte}
    {k : Nat} {bytes : List Byte} : (s.recordsRead n crc acc k bytes).Fits := by
  unfold State.recordsRead
  dsimp only
  split
  · exact h.readDumpPage few
  · exact h.setOp_none.headerReported (State.recordsReport_fits few _ _)

theorem State.Fits.muReadEnds (h : s.Fits) {bytes : List Byte} : (s.muReadEnds bytes).Fits := by
  unfold State.muReadEnds
  split
  · exact h.setOp_none
  · split
    · dsimp only
      split
      · exact (h.setOp_some (by trivial)).muRequest
      · exact h.loadDone
    · exact h.headerRead
    · next ho => exact h.recordsRead (h.replay _ ho)
    · exact h

/-! ### Grants (R138) -/

theorem State.Fits.startTransfer (h : s.Fits) {r : Request} {cmd : Cmd} {home : Nat} {under : Bool} :
    (s.startTransfer r cmd home under).Fits := by
  refine h.setMp ?_
  unfold State.starveAfter
  (repeat' split)
  · exact Nat.min_le_right _ _
  · exact Nat.zero_le _
  · exact Nat.zero_le _
  · exact h.starve

theorem State.Fits.grantTo (h : s.Fits) {r : Request} : (s.grantTo r).Fits := by
  unfold State.grantTo
  dsimp only
  (repeat' split)
  · exact h.closeHostRead.complete
  · exact h.startTransfer.setRp
  · exact h.closeFetch
  · exact h.startTransfer.setRp
  · exact h.dropRefill
  · exact h.startTransfer.setRp
  · exact h.startTransfer

/-! ### The probe, status results and ends of transfers (R120 to R131) -/

theorem State.Fits.probeNext (h : s.Fits) : s.probeNext.Fits := by
  unfold State.probeNext
  (repeat' split)
  · exact h.join
  · exact h.join
  · exact h.probeReported
  · exact h

theorem State.Fits.probeResetSettled (h : s.Fits) {ready : Bool} : (s.probeResetSettled d ready).Fits := by
  unfold State.probeResetSettled
  split
  · exact h
  · exact h.mpSame.probeNext

theorem State.Fits.identified (h : s.Fits) {answer : BusAnswer} : (s.identified d answer).Fits := by
  unfold State.identified
  dsimp only
  (repeat' split)
  · exact h
  · exact h.setDev.join
  · exact h.join
  · exact h.setDev.probeReported
  · exact h.probeReported

theorem State.Fits.nvmStart (h : s.Fits) {page : Nat} {b : List (Option Byte)} : (s.nvmStart d page b).Fits := { h with }
theorem State.Fits.nvmPass (h : s.Fits) : (s.nvmPass d).Fits := by
  unfold State.nvmPass
  dsimp only
  split
  · exact h
  · exact h.setNvm

theorem State.Fits.nvmSpoil (h : s.Fits) : (s.nvmSpoil d).Fits := by
  unfold State.nvmSpoil
  dsimp only
  split
  · exact h
  · exact h.setNvm.setIndet

theorem State.Fits.turnBusy (h : s.Fits) {r : DevRecord} : (s.turnBusy d r).Fits := h.setDev.dropRefill

theorem State.Fits.programTaken (h : s.Fits) {q : Requester} {page : Nat} {b : List (Option Byte)} :
    (s.programTaken q d page b).Fits := by
  unfold State.programTaken
  dsimp only
  split
  · exact h.nvmStart.turnBusy.forgetAsked.programStarts
  · exact h.nvmStart.turnBusy.forgetAsked

theorem State.Fits.resetTaken (h : s.Fits) {q : Requester} : (s.resetTaken q d).Fits := by
  unfold State.resetTaken
  dsimp only
  split
  · exact h.nvmSpoil.turnBusy.join
  · exact h.nvmSpoil.turnBusy

theorem State.Fits.resumeTaken (h : s.Fits) : (s.resumeTaken d).Fits := by
  unfold State.resumeTaken
  split
  · exact h.setDev.engineResumed
  · exact h

theorem State.Fits.resetCompletes (h : s.Fits) : (s.resetCompletes d).Fits := by
  unfold State.resetCompletes
  dsimp only
  split
  · exact h.setDev.engineResetDone
  · exact h.setDev.muProgramEnds
  · exact h.setDev.probeResetSettled
  · exact h.setDev

theorem State.Fits.programReady (h : s.Fits) {pass : Bool} : (s.programReady d pass).Fits := by
  have ended : ((if pass then s.nvmPass d else s.nvmSpoil d).setDev d (s.dev d).toIdle).Fits := by
    split
    · exact h.nvmPass.setDev
    · exact h.nvmSpoil.setDev
  have told {a : State} (ha : a.Fits) (ordered : Bool) (owner : Option Owner) : (if ordered then a
      else match owner with
        | some .engine => a.programCompletes d pass
        | some .mu => a.muProgramEnds pass
        | _ => a).Fits := by
    (repeat' split)
    · exact ha
    · exact ha.programCompletes
    · exact ha.muProgramEnds
    · exact ha
  exact told ended _ _

theorem State.Fits.suspendedReported (h : s.Fits) : (s.suspendedReported d).Fits := by
  unfold State.suspendedReported
  dsimp only
  (repeat' split)
  · exact h.turnBusy
  · exact h.turnBusy.deviceSuspends
  · exact h.turnBusy.join
  · exact h.turnBusy

theorem State.Fits.statusReturned (h : s.Fits) {r : StatusResult} : (s.statusReturned d r).Fits := by
  unfold State.statusReturned
  split
  · exact h.programReady
  · exact h.programReady
  · exact h.suspendedReported
  · exact h.setDev
  · exact h.resetCompletes
  · exact h.resetCompletes
  · exact h.setDev
  · exact h

theorem State.Fits.readReturned (h : s.Fits) {x : Transfer} {page line n : Nat} :
    (s.readReturned x page line n).Fits := by
  have delivered (b : List Byte) : (if x.req.requester = .hostRead then s.deliverRead b else s).Fits := by
    split
    · exact h.deliverRead
    · exact h
  have suspends {a : State} (ha : a.Fits) : (if x.underSuspend then a.readUnderSuspendEnds x.req.dev else a).Fits := by
    split
    · exact ha.readUnderSuspendEnds
    · exact ha
  have filled {a : State} (ha : a.Fits) (bytes : List (List Byte)) :
      (a.setRp { a.rp with lines := fillLines a.rp.lines x.req.dev x.home line bytes }).Fits :=
    { ha with lines := fillLines_length _ _ _ line ha.lines }
  exact suspends (filled (delivered _) _)

theorem State.Fits.transferEnds (h : s.Fits) {answer : BusAnswer} : (s.transferEnds answer).Fits := by
  unfold State.transferEnds
  split
  · exact h
  · next x _ =>
    have free : (s.setMp { s.mp with bus := none }).Fits := h.mpSame
    dsimp only
    (repeat' split)
    · exact free.retireReadReturned
    · exact free.muReadEnds
    · exact free.readReturned
    · exact free.programTaken
    · exact free.programTaken
    · exact free.statusReturned
    · exact free.suspendSent
    · exact free.resumeTaken
    · exact free.resetTaken
    · exact free.identified

/-! ### The loss of a device (R133), and time measures -/

theorem State.Fits.markOffline (h : s.Fits) : (s.markOffline d).Fits := by
  have waits {a : State} (ha : a.Fits) : (match a.pwb.waiting with
      | some w => if w.loc.dev = d then a.dropPending.complete (some .deviceUnavailable) 0 else a
      | none => a).Fits := by
    (repeat' split)
    · exact ha.dropPending.complete
    · exact ha
    · exact ha
  have unit {a : State} (ha : a.Fits) : (if d = .d0 then a.muOffline else a).Fits := by
    split
    · exact ha.muOffline
    · exact ha
  exact unit (waits h.setDev.readsOffline.withdraw.setCtx_none.declareLost).postFault

theorem State.Fits.resetExpires (h : s.Fits) : (s.resetExpires d).Fits := by
  unfold State.resetExpires
  (repeat' split)
  · exact h.setDev.probeResetSettled
  · exact h.markOffline
  · exact h

theorem State.Fits.pollDue (h : s.Fits) : (s.pollDue d).Fits := by
  unfold State.pollDue
  split
  · exact h.setDev.join
  · exact h

theorem State.Fits.muProgramExpires (h : s.Fits) : s.muProgramExpires.Fits := by
  unfold State.muProgramExpires
  split
  · exact h.postFault.setDev.join
  · exact h

theorem Ctx.Fits.tick {c : Ctx} (h : c.Fits) (measured : Bool) : (c.tick measured).Fits :=
  ⟨h.suspends, h.attempts, h.spent, h.before⟩

theorem State.Fits.tick (h : s.Fits) : s.tick.Fits := by
  have engines : ∀ d c, ((⟨{ s.de.get .d0 with ctx := (s.ctx .d0).map (fun c => c.tick (s.programTimed .d0)) },
      { s.de.get .d1 with ctx := (s.ctx .d1).map (fun c => c.tick (s.programTimed .d1)) }⟩ : PerDev Engine).get d).ctx
        = some c → c.Fits := by
    intro d c hc
    cases d
    · obtain ⟨x, hx, rfl⟩ := Option.map_eq_some_iff.1 hc
      exact (h.ctx .d0 x hx).tick _
    · obtain ⟨x, hx, rfl⟩ := Option.map_eq_some_iff.1 hc
      exact (h.ctx .d1 x hx).tick _
  exact ((h.setPwb (by simpa using h.entries)).setHp.setDe engines).mpSame.fuSame

/-! ### The host's side and PFAIL -/

theorem State.Fits.decodeAccess (h : s.Fits) {addr : BitVec 23} {even odd : Bool} {dir : Dir} {hd : Half} :
    (s.decodeAccess addr even odd dir hd).Fits := by
  unfold State.decodeAccess
  split
  · exact h.complete
  · dsimp only
    split
    · exact h.setHp.complete
    · cases dir
      case read => exact State.Fits.readArrives h.setHp
      case write => exact State.Fits.placeWrite h.setHp

theorem State.Fits.accessArrives (h : s.Fits) {ha : BitVec 22} {hbl hbh hrd hwr : Bool} {hd : Half} :
    (s.accessArrives ha hbl hbh hrd hwr hd).Fits := by
  unfold State.accessArrives
  dsimp only
  (repeat' split)
  · exact h
  · exact h.setHp.complete
  · exact h.setHp.complete
  · exact h.setHp.decodeAccess

theorem State.Fits.strobeReleased (h : s.Fits) : s.strobeReleased.Fits := by
  unfold State.strobeReleased
  split
  · exact h
  · split
    · exact h.setHp
    · unfold State.abandon
      dsimp only
      split
      · exact h.setHp.dropPending
      · exact h.setHp.fuSame
      · exact h.setHp.abandonRead
      · exact h.setHp

theorem State.Fits.timeoutAccess (h : s.Fits) {a : Access} : (s.timeoutAccess a).Fits := h.setHp.complete.count

theorem State.Fits.stallExpires (h : s.Fits) : s.stallExpires.Fits := by
  unfold State.stallExpires
  dsimp only
  (repeat' split)
  · exact h
  · exact h
  · exact h.timeoutAccess.dropPending.postFault
  · exact h.timeoutAccess.fuSame
  · exact h.timeoutAccess.closeHostRead

theorem State.Fits.pfailRises (h : s.Fits) : s.pfailRises.Fits := by
  unfold State.pfailRises
  dsimp only
  split
  · exact h.setPfail.enterStopped
  · exact h.setPfail.enterStopped
  · exact h.setPfail.enterHoldup
  · exact h.setPfail.enterHoldup
  all_goals exact h.setPfail

theorem State.Fits.pfailFalls (h : s.Fits) : s.pfailFalls.Fits := by
  unfold State.pfailFalls
  dsimp only
  split
  · split
    · exact h.setPfail
    · exact h.setPfail.beginReturn
  all_goals exact h.setPfail

theorem State.Fits.pulseEnds (h : s.Fits) : (s.setFu s.fu.pulseEnds).Fits := by
  unfold FenceUnit.pulseEnds
  split
  · exact h.setFu h.markers h.weights ((Nat.sub_le _ _).trans h.owed)
  · exact h.fuSame

theorem State.Fits.lowTimeEnds (h : s.Fits) : (s.setFu s.fu.lowTimeEnds).Fits := by
  unfold FenceUnit.lowTimeEnds
  (repeat' split) <;> exact h.fuSame

/-! ### The image of a commit (R115 to R117) -/

theorem State.commitRefusal_inRange (h : s.commitRefusal = none) : s.mgp.staged.inRange = true := by
  unfold State.commitRefusal at h
  dsimp only at h
  split at h
  · exact nomatch h
  · split at h
    · exact nomatch h
    · simp_all

theorem State.Fits.commitTaken (h : s.Fits) (taken : s.commitRefusal = none) :
    ((s.setWd { s.wd with image := some s.mgp.staged }).setMgp { s.mgp with result := .accepted, inHand := true }).Fits :=
  State.Fits.setMgp <| h.setWd (by exact h.limit)
    (by rintro _ ⟨⟩; exact Table.inRange_suspendLimit (State.commitRefusal_inRange taken))

theorem State.Fits.swap (h : s.Fits) (ht : s.swap = some t) : t.Fits := by
  unfold State.swap at ht
  split at ht
  · exact nomatch ht
  · next x hx =>
    split at ht <;> cases ht
    exact State.Fits.setMgp (State.Fits.muSame (h.setWd (h.image x hx) (by simp)))

end

/-! ### Every effect -/

theorem fits_of_due {s t : State} (hd : Due s t) (h : s.Fits) : t.Fits := by
  cases hd with
  | bootStarts ht => exact h.bootStarts ht
  | fillPending ht =>
    unfold State.fillPending at ht
    split at ht
    · exact nomatch ht
    · split at ht <;> cases ht
      exact h.dropPending.allocateAndAccept ‹_›
  | completeHead ht =>
    unfold State.completeHead at ht
    split at ht
    · exact nomatch ht
    · next m ms hq =>
      split at ht <;> cases ht
      have popped : (s.setFu { s.fu with queue := ms }).Fits := by
        refine h.setFu ?_ (fun x hx => h.weights x (hq ▸ List.mem_cons_of_mem _ hx)) h.owed
        have := h.markers
        rw [hq, List.length_cons] at this
        exact Nat.le_of_succ_le this
      exact popped.markerDone
  | completeWait ht =>
    unfold State.completeWait at ht
    split at ht
    · exact nomatch ht
    · split at ht <;> cases ht
      exact State.Fits.complete h.fuSame
  | swap ht => exact h.swap ht
  | endContext d ht => exact h.endContext ht
  | endByFault d ht => exact h.endByFault ht
  | holdupEnd ht =>
    unfold State.holdupEnd at ht
    split at ht <;> cases ht
    exact h.holdupEnds
  | stoppedReset ht =>
    unfold State.stoppedReset at ht
    split at ht <;> cases ht
    exact s.internalReset_fits
  | replayEnd ht =>
    unfold State.replayEnd at ht
    split at ht <;> cases ht
    exact h.askWrite
  | restartEnd ht =>
    unfold State.restartEnd at ht
    split at ht <;> cases ht
    exact s.internalReset_fits
  | gather d ht => exact h.gather ht
  | takeWrite ht => exact h.takeWrite ht
  | startPersist ht => exact h.startPersist ht
  | hostAsks ht => exact h.hostAsks ht
  | fetchAsks ht => exact h.fetchAsks ht
  | grant ht =>
    unfold State.grant at ht
    split at ht
    · obtain ⟨r, -, rfl⟩ := Option.map_eq_some_iff.1 ht
      exact h.grantTo
    · exact nomatch ht

theorem fits_of_effect {s t : State} (he : Effect s t) (h : s.Fits) : t.Fits := by
  cases he with
  | due hd => exact fits_of_due hd h
  | pending x => exact h.setPending
  | pins x => exact h.setPins
  | tick => exact h.tick
  | coldReset => exact s.coldReset_fits
  | coldResetLow => exact State.fits_of_reset rfl rfl rfl rfl rfl rfl rfl rfl rfl rfl
  | nvmSpoil d => exact h.nvmSpoil
  | port m faults => exact h.setMgp faults
  | pulseEnds => exact h.pulseEnds
  | lowTimeEnds => exact h.lowTimeEnds
  | fenceArrival => exact h.fenceArrival
  | accessArrives ha hbl hbh hrd hwr hd => exact h.accessArrives
  | strobeReleased => exact h.strobeReleased
  | stallExpires => exact h.stallExpires
  | sealWhere p => exact h.sealWhere
  | transferEnds answer => exact h.transferEnds
  | pollDue d => exact h.pollDue
  | ackExpires d => exact h.ackExpires
  | programExpires d => exact h.programExpires
  | muProgramExpires => exact h.muProgramExpires
  | resetExpires d => exact h.resetExpires
  | pfailRises => exact h.pfailRises
  | pfailFalls => exact h.pfailFalls
  | commitTaken taken => exact h.commitTaken taken
  | restartTaken _ => exact h.enterRestarting
  | retireOnRequest d page => exact h.retireOnRequest

/-- Settles O7: each effect that a command is made of keeps every list and count within its room. -/
theorem fitsKept : Obligations.FitsKept := fun _ _ h he => step_keeps_of_effects (fun _ _ => fits_of_effect) h he

end Sys2Proof.Machine
end

section
/-! The state after reset, and what an arrival meets: the write that reaches the buffer (R8 to R12, R78) and the read that needs no
memory transfer (R28 to R32, R40). -/

namespace Sys2Proof.Machine

/- One theorem after another: waiting ones would each hold a thread. -/
set_option Elab.async false

/-! ### The state after reset -/

theorem reset_noneHeld : State.reset.NoneHeld := ⟨rfl, rfl, rfl, rfl, rfl⟩

theorem reset_fits : State.reset.Fits := State.fits_of_reset rfl rfl rfl rfl rfl rfl rfl rfl rfl rfl

theorem reset_sparesHeld (d : Dev) : State.reset.sparesHeld d = [] := by cases d <;> rfl
theorem reset_ctx (d : Dev) : State.reset.ctx d = none := by cases d <;> rfl
theorem reset_hold (d : Dev) : State.reset.ru.hold.get d = none := by cases d <;> rfl

theorem reset_remapSound : State.reset.RemapSound where
  homes := List.nodup_nil
  failed := Nat.zero_le _
  spares d := by simp [reset_sparesHeld]
  candidate d := by simp [reset_ctx]
  working d := by simp [reset_ctx]
  boot _ d := ⟨reset_ctx d, reset_hold d⟩

theorem state_reset_allReset : State.reset.AllReset :=
  ⟨⟨⟨rfl, rfl, rfl, rfl, rfl, rfl, rfl, rfl⟩, rfl, rfl, rfl⟩, rfl, rfl, rfl⟩

/-- Settles O4: each block is its own value after cold reset, and nothing is held, opened, or in hand. -/
theorem resetState : Obligations.ResetState := by
  refine ⟨state_reset_allReset, rfl, rfl, rfl, rfl, reset_fits, ?headerClean, reset_noneHeld.held, ?oneOpen, ?bootOrder,
    ?shut, ⟨rfl, rfl⟩, nofun, fun _ => state_reset_allReset, reset_remapSound⟩
  case headerClean => exact fun h => h.elim nofun nofun
  case oneOpen => exact ⟨.nil, nofun⟩
  case bootOrder => exact ⟨fun _ _ => ⟨rfl, rfl, rfl⟩, nofun⟩
  case shut => exact ⟨fun _ => rfl, fun _ => nofun⟩

/-! ### An arrival that passes the checks (R105 to R109) -/

/-- The arrival of an access that decodes: its record stands, with its decode. -/
def State.arrived (s : State) (addr : BitVec 23) (even odd : Bool) (dir : Dir) (hd : Half) (x : Decoded) : State :=
  s.setHp { s.hp with access := some (decodedAccess addr even odd dir hd s.stallLimit x) }

@[simp] theorem State.arrived_pwb (s : State) (addr : BitVec 23) (even odd : Bool) (dir : Dir) (hd : Half) (x : Decoded) :
    (s.arrived addr even odd dir hd x).pwb = s.pwb :=
  rfl

theorem State.noteDecode_openAccess (s : State) (addr : BitVec 23) (even odd : Bool) (dir : Dir) (hd : Half)
    (x : Decoded) : (s.openAccess addr even odd dir hd).noteDecode x = s.arrived addr even odd dir hd x :=
  rfl

theorem State.arrives_of_opens {s : State} (h : s.opensAccess) (ha : BitVec 22) (hbl hbh hrd hwr : Bool) (hd : Half) :
    exec (.hostAccessArrival ha hbl hbh hrd hwr hd) s = .next (s.accessArrives ha hbl hbh hrd hwr hd).settle :=
  congrArg _ (State.event_of_alive h.1 _)

theorem State.accessArrives_eq {s : State} (opens : s.opensAccess) (run : s.sc.state = .run) {ha : BitVec 22}
    {hbl hbh hrd hwr : Bool} (hd : Half) (strobe : (hrd || hwr) = true) (lane : (hbl || hbh) = true) :
    s.accessArrives ha hbl hbh hrd hwr hd =
      (s.openAccess (arrivalAddr ha hbl hbh) hbl hbh (arrivalDir hrd) hd).decodeAccess (arrivalAddr ha hbl hbh) hbl hbh
        (arrivalDir hrd) hd := by
  have named : (!hbl && !hbh) = false := by cases hbl <;> simp_all
  have running : (s.openAccess (arrivalAddr ha hbl hbh) hbl hbh (arrivalDir hrd) hd).sc.state = .run := run
  unfold State.accessArrives
  rw [if_neg (by simp [opens.2, strobe])]
  dsimp only
  rw [if_neg (not_not_intro running), if_neg (by simp [named])]

theorem State.decodeAccess_eq {s : State} {addr : BitVec 23} {x : Decoded} (decode : s.wd.live.decode addr = some x)
    {dir : Dir} (passes : s.decodeRefusal x dir = none) (even odd : Bool) (hd : Half) :
    (s.openAccess addr even odd dir hd).decodeAccess addr even odd dir hd =
      (s.arrived addr even odd dir hd x).handOn x addr even odd dir hd := by
  have decoded : (s.openAccess addr even odd dir hd).wd.live.decode addr = some x := decode
  have accepted : (s.arrived addr even odd dir hd x).decodeRefusal x dir = none := passes
  simp only [State.decodeAccess, decoded, State.noteDecode_openAccess, accepted]

/-- A write of an ONLINE device that no check refuses reaches the buffer. -/
theorem State.writeArrives {s : State} {ha : BitVec 22} {hbl hbh : Bool} {x : Decoded} (hd : Half)
    (lane : (hbl || hbh) = true) (w : s.writeTo (arrivalAddr ha hbl hbh) x) (policy : x.policy ≠ .readOnly) :
    exec (.hostAccessArrival ha hbl hbh false true hd) s =
      .next ((s.arrived (arrivalAddr ha hbl hbh) hbl hbh .write hd x).placeWrite
        { loc := x.loc, bytes := laneBytes (arrivalAddr ha hbl hbh) hbl hbh hd
          wt := decide (x.policy = .writeThrough) }).settle := by
  have takes : (s.dev x.loc.dev).takes = true := (DevRecord.takes_iff _).2 (.inl w.online)
  have passes : s.decodeRefusal x .write = none := by
    simp [State.decodeRefusal, takes, policy, w.online, w.fault, w.notLost]
  rw [State.arrives_of_opens w.opens, State.accessArrives_eq w.opens w.run hd rfl lane]
  exact congrArg (fun t : State => Host.Outcome.next t.settle) (State.decodeAccess_eq w.decode passes hbl hbh hd)

/-- A read that no check refuses reaches the read path. -/
theorem State.readReaches {s : State} {ha : BitVec 22} {hbl hbh : Bool} {x : Decoded} (hwr : Bool) (hd : Half)
    (lane : (hbl || hbh) = true) (r : s.readOf (arrivalAddr ha hbl hbh) x) :
    exec (.hostAccessArrival ha hbl hbh true hwr hd) s =
      .next ((s.arrived (arrivalAddr ha hbl hbh) hbl hbh .read hd x).readArrives x.loc
        (lanePositions (arrivalAddr ha hbl hbh) hbl hbh)).settle := by
  have passes : s.decodeRefusal x .read = none := by simp [State.decodeRefusal, r.takes]
  rw [State.arrives_of_opens r.opens, State.accessArrives_eq r.opens r.run hd rfl lane]
  exact congrArg (fun t : State => Host.Outcome.next t.settle) (State.decodeAccess_eq r.decode passes hbl hbh hd)

/-! ### A merge (R8, R14) -/

theorem byteAt_of_length_le {bytes : List (Option Byte)} {k : Nat} (h : bytes.length ≤ k) : byteAt bytes k = none := by
  simp [byteAt, h]

theorem byteAt_overlay_of_length {old new : List (Option Byte)} (h : new.length = old.length) (k : Nat) :
    byteAt (overlay old new) k = (byteAt new k).or (byteAt old k) := by
  by_cases hk : k < old.length
  · exact byteAt_overlay hk (h ▸ hk)
  · rw [byteAt_of_length_le (by rw [overlay_length _ _ h]; omega), byteAt_of_length_le (by omega),
      byteAt_of_length_le (by omega)]
    rfl

theorem byteAt_of_lt {bytes : List (Option Byte)} {k : Nat} (h : k < bytes.length) : byteAt bytes k = bytes[k] := by
  simp [byteAt, h]

theorem isFull_iff (bytes : List (Option Byte)) :
    isFull bytes = true ↔ ∀ k < bytes.length, (byteAt bytes k).isSome = true := by
  rw [isFull, List.all_eq_true, List.forall_mem_iff_forall_getElem]
  exact forall₂_congr fun k hk => by rw [byteAt_of_lt hk]

theorem Entry.merge_of_full {e : Entry} {bytes : List (Option Byte)} (h : isFull (overlay e.bytes bytes) = true) :
    e.merge bytes = ({ e with bytes := overlay e.bytes bytes } : Entry).seal :=
  if_pos h

theorem Entry.merge_of_not_full {e : Entry} {bytes : List (Option Byte)} (h : isFull (overlay e.bytes bytes) = false) :
    e.merge bytes = { e with bytes := overlay e.bytes bytes } :=
  if_neg (by simp [h])

theorem Entry.seal_of_opened {e : Entry} (h : e.state = .opened) : e.seal = { e with state := .sealed, deadline := none } :=
  if_pos h

/-- Beside the bytes a merge changes the state and the deadline alone, and those when the mask is full. -/
theorem Entry.merge_eq {e : Entry} (h : e.state = .opened) (bytes : List (Option Byte)) :
    e.merge bytes = { e with
      bytes := overlay e.bytes bytes
      state := if isFull (overlay e.bytes bytes) then .sealed else .opened
      deadline := if isFull (overlay e.bytes bytes) then none else e.deadline } := by
  cases hf : isFull (overlay e.bytes bytes) with
  | true => exact (Entry.merge_of_full hf).trans (Entry.seal_of_opened (by exact h))
  | false => rw [Entry.merge_of_not_full hf, ← h]; rfl

theorem State.arrived_mergeWrite (s : State) (addr : BitVec 23) (even odd : Bool) (hd : Half) (x : Decoded)
    (bytes : List (Option Byte)) (wt : Bool) :
    (s.arrived addr even odd .write hd x).mergeWrite { loc := x.loc, bytes := bytes, wt := wt } = { s with
      hp := { s.hp with access := some ((decodedAccess addr even odd .write hd s.stallLimit x).done 0) }
      pwb := { s.pwb with entries := s.pwb.entries.map (fun e =>
        if e.state = .opened ∧ e.loc = x.loc then e.merge bytes else e) }
      mgp := { s.mgp with counters := (s.mgp.counters.raise .writesAccepted 1).raise .writesMerged 1 } } := by
  simp only [State.mergeWrite, isOpenAt_iff]
  rfl

/-- Settles O25: the write is handed to the buffer, which merges it, and a merge is an overlay that seals a full entry. -/
theorem postedWriteMerges : Obligations.PostedWriteMerges := by
  refine ⟨?arrival, ?merge⟩
  case arrival =>
    intro s ha hbl hbh hd x lane write posted openHere
    rw [State.writeArrives hd lane write (by simp [posted]), State.placeWrite, if_neg (by simp [posted]),
      if_pos (by simpa using openHere)]
    rw [State.arrived_mergeWrite]
  case merge =>
    intro e bytes opened length lengthNew
    have laid := byteAt_overlay_of_length (lengthNew.trans length.symm)
    have full : isFull (overlay e.bytes bytes) = true ↔ ∀ k < 16, (byteAt (overlay e.bytes bytes) k).isSome = true := by
      rw [isFull_iff, overlay_length _ _ (lengthNew.trans length.symm), length]
    rw [Entry.merge_eq opened]
    refine ⟨rfl, rfl, rfl, fun k => ?_, fun every => ?_, fun ⟨k, hk, missing⟩ => ?_⟩
    · rw [laid]
      cases byteAt bytes k <;> rfl
    · exact ⟨if_pos (full.2 every), if_pos (full.2 every)⟩
    · have notFull : ¬isFull (overlay e.bytes bytes) = true := fun hf => by simpa [missing] using full.1 hf k hk
      exact ⟨if_neg notFull, if_neg notFull⟩

end Sys2Proof.Machine
end

section
/-! When a step of the same event is due, and the write that takes an entry or waits for one (R9, R10, R12, R16). -/

namespace Sys2Proof.Machine

/- One theorem after another: waiting ones would each hold a thread. -/
set_option Elab.async false

/-! ### When a step is due -/

section
variable (s : State) (d : Dev)

theorem State.bootStarts_eq_none_iff : s.bootStarts = none ↔ ¬(s.sc.state = .boot ∧ s.sc.step = none) := by
  unfold State.bootStarts
  split <;> simp [*]

theorem State.fillPending_eq_none_iff :
    s.fillPending = none ↔ (s.pwb.waiting.isSome = true → Config.bufferEntries ≤ s.occupancy) := by
  unfold State.fillPending
  split
  · simp [*]
  · split <;> simp_all

theorem State.completeHead_eq_none_iff :
    s.completeHead = none ↔ ∀ m ∈ s.fu.queue.head?, noneAtOrBelow s.pwb.entries m.marker = false := by
  unfold State.completeHead
  split
  · simp [*]
  · split <;> simp_all

theorem State.completeWait_eq_none_iff :
    s.completeWait = none ↔ ∀ w ∈ s.fu.wait, noneAtOrBelow s.pwb.entries w.seq = false := by
  unfold State.completeWait
  split
  · simp [*]
  · split <;> simp_all

theorem State.swap_eq_none_iff : s.swap = none ↔ (s.wd.image.isSome = true → s.heldPhase ≠ none) := by
  unfold State.swap
  split
  · simp [*]
  · split <;> simp_all

theorem State.endContext_eq_none_iff : s.endContext d = none ↔
    ∀ c ∈ s.ctx d, ∀ n ∈ s.ru.reported, ∀ a ∈ c.awaited, (c.waitsPersist && atOrBelow a n) = false := by
  unfold State.endContext
  split
  · split
    · split <;> simp_all
    · simp_all
  · simp_all

theorem State.endByFault_eq_none_iff : s.endByFault d = none ↔
    ∀ c ∈ s.ctx d, ¬(c.phase = .awaitPersist ∧ s.mu.remap.fault = true ∧ s.ru.isFailed d c.home = true) := by
  unfold State.endByFault
  split
  · split <;> simp_all
  · simp_all

theorem State.holdupEnd_eq_none_iff : s.holdupEnd = none ↔ ¬(s.sc.state = .holdup ∧ s.quiet = true) := by
  unfold State.holdupEnd
  split <;> simp [*]

theorem State.stoppedReset_eq_none_iff :
    s.stoppedReset = none ↔ ¬(s.sc.state = .stopped ∧ s.quiet = true ∧ s.sc.pfail = false) := by
  unfold State.stoppedReset
  split <;> simp [*]

theorem State.replayEnd_eq_none_iff : s.replayEnd = none ↔
    ¬(s.sc.state = .replay ∧ s.occupancy = 0 ∧ s.mu.waiting = none ∧ s.mu.op ≠ some (.write .toClean 1) ∧
      s.mu.op ≠ some (.write .toClean 2)) := by
  unfold State.replayEnd
  split <;> simp [*]

theorem State.restartEnd_eq_none_iff : s.restartEnd = none ↔
    ¬(s.sc.state = .restarting ∧ s.occupancy = 0 ∧ s.mu.op = none ∧ s.mu.config.pending = false ∧
      s.mu.remap.pending = false) := by
  unfold State.restartEnd
  split <;> simp [*]

theorem State.gather_eq_none_iff : s.gather d = none ↔ s.gatherable d = none := by
  unfold State.gather
  split
  · simp [*]
  · dsimp only
    split <;> simp [*]

theorem State.takeWrite_eq_none_iff : s.takeWrite = none ↔ (s.mu.op = none → s.mu.waiting = none) := by
  unfold State.takeWrite
  split
  · simp [*]
  · next h =>
    simp only [true_iff]
    intro op
    by_contra waiting
    obtain ⟨w, hw⟩ := Option.ne_none_iff_exists'.1 waiting
    exact h w op hw

theorem State.startPersist_eq_none_iff : s.startPersist = none ↔ s.persistDue = none := by
  unfold State.startPersist
  split <;> simp [*]

theorem State.hostAsks_eq_none_iff : s.hostAsks = none ↔
    ∀ r ∈ s.rp.host, r.phase = .queued ∧ r.asked = false → s.suspendable r.loc = none := by
  unfold State.hostAsks
  split
  · simp [*]
  · split
    · split
      · simp_all
      · split <;> simp_all
    · simp_all

theorem State.fetchAsks_eq_none_iff : s.fetchAsks = none ↔
    ∀ f ∈ s.rp.fetch, f.phase = .queued ∧ f.asked = false → s.suspendable f.loc = none := by
  unfold State.fetchAsks
  split
  · simp [*]
  · split
    · split
      · simp_all
      · split <;> simp_all
    · simp_all

theorem State.grant_eq_none_iff : s.grant = none ↔ (s.mp.bus = none → s.choice = none) := by
  unfold State.grant
  split <;> simp [*]

/-- Nothing is due when none of the steps is. -/
theorem State.settled_iff : s.settled ↔ ∀ f ∈ followSteps, f s = none := by
  simp [State.settled, firstDue, List.findSome?_eq_none_iff]

end

/-- A write that is parked, with its access held, makes nothing due while no entry is FREE. -/
theorem State.settled_parked {s : State} (h : s.settled) {x : HostPort} (w : PendingWrite)
    (full : Config.bufferEntries ≤ s.occupancy) (held : (s.setHp x).heldPhase ≠ none) :
    ((s.setHp x).setPwb { s.pwb with waiting := some w }).settled := by
  rw [State.settled_iff] at h ⊢
  simp only [followSteps, List.forall_mem_cons, List.not_mem_nil, IsEmpty.forall_iff, implies_true, and_true,
    State.bootStarts_eq_none_iff, State.fillPending_eq_none_iff,
    State.completeHead_eq_none_iff, State.completeWait_eq_none_iff, State.swap_eq_none_iff, State.endContext_eq_none_iff,
    State.endByFault_eq_none_iff, State.holdupEnd_eq_none_iff, State.stoppedReset_eq_none_iff,
    State.replayEnd_eq_none_iff, State.restartEnd_eq_none_iff, State.gather_eq_none_iff, State.takeWrite_eq_none_iff,
    State.startPersist_eq_none_iff, State.hostAsks_eq_none_iff, State.fetchAsks_eq_none_iff,
    State.grant_eq_none_iff] at h ⊢
  obtain ⟨boot, -, head, wait, -, others⟩ := h
  exact ⟨boot, fun _ => full, head, wait, fun _ => held, others⟩

/-! ### The entry a write takes (R9, R12, R16) -/

/-- The oldest OPEN entry is the one before which none is OPEN. -/
theorem sealOldest_append {older newer : List Entry} {e : Entry} (shut : ∀ x ∈ older, x.state ≠ .opened)
    (opened : e.state = .opened) :
    sealOldest (older ++ e :: newer) = older ++ { e with state := .sealed, deadline := none } :: newer := by
  induction older with
  | nil => exact (if_pos opened).trans (congrArg (· :: newer) (Entry.seal_of_opened opened))
  | cons x xs ih =>
    have rest := ih (fun y hy => shut y (List.mem_cons_of_mem _ hy))
    exact (if_neg (shut x List.mem_cons_self)).trans (congrArg (x :: ·) rest)

theorem State.newEntry_posted (s : State) (loc : Loc) (bytes : List (Option Byte)) :
    s.newEntry { loc := loc, bytes := bytes, wt := false } =
      { loc := loc, bytes := bytes, seq := nextNonzero s.pwb.counter, wt := false
        state := if s.sealDelay = 0 then .sealed else .opened
        deadline := if s.sealDelay = 0 then none else some s.sealDelay } := by
  simp [State.newEntry]

theorem State.newEntry_writeThrough (s : State) (loc : Loc) (bytes : List (Option Byte)) :
    s.newEntry { loc := loc, bytes := bytes, wt := true } =
      { loc := loc, bytes := bytes, seq := nextNonzero s.pwb.counter, wt := true, state := .sealed, deadline := none } :=
  rfl

/-- An access that is held takes a posted write's entry and completes. -/
theorem State.allocateAndAccept_posted {s : State} {a : Access} (access : s.hp.access = some a) (loc : Loc)
    (bytes : List (Option Byte)) :
    s.allocateAndAccept { loc := loc, bytes := bytes, wt := false } = { s with
      hp := { s.hp with access := some (a.done 0) }
      pwb := (s.allocate { loc := loc, bytes := bytes, wt := false }).pwb
      mgp := { s.mgp with counters := s.mgp.counters.raise .writesAccepted 1 } } := by
  simp [State.allocateAndAccept, State.complete, access]
  rfl

/-- A write-through write's access is held further, and the wait record names the new entry's seq. -/
theorem State.allocateAndAccept_writeThrough {s : State} {a : Access} (access : s.hp.access = some a) (loc : Loc)
    (bytes : List (Option Byte)) :
    s.allocateAndAccept { loc := loc, bytes := bytes, wt := true } = { s with
      hp := { s.hp with access := some { a with phase := .heldWt } }
      pwb := (s.allocate { loc := loc, bytes := bytes, wt := true }).pwb
      fu := { s.fu with wait := some { seq := nextNonzero s.pwb.counter, lost := false } }
      mgp := { s.mgp with counters := s.mgp.counters.raise .writesAccepted 1 } } := by
  simp [State.allocateAndAccept, State.holdAccess, access]
  rfl

end Sys2Proof.Machine
end

section
/-! What an arriving write brings (R9, R10, R12, R16, R78), and a read that needs no memory transfer (R28 to R32, R40). -/

namespace Sys2Proof.Machine

/- One theorem after another: waiting ones would each hold a thread. -/
set_option Elab.async false

/-! ### A posted write -/

theorem State.arrived_access (s : State) (addr : BitVec 23) (even odd : Bool) (dir : Dir) (hd : Half) (x : Decoded) :
    (s.arrived addr even odd dir hd x).hp.access = some (decodedAccess addr even odd dir hd s.stallLimit x) :=
  rfl

theorem State.takeEntry_of_free {s : State} (free : s.pwb.entries.length < 32) (w : PendingWrite) :
    s.takeEntry w = s.allocateAndAccept w :=
  if_pos free

theorem State.takeEntry_of_full {s : State} (full : 32 ≤ s.pwb.entries.length) (w : PendingWrite) :
    s.takeEntry w = (s.setPwb { s.pwb with waiting := some w }).holdAccess .heldBuffer :=
  if_neg (Nat.not_lt.2 full)

theorem State.placeWrite_posted {s : State} {w : PendingWrite} (posted : w.wt = false)
    (closed : s.pwb.entries.any (isOpenAt w.loc) = false) : s.placeWrite w = s.takeEntry w := by
  rw [State.placeWrite, if_neg (by simp [posted]), if_neg (by simp [closed])]

theorem State.placeWrite_writeThrough {s : State} {w : PendingWrite} (through : w.wt = true) :
    s.placeWrite w = s.sealAll.takeEntry w :=
  if_pos through

/-- Settles O26: the first OPEN entry is the one sealed; a FREE entry is taken with the next seq, and with none the write is
parked, which makes nothing due. -/
theorem postedWriteAllocates : Obligations.PostedWriteAllocates := by
  refine ⟨fun _ => sealOldest_of_none_open, fun _ _ _ => sealOldest_append, ?free, ?full⟩
  case free =>
    intro s ha hbl hbh hd x lane write posted closed free
    have reaches := State.writeArrives hd lane write (by simp [posted])
    rw [State.placeWrite_posted (by simp [posted]) (by simpa using closed), State.takeEntry_of_free (by simpa using free),
      posted] at reaches
    refine reaches.trans (congrArg (fun t : State => Host.Outcome.next t.settle) ?_)
    refine (State.allocateAndAccept_posted (State.arrived_access ..) _ _).trans ?_
    simp only [State.allocate, State.newEntry_posted]
    rfl
  case full =>
    intro s ha hbl hbh hd x lane settled write posted closed full
    have reaches := State.writeArrives hd lane write (by simp [posted])
    rw [State.placeWrite_posted (by simp [posted]) (by simpa using closed), State.takeEntry_of_full (by simpa using full),
      posted] at reaches
    have parked := State.settled_parked settled
      (x := { s.hp with access := some { decodedAccess (arrivalAddr ha hbl hbh) hbl hbh .write hd s.stallLimit x with
        phase := .heldBuffer } })
      { loc := x.loc, bytes := laneBytes (arrivalAddr ha hbl hbh) hbl hbh hd, wt := false } full (by simp [State.heldPhase])
    exact reaches.trans (congrArg Host.Outcome.next (State.settle_of_settled parked))

/-! ### A write-through write -/

theorem State.sealAll_arrived (s : State) (addr : BitVec 23) (even odd : Bool) (hd : Half) (x : Decoded) :
    (s.arrived addr even odd .write hd x).sealAll = { s with
      hp := { s.hp with access := some (decodedAccess addr even odd .write hd s.stallLimit x) }
      pwb := { s.pwb with entries := s.pwb.entries.map sealedEntry } } :=
  rfl

/-- Sealing the oldest OPEN entry does nothing where every entry is closed already. -/
theorem sealOldest_map_sealed (es : List Entry) {e : Entry} (closed : e.state ≠ .opened) :
    sealOldest (es.map sealedEntry ++ [e]) = es.map sealedEntry ++ [e] := by
  refine sealOldest_of_none_open (fun x hx => ?_)
  rcases List.mem_append.1 hx with hx | hx
  · obtain ⟨y, -, rfl⟩ := List.mem_map.1 hx
    exact y.seal_not_opened
  · exact List.mem_singleton.1 hx ▸ closed

/-- Settles O27: the entries are sealed before the entry is taken, so that the high-water rule finds nothing to seal. -/
theorem writeThroughHeld : Obligations.WriteThroughHeld := by
  intro s ha hbl hbh hd x lane write through
  dsimp only
  have reaches := State.writeArrives hd lane write (by simp [through])
  rw [State.placeWrite_writeThrough (by simp [through]), through, State.sealAll_arrived] at reaches
  refine ⟨fun free => reaches.trans ?_, fun full => reaches.trans ?_⟩
  · refine congrArg (fun t : State => Host.Outcome.next t.settle) ?_
    rw [State.takeEntry_of_free (by simpa using free)]
    refine (State.allocateAndAccept_writeThrough rfl _ _).trans ?_
    simp only [State.allocate, State.newEntry_writeThrough, sealOldest_map_sealed, ne_eq, reduceCtorEq, not_false_eq_true,
      ite_self]
    rfl
  · refine congrArg (fun t : State => Host.Outcome.next t.settle) ?_
    rw [State.takeEntry_of_full (by simpa using full)]
    rfl

/-! ### A read that needs no memory transfer -/

/-- The halfword's position in its line, from the address lines (R105, R107). -/
theorem evenPosition_arrivalAddr {ha : BitVec 22} {hbl hbh : Bool} (lane : (hbl || hbh) = true) :
    evenPosition (arrivalAddr ha hbl hbh) = 2 * ha.toNat % 16 := by
  have shifted : (ha.setWidth 23 <<< 1).toNat = 2 * ha.toNat := by bv_omega
  unfold evenPosition arrivalAddr
  split
  · omega
  · split
    · have odd : ((ha.setWidth 23 <<< 1) + 1).toNat = 2 * ha.toNat + 1 := by bv_omega
      omega
    · simp_all

/-- The state once a decoded read has completed with a value for each of its bytes (R106). -/
def State.readDone (s : State) (ha : BitVec 22) (hbl hbh : Bool) (hd : Half) (x : Decoded) (value : Nat → Byte) : State :=
  { s with
    hp := { s.hp with access := some ((decodedAccess (arrivalAddr ha hbl hbh) hbl hbh .read hd s.stallLimit x).done
      ((if hbh then value (2 * ha.toNat % 16 + 1) else 0xFF) ++ (if hbl then value (2 * ha.toNat % 16) else 0xFF))) } }

theorem State.arrived_complete (s : State) {ha : BitVec 22} {hbl hbh : Bool} (lane : (hbl || hbh) = true) (hd : Half)
    (x : Decoded) (value : Nat → Byte) :
    (s.arrived (arrivalAddr ha hbl hbh) hbl hbh .read hd x).complete none
      (readHalf (lanePositions (arrivalAddr ha hbl hbh) hbl hbh) value) = s.readDone ha hbl hbh hd x value := by
  rw [readHalf_lanePositions, evenPosition_arrivalAddr lane]
  rfl

theorem State.readDone_settled {s : State} (h : s.settled) (free : s.hp.access = none) (ha : BitVec 22) (hbl hbh : Bool)
    (hd : Half) (x : Decoded) (value : Nat → Byte) : (s.readDone ha hbl hbh hd x value).settled :=
  (State.setHp_settled s (s.readDone ha hbl hbh hd x value).hp s.mgp
    (by simp [State.heldPhase, free, State.readDone, Access.done])).2 h

/-- When a read-ahead hit brings a refill (R40). -/
def State.refills (s : State) (loc : Loc) : Prop :=
  1 ≤ s.readAhead ∧ loc.line < 15 ∧ (∀ l ∈ s.rp.lines, l.loc ≠ { loc with line := loc.line + 1 }) ∧
    (s.dev loc.dev).activity = .idle ∧ (∀ t, s.mp.bus = some t → t.req.requester ≠ .refill)

theorem State.considerRefill_cond (s : State) (loc : Loc) : (1 ≤ s.readAhead ∧ loc.line < 15 ∧
    findLine s.rp.lines { loc with line := loc.line + 1 } = none ∧ (s.dev loc.dev).activity = .idle ∧
      s.onBus (fun r => r.requester = .refill) = false) ↔ s.refills loc := by
  have held : findLine s.rp.lines { loc with line := loc.line + 1 } = none ↔
      ∀ l ∈ s.rp.lines, l.loc ≠ { loc with line := loc.line + 1 } := by
    simp [findLine, List.find?_eq_none]
  have bus : s.onBus (fun r => r.requester = .refill) = false ↔ ∀ t, s.mp.bus = some t → t.req.requester ≠ .refill := by
    unfold State.onBus
    split <;> simp_all
  rw [held, bus, State.refills]

theorem State.considerRefill_of_not {s : State} {loc : Loc} (h : ¬s.refills loc) : s.considerRefill loc = s :=
  if_neg (mt (s.considerRefill_cond loc).1 h)

theorem State.considerRefill_of_refills {s : State} {loc : Loc} (h : s.refills loc)
    (takes : (s.dev loc.dev).takes = true) : s.considerRefill loc = { s with
      rp := { s.rp with refill := some { loc with line := loc.line + 1 } }
      mp := { s.mp with
        reqs := (if s.rp.refill.isSome then s.mp.reqs.filter (fun q => q.requester ≠ .refill) else s.mp.reqs) ++
          [⟨.refill, loc.dev, .read loc.page (loc.line + 1) 1⟩] } } := by
  have withdrawn : s.rp.refill.any (fun _ => true) = s.rp.refill.isSome := by cases s.rp.refill <;> rfl
  refine (if_pos ((s.considerRefill_cond loc).2 h)).trans ?_
  rw [s.dropRefill_eq, withdrawn]
  exact (if_pos (State.mayQueue_of_takes (by exact takes))).trans rfl

theorem State.readArrives_covered {s : State} {loc : Loc} {positions : List Nat} (ok : s.ru.isFailed loc.dev loc.page = false)
    (covered : ∀ k ∈ positions, (forward s.pwb.entries loc k).isSome = true) : s.readArrives loc positions =
      s.complete none (readHalf positions (fun k => (forward s.pwb.entries loc k).getD 0)) := by
  rw [State.readArrives, if_neg (by simp [ok]), if_pos (by simpa using covered)]
  rfl

theorem State.readArrives_hit {s : State} {loc : Loc} {positions : List Nat} (ok : s.ru.isFailed loc.dev loc.page = false)
    (uncovered : ∃ k ∈ positions, forward s.pwb.entries loc k = none) {r : LineRecord}
    (hit : s.rp.lines.find? (fun l => l.loc = loc) = some r) : s.readArrives loc positions =
      (s.complete none (readHalf positions
        (fun k => (forward s.pwb.entries loc k).getD ((r.bytes[k]?).getD 0)))).considerRefill loc := by
  have notAll : ¬positions.all (fun p => (forward s.pwb.entries loc p).isSome) = true := by
    simpa using uncovered
  have found : findLine s.rp.lines loc = some r := hit
  rw [State.readArrives, if_neg (by simp [ok]), if_neg notAll, found]
  rfl

/-- Settles O28: the read path is left at the first of its two lookups that settles the read, and a hit of the second looks for
the next line. -/
theorem readAtOnce : Obligations.ReadAtOnce := by
  intro s ha hbl hbh hwr hd x lane read
  have reaches := State.readReaches hwr hd lane read
  refine ⟨fun covered settled => ?_, fun r uncovered hit => ?_⟩
  · rw [State.readArrives_covered (by exact read.notLost) (by exact covered), State.arrived_complete _ lane] at reaches
    exact reaches.trans (congrArg _ (State.settle_of_settled (State.readDone_settled settled read.opens.2 ..)))
  · rw [State.readArrives_hit (by exact read.notLost) (by exact uncovered) (by exact hit),
      State.arrived_complete _ lane] at reaches
    refine ⟨fun none settled => ?_, fun refills => ?_⟩
    · rw [State.considerRefill_of_not (by exact none)] at reaches
      exact reaches.trans (congrArg _ (State.settle_of_settled (State.readDone_settled settled read.opens.2 ..)))
    · rw [State.considerRefill_of_refills (by exact refills) (by exact read.takes)] at reaches
      exact reaches

end Sys2Proof.Machine
end

section
/-! Held writes that complete (R10, R79), and the arrival of a fence (R70 to R72, R181). -/

namespace Sys2Proof.Machine

/- One theorem after another: waiting ones would each hold a thread. -/
set_option Elab.async false

/-! ### Held writes -/

theorem State.fillPending_of_free {s : State} {w : PendingWrite} (waiting : s.pwb.waiting = some w)
    (free : s.pwb.entries.length < 32) : s.fillPending = some (s.dropPending.allocateAndAccept w) := by
  rw [State.fillPending, waiting]
  exact if_pos free

theorem State.completeWait_of_none {s : State} {w : WaitRecord} (wait : s.fu.wait = some w)
    (done : noneAtOrBelow s.pwb.entries w.seq = true) : s.completeWait =
      some ((s.setFu { s.fu with wait := none }).complete (if w.lost then some .wtIncomplete else none) 0) := by
  rw [State.completeWait, wait]
  exact if_pos done

/-- Settles O32: the waiting write is allocated as an arriving one is, and a wait record with nothing left at or below it
completes its access. -/
theorem heldWritesComplete : Obligations.HeldWritesComplete := by
  refine ⟨?posted, ?through, ?wait⟩
  case posted =>
    rintro s ⟨loc, bytes, wt⟩ a alive waiting ⟨⟩ access free
    have due := State.fillPending_of_free waiting free
    rw [State.allocateAndAccept_posted (by exact access)] at due
    refine congrArg _ ((State.named_of_due alive due).trans (congrArg State.settle ?_))
    simp only [State.allocate, State.newEntry_posted]
    rfl
  case through =>
    rintro s ⟨loc, bytes, wt⟩ a alive waiting ⟨⟩ access free
    have due := State.fillPending_of_free waiting free
    rw [State.allocateAndAccept_writeThrough (by exact access)] at due
    exact congrArg _ (State.named_of_due alive due)
  case wait =>
    intro s w a alive wait access done
    have due := State.completeWait_of_none wait done
    refine ⟨fun kept => ?_, fun lost => ?_⟩
    · refine congrArg _ ((State.named_of_due alive due).trans (congrArg State.settle ?_))
      simp [State.complete, access, kept, State.setFu, State.setHp, Access.done]
    · refine congrArg _ ((State.named_of_due alive due).trans (congrArg State.settle ?_))
      simp [State.complete, access, lost, State.setFu, State.setHp, Access.failed, State.count, State.setMgp]

/-! ### The arrival of a fence -/

/-- The marker record of a fence that arrives now (R71). -/
def State.newMarker (s : State) : Marker := { marker := s.pwb.counter, weight := 1, lost := false }

theorem State.fenceArrival_of_done {s : State} (done : s.fenceDoneAtOnce = true) :
    s.fenceArrival = s.sealAll.markerDone s.newMarker :=
  if_pos done

theorem State.fenceArrival_of_room {s : State} (open' : s.fenceDoneAtOnce = false)
    (room : s.fu.queue.length < Config.fenceRecords) :
    s.fenceArrival = s.sealAll.setFu { s.fu with queue := s.fu.queue ++ [s.newMarker] } :=
  (if_neg (by simp [open'])).trans (if_pos room)

theorem State.fenceArrival_of_full {s : State} (open' : s.fenceDoneAtOnce = false)
    (full : Config.fenceRecords ≤ s.fu.queue.length) :
    s.fenceArrival = s.sealAll.setFu { s.fu with queue := mergeNewest s.pwb.counter s.fu.queue } :=
  (if_neg (by simp [open'])).trans (if_neg (Nat.not_lt.2 full))

theorem State.byteTaken_eq (s : State) (i : Byte) : s.byteTaken i = s.advanceAt i := rfl

/-- What a fence does in the management port leaves its index, its transaction, its code and its result. -/
theorem State.fenceArrival_setMgp (s : State) (f : ManagementPort → ManagementPort)
    (counts : ∀ (m : ManagementPort) (n : Nat) (l : Bool), f { m with
      counters := m.counters.raise .fencesCompleted n, fenceDone := true, fenceLoss := m.fenceLoss || l } =
        { f m with counters := (f m).counters.raise .fencesCompleted n, fenceDone := true
                   fenceLoss := (f m).fenceLoss || l }) :
    (s.setMgp (f s.mgp)).fenceArrival = s.fenceArrival.setMgp (f s.fenceArrival.mgp) := by
  have same : (s.setMgp (f s.mgp)).fenceDoneAtOnce = s.fenceDoneAtOnce := rfl
  cases h : s.fenceDoneAtOnce with
  | true =>
    rw [State.fenceArrival_of_done h, State.fenceArrival_of_done (same.trans h)]
    exact congrArg (State.setMgp _) (counts s.mgp 1 false).symm
  | false =>
    by_cases room : s.fu.queue.length < Config.fenceRecords
    · rw [State.fenceArrival_of_room h room, State.fenceArrival_of_room (same.trans h) (by exact room)]
      rfl
    · rw [State.fenceArrival_of_full h (Nat.not_lt.1 room), State.fenceArrival_of_full (same.trans h) (by exact Nat.not_lt.1 room)]
      rfl

theorem State.request_of_free {s : State} (free : s.mgp.inHand = false) (code : Byte) (take : State → State) :
    s.request code take = take (s.setMgp { s.mgp with code := code }) :=
  if_neg (by simp [free])

theorem State.fenceArrival_position (s : State) :
    s.fenceArrival.mgp.tx = s.mgp.tx ∧ s.fenceArrival.mgp.index = s.mgp.index := by
  unfold State.fenceArrival
  dsimp only
  (repeat' split) <;> exact ⟨rfl, rfl⟩

/-- The byte of a FENCE is taken before or after its arrival: the two do not meet. -/
theorem State.takeFence_advanceAt (s : State) (code i : Byte) :
    ((s.setMgp { s.mgp with code := code }).takeFence).advanceAt i =
      ((s.byteTaken i).setMgp { (s.byteTaken i).mgp with
        code := code, result := if noneAtOrBelow s.pwb.entries s.pwb.counter then .done else .accepted }).fenceArrival := by
  have requested := s.fenceArrival_setMgp (fun m => { m with
    code := code, result := if noneAtOrBelow s.pwb.entries s.pwb.counter then .done else .accepted }) (fun _ _ _ => rfl)
  have taken := s.fenceArrival_setMgp (fun m => { m with
    code := code, result := if noneAtOrBelow s.pwb.entries s.pwb.counter then .done else .accepted
    index := s.mgp.index + 1, acked := true }) (fun _ _ _ => rfl)
  obtain ⟨tx, index⟩ := s.fenceArrival_position
  refine (congrArg (State.advanceAt · i) requested).trans ?_
  by_cases here : s.mgp.tx = .writing ∧ s.mgp.index = i
  · have advanced : s.byteTaken i = s.advance := if_pos here
    rw [advanced]
    refine (if_pos (by exact ⟨tx.trans here.1, index.trans here.2⟩)).trans (Eq.trans ?_ taken.symm)
    rw [State.advance, ← index]
    rfl
  · have stays : s.byteTaken i = s := if_neg here
    rw [stays]
    refine (if_neg (by exact fun h => here ⟨tx.symm.trans h.1, index.symm.trans h.2⟩)).trans requested.symm

/-- Settles O33: the three cases of R71 by its two tests, and the request by the same arrival. -/
theorem fenceArrives : Obligations.FenceArrives := by
  refine ⟨fun s alive => ?line, fun s takes => ?request⟩
  case line =>
    have arrives : exec .fenceLineRisingEdge s = .next s.fenceArrival.settle :=
      congrArg _ (State.event_of_alive alive _)
    refine ⟨fun done => arrives.trans ?_, fun open' room => arrives.trans ?_, fun older m open' queue full =>
      arrives.trans ?_⟩
    · rw [State.fenceArrival_of_done done]
      rfl
    · rw [State.fenceArrival_of_room open' room]
      rfl
    · rw [State.fenceArrival_of_full open' full, queue, mergeNewest_append]
      rfl
  case request =>
    refine congrArg _ ((State.event_of_alive takes.1 _).trans (congrArg State.settle ?_))
    rw [State.request_of_free takes.2]
    exact s.takeFence_advanceAt 2 0x0C

end Sys2Proof.Machine
end

section
/-! The limits of the host's side: the fault queue (R182), the stall limit with its holder (R43, R80, R110), and the seal deadline
(R13). -/

namespace Sys2Proof.Machine

/- One theorem after another: waiting ones would each hold a thread. -/
set_option Elab.async false

/-! ### A fault record (R182) -/

theorem State.postFault_of_room {s : State} (room : s.mgp.faults.length < 8) (kind : FaultKind) (dev : Option Dev)
    (page count : Option Nat) : s.postFault kind dev page count = { s with mgp := { s.mgp with
      faultNumber := s.mgp.faultNumber + 1
      faults := s.mgp.faults ++
        [{ kind := kind, dev := dev, page := page, count := count, number := s.mgp.faultNumber + 1 }] } } :=
  if_pos room

theorem State.postFault_of_full {s : State} (full : 8 ≤ s.mgp.faults.length) (kind : FaultKind) (dev : Option Dev)
    (page count : Option Nat) : s.postFault kind dev page count = { s with mgp := { s.mgp with
      faultNumber := s.mgp.faultNumber + 1, overflow := true } } :=
  if_neg (Nat.not_lt.2 full)

/-! ### Requests withdrawn (R135) -/

theorem State.withdraw_hostRead (s : State) : s.withdraw (fun q => q.requester = .hostRead) =
    { s with mp := { s.mp with reqs := s.mp.reqs.filter (fun q => q.requester ≠ .hostRead) } } := by
  simp [State.withdraw, State.setMp]

theorem State.withdraw_suspend (s : State) (d : Dev) : s.withdraw (isSuspendOf d) =
    { s with mp := { s.mp with reqs := s.mp.reqs.filter (fun q => ¬(q.cmd = .suspend ∧ q.dev = d)) } } := by
  have same : (fun q => !isSuspendOf d q) = fun q : Request => decide ¬(q.cmd = .suspend ∧ q.dev = d) := by
    funext q
    simp [isSuspendOf, Bool.not_and]
  simp only [State.withdraw, same]
  rfl

theorem State.waits_suspend_iff (s : State) (d : Dev) :
    s.waits (isSuspendOf d) = true ↔ ∃ q ∈ s.mp.reqs, q.cmd = .suspend ∧ q.dev = d := by
  simp [State.waits, isSuspendOf]

/-! ### The requester of a suspension goes (R57, R58) -/

section
variable {s : State} {d : Dev} {c : Ctx}

theorem State.requesterGone_of_waiting (ctx : s.ctx d = some c) (phase : c.phase = .suspended)
    (step : c.suspendStep = some .asked) (waits : ∃ q ∈ s.mp.reqs, q.cmd = .suspend ∧ q.dev = d) : s.requesterGone d =
      { s with
        de := s.de.set d { s.de.get d with ctx := some { c with phase := .programming, suspendStep := none } }
        mp := { s.mp with reqs := s.mp.reqs.filter (fun q => ¬(q.cmd = .suspend ∧ q.dev = d)) } } := by
  simp only [State.requesterGone, ctx, phase, step, if_pos ((s.waits_suspend_iff d).2 waits), State.withdraw_suspend]
  rfl

theorem State.requesterGone_of_sent (ctx : s.ctx d = some c) (phase : c.phase = .suspended)
    (step : c.suspendStep = some .asked) (sent : ∀ q ∈ s.mp.reqs, ¬(q.cmd = .suspend ∧ q.dev = d)) :
    s.requesterGone d = s := by
  have none_waits : ¬s.waits (isSuspendOf d) = true := by
    rw [s.waits_suspend_iff d]
    exact fun ⟨q, hq, h⟩ => sent q hq h
  simp only [State.requesterGone, ctx, phase, step, if_neg none_waits]

theorem State.requesterGone_of_held (ctx : s.ctx d = some c) (phase : c.phase = .suspended)
    (step : c.suspendStep = some .held) (takes : (s.dev d).takes = true) : s.requesterGone d =
      { s with
        de := s.de.set d { s.de.get d with ctx := some { c with suspendStep := some .resuming } }
        mp := { s.mp with reqs := s.mp.reqs ++ [⟨.engine, d, .resume⟩] } } := by
  simp only [State.requesterGone, ctx, phase, step]
  exact if_pos (State.mayQueue_of_takes takes)

end

/-! ### The record of a host read closes (R43) -/

/-- A read without its transfer, its record closed and its request withdrawn. -/
def State.readWithdrawn (s : State) : State := { s with
  rp := { s.rp with host := none }
  mp := { s.mp with reqs := s.mp.reqs.filter (fun q => q.requester ≠ .hostRead) } }

theorem State.closeHostRead_of_transfer {s : State} {r : HostRead} (host : s.rp.host = some r) (phase : r.phase = .transfer) :
    s.closeHostRead = { s with rp := { s.rp with host := none } } := by
  rw [State.closeHostRead, host]
  exact if_pos phase

theorem State.closeHostRead_of_waiting {s : State} {r : HostRead} (host : s.rp.host = some r) (phase : r.phase ≠ .transfer) :
    s.closeHostRead = s.readWithdrawn.endSuspendOf r.loc.dev r.phase := by
  rw [State.closeHostRead, host]
  refine (if_neg phase).trans ?_
  rw [State.withdraw_hostRead]
  rfl

theorem State.endSuspendOf_queued (s : State) (d : Dev) : s.endSuspendOf d .queued = s := if_neg (by simp)

theorem State.endSuspendOf_asked (s : State) (d : Dev) : s.endSuspendOf d .suspendAsked = s.requesterGone d := if_pos (.inl rfl)

theorem State.endSuspendOf_held (s : State) (d : Dev) : s.endSuspendOf d .suspendHeld = s.requesterGone d := if_pos (.inr rfl)

/-! ### The stall limit (R110) -/

theorem State.timeoutAccess_eq (s : State) (a : Access) : s.timeoutAccess a = { s with
    hp := { access := some ({ a with stallTime := a.stallLimit } : Access).failed
            lastErr := some { cause := .stallTimeout, addr := a.addr, dir := a.dir } }
    mgp := { s.mgp with counters := (s.mgp.counters.raise .errCompletions 1).raise .stallTimeouts 1 } } :=
  rfl

theorem State.stallExpires_heldBuffer {s : State} {a : Access} (access : s.hp.access = some a) (phase : a.phase = .heldBuffer)
    {loc : Loc} (here : a.loc = some loc) : s.stallExpires =
      (s.timeoutAccess a).dropPending.postFault .stallDiscard (some loc.dev) (some loc.page) none := by
  simp only [State.stallExpires, access, phase, here, Option.map_some]

theorem State.stallExpires_heldRead {s : State} {a : Access} (access : s.hp.access = some a) (phase : a.phase = .heldRead) :
    s.stallExpires = (s.timeoutAccess a).closeHostRead := by
  simp only [State.stallExpires, access, phase]

theorem State.stallExpires_heldRead_waiting {s : State} {a : Access} (access : s.hp.access = some a)
    (phase : a.phase = .heldRead) {r : HostRead} (host : s.rp.host = some r) {p : ReadPhase} (hp : r.phase = p)
    (waiting : p ≠ .transfer) : s.stallExpires = (s.timeoutAccess a).readWithdrawn.endSuspendOf r.loc.dev p := by
  subst hp
  exact (State.stallExpires_heldRead access phase).trans (State.closeHostRead_of_waiting host waiting)

/-- Settles O31: the fault queue by its one test, the stall limit by the access's holder and the read's phase, and the seal by
its sequence number. -/
theorem hostLimitsExpire : Obligations.HostLimitsExpire := by
  refine ⟨fun s kind dev page count => ⟨fun room => s.postFault_of_room room .., fun full => s.postFault_of_full full ..⟩,
    fun s a alive access => ?stall, fun s q alive => ?deadline⟩
  case stall =>
    have expires : exec .stallLimitExpiry s = .next s.stallExpires.settle := congrArg _ (State.event_of_alive alive _)
    have gives {t : State} (h : s.stallExpires = t) : exec .stallLimitExpiry s = .next t.settle :=
      expires.trans (congrArg (fun t : State => Host.Outcome.next t.settle) h)
    refine ⟨fun loc phase here => gives ?_, fun phase => gives ?_, fun r phase host transfer => gives ?_,
      fun r phase host => ⟨fun queued => gives ?_, fun c asked ctx suspended step => ⟨fun waits => gives ?_, fun sent => gives ?_⟩,
        fun c held ctx suspended step takes => gives ?_⟩⟩
    · exact State.stallExpires_heldBuffer access phase here
    · simp only [State.stallExpires, access, phase]
      rfl
    · rw [State.stallExpires_heldRead access phase, State.closeHostRead_of_transfer (by exact host) transfer]
      rfl
    · rw [State.stallExpires_heldRead_waiting access phase host queued (by simp), State.endSuspendOf_queued]
      rfl
    · rw [State.stallExpires_heldRead_waiting access phase host asked (by simp), State.endSuspendOf_asked,
        State.requesterGone_of_waiting (by exact ctx) suspended step (by exact waits)]
      rfl
    · rw [State.stallExpires_heldRead_waiting access phase host asked (by simp), State.endSuspendOf_asked,
        State.requesterGone_of_sent (by exact ctx) suspended step (by exact sent)]
      rfl
    · rw [State.stallExpires_heldRead_waiting access phase host held (by simp), State.endSuspendOf_held,
        State.requesterGone_of_held (by exact ctx) suspended step (by exact takes)]
      rfl
  case deadline =>
    refine congrArg _ ((State.event_of_alive alive _).trans (congrArg State.settle ?_))
    simp only [State.sealWhere, decide_eq_true_eq]
    rfl

end Sys2Proof.Machine
end

section
/-! The work of a device: a withdrawn refill (R40), programs and resets that start (R51, R125, R129), and status polls (R128). -/

namespace Sys2Proof.Machine

/- One theorem after another: waiting ones would each hold a thread. -/
set_option Elab.async false

/-! ### A withdrawn refill (R40) -/

theorem State.dropRefill_of_other {s : State} {p : Loc → Bool} (h : ∀ l, s.rp.refill = some l → p l = false) :
    s.dropRefill p = s := by
  unfold State.dropRefill
  split
  · rfl
  · next l hl => exact if_neg (by simp [h l hl])

theorem State.dropRefill_of_named {s : State} {p : Loc → Bool} {l : Loc} (refill : s.rp.refill = some l) (named : p l = true) :
    s.dropRefill p = { s with
      rp := { s.rp with refill := none }
      mp := { s.mp with reqs := s.mp.reqs.filter (fun q => q.requester ≠ .refill) } } := by
  rw [s.dropRefill_eq, refill]
  simp [named]

/-! The withdrawal touches the refill and its request alone, so that other changes may come before it. -/

theorem State.dropRefill_setCtx (s : State) (p : Loc → Bool) (d : Dev) (c : Option Ctx) :
    (s.dropRefill p).setCtx d c = (s.setCtx d c).dropRefill p := by
  rw [s.dropRefill_eq, (s.setCtx d c).dropRefill_eq]
  rfl

theorem State.dropRefill_forgetAsked (s : State) (p : Loc → Bool) (d : Dev) :
    (s.dropRefill p).forgetAsked d = (s.forgetAsked d).dropRefill p := by
  rw [s.dropRefill_eq, (s.forgetAsked d).dropRefill_eq]
  rfl

theorem State.dropRefill_freeWhere (s : State) (p : Loc → Bool) (q : Entry → Bool) :
    (s.dropRefill p).freeWhere q = (s.freeWhere q).dropRefill p := by
  rw [s.dropRefill_eq, (s.freeWhere q).dropRefill_eq]
  rfl

theorem State.dropRefill_count (s : State) (p : Loc → Bool) (c : Counter) (n : Nat) :
    (s.dropRefill p).count c n = (s.count c n).dropRefill p := by
  rw [s.dropRefill_eq, (s.count c n).dropRefill_eq]
  rfl

@[simp] theorem State.dropRefill_ctx (s : State) (p : Loc → Bool) (d : Dev) : (s.dropRefill p).ctx d = s.ctx d := by
  simp [State.ctx]

/-! ### Device records -/

theorem State.dev_setDev_same (s : State) (d : Dev) (r : DevRecord) : (s.setDev d r).dev d = r := PerDev.get_set_same ..

theorem State.mayQueue_iff (s : State) (r : Request) : s.mayQueue r = true ↔
    r.requester = .probe ∨ (s.dev r.dev).owner = some .probe ∨ (s.dev r.dev).takes = true := by
  simp [State.mayQueue, or_assoc]

/-! ### A transfer ends (R120) -/

/-- The bus as the outcome of its transfer finds it. -/
def State.busFree (s : State) : State := s.setMp { s.mp with bus := none }

section
variable {s : State} {t : Transfer} (bus : s.mp.bus = some t)
include bus

theorem State.transferEnds_program {page : Nat} {bytes : List (Option Byte)}
    (cmd : t.req.cmd = .programMasked page bytes ∨ ∃ b, t.req.cmd = .programPage page b ∧ bytes = b.map some)
    (answer : BusAnswer) :
    s.transferEnds answer = s.busFree.programTaken t.req.requester t.req.dev page bytes := by
  rcases cmd with cmd | ⟨b, cmd, rfl⟩
  · simp only [State.transferEnds, bus, cmd]
    rfl
  · simp only [State.transferEnds, bus, cmd]
    rfl

theorem State.transferEnds_deviceReset (cmd : t.req.cmd = .deviceReset) (answer : BusAnswer) :
    s.transferEnds answer = s.busFree.resetTaken t.req.requester t.req.dev := by
  simp only [State.transferEnds, bus, cmd]
  rfl

theorem State.transferEnds_readStatus (cmd : t.req.cmd = .readStatus) (answer : BusAnswer) :
    s.transferEnds answer = s.busFree.statusReturned t.req.dev (answerStatus answer) := by
  simp only [State.transferEnds, bus, cmd]
  rfl

end

/-! ### A program starts (R51, R91, R125) -/

/-- The state once a device programs, but for a refill of it that is withdrawn and for what the engine notes. -/
def State.runs (s : State) (d : Dev) (page : Nat) (bytes : List (Option Byte)) (owner : Owner) (muTime : Option Nat) : State :=
  { s with
    nvm := s.nvm.set d { s.nvm.get d with running := some { page := page, bytes := bytes } }
    rp := { s.rp with
      host := s.rp.host.map (fun r => if r.loc.dev = d then { r with asked := false } else r)
      fetch := s.rp.fetch.map (fun r => if r.loc.dev = d then { r with asked := false } else r) }
    mp := { s.mp with
      bus := none
      devs := s.mp.devs.set d { s.dev d with
        activity := .programming, owner := some owner, page := some page, poll := some 10, resetDeadline := none
        muProgramTime := muTime } } }

theorem State.programTaken_mu (s : State) (d : Dev) (page : Nat) (bytes : List (Option Byte)) :
    s.busFree.programTaken .mu d page bytes = (s.runs d page bytes .mu (some 0)).dropRefill (fun l => l.dev = d) := by
  unfold State.programTaken
  dsimp only
  rw [if_neg (by simp), State.turnBusy, State.dropRefill_forgetAsked]
  rfl

theorem State.programTaken_engine (s : State) (d : Dev) (page : Nat) (bytes : List (Option Byte)) :
    s.busFree.programTaken .engine d page bytes =
      ((s.runs d page bytes .engine none).dropRefill (fun l => l.dev = d)).programStarts d := by
  unfold State.programTaken
  dsimp only
  rw [if_pos rfl, State.turnBusy, State.dropRefill_forgetAsked]
  rfl

/-- A batch program begins its counts; a spare's begins its time alone (log 45). -/
theorem State.programStarts_eq {s : State} {d : Dev} {c c' : Ctx} (ctx : s.ctx d = some c)
    (starts : c.phase = .programming ∧ c' = { c with
        started := true, programTime := 0, suspendsUsed := 0, suspendSent := false, ackTime := none } ∨
      c.phase = .retireProgram ∧ c' = { c with programTime := 0, suspendSent := false, ackTime := none }) :
    s.programStarts d = s.setCtx d (some c') := by
  rcases starts with ⟨phase, rfl⟩ | ⟨phase, rfl⟩
  · simp [State.programStarts, ctx, phase]
  · simp [State.programStarts, ctx, phase]

/-! ### A reset starts (R125, R129) -/

theorem State.nvmSpoil_setMp (s : State) (m : MemoryPort) (d : Dev) :
    (s.setMp m).nvmSpoil d = { s with nvm := (s.nvmSpoil d).nvm, indet := (s.nvmSpoil d).indet, mp := m } := by
  cases h : (s.nvm.get d).running with
  | none => simp [State.nvmSpoil, h, State.setMp]
  | some r => simp [State.nvmSpoil, h, State.setMp, State.setNvm, State.setIndet]

theorem State.resetTaken_eq (s : State) {q : Requester} {o : Owner} (owner : q = .engine ∧ o = .engine ∨ q = .mu ∧ o = .mu)
    (d : Dev) : s.busFree.resetTaken q d = ({ s with
      nvm := (s.nvmSpoil d).nvm, indet := (s.nvmSpoil d).indet
      mp := { s.mp with
        bus := none
        devs := s.mp.devs.set d { s.dev d with
          activity := .resetting, owner := some o, page := none, poll := some 10, resetDeadline := some 1000
          muProgramTime := none } } } : State).dropRefill (fun l => l.dev = d) := by
  rcases owner with ⟨rfl, rfl⟩ | ⟨rfl, rfl⟩
  · unfold State.resetTaken
    dsimp only
    rw [if_neg (by simp), State.busFree, State.nvmSpoil_setMp]
    rfl
  · unfold State.resetTaken
    dsimp only
    rw [if_neg (by simp), State.busFree, State.nvmSpoil_setMp]
    rfl

/-! ### Status results (R128) -/

theorem State.statusReturned_again {s : State} {d : Dev} {r : StatusResult}
    (busy : (s.dev d).activity = .programming ∨ (s.dev d).activity = .resetting) (result : r = .busy ∨ r = .invalid) :
    s.statusReturned d r = s.pollAgain d := by
  rcases busy with busy | busy <;> rcases result with rfl | rfl <;> simp only [State.statusReturned, busy]

theorem State.nvmPass_setMp (s : State) (m : MemoryPort) (d : Dev) :
    (s.setMp m).nvmPass d = { s with nvm := (s.nvmPass d).nvm, mp := m } := by
  cases h : (s.nvm.get d).running with
  | none => simp [State.nvmPass, h, State.setMp]
  | some r => simp [State.nvmPass, h, State.setMp, State.setNvm]

theorem State.programReady_engine {s : State} {d : Dev} (owner : (s.dev d).owner = some .engine)
    (unordered : s.resetOrdered d = false) :
    s.programReady d true = ((s.nvmPass d).setDev d (s.dev d).toIdle).programCompletes d true := by
  refine (if_neg (by simp [unordered])).trans ?_
  simp only [owner]
  rfl

theorem State.programCompletes_batch {s : State} {d : Dev} {c : Ctx} (ctx : s.ctx d = some c) (phase : c.phase = .programming) :
    s.programCompletes d true = s.batchPasses d c := by
  have kept : s.giveUpSuspend d c = s := if_neg (by simp [phase])
  simp only [State.programCompletes, ctx, phase, kept]
  rfl

theorem State.batchPasses_eq (s : State) (d : Dev) (c : Ctx) : s.batchPasses d c = ({ s with
    rp := { s.rp with lines := s.rp.lines.filter (fun r => !(r.loc.dev = d && r.loc.page = c.home)) }
    pwb := { s.pwb with entries := s.pwb.entries.filter (fun e =>
      !(e.loc.dev = d && e.state = .draining && c.entrySet.contains e.seq)) }
    mgp := { s.mgp with counters := s.mgp.counters.raise .programsCompleted 1 }
    de := s.de.set d { s.de.get d with ctx := none } } : State).dropRefill (fun l => l.dev = d && l.page = c.home) := by
  rw [State.batchPasses, State.invalidate, State.dropRefill_freeWhere, State.dropRefill_count, State.dropRefill_setCtx]
  rfl

/-- Settles O38: each end of a transfer by the command it carried, and the withdrawal of a refill put last. -/
theorem statusPolls : Obligations.StatusPolls := by
  have ends {s t : State} {answer : BusAnswer} (alive : s.alive = true) (h : s.transferEnds answer = t) :
      exec (.memoryTransferEnd answer) s = .next t.settle :=
    congrArg _ ((State.event_of_alive alive _).trans (congrArg State.settle h))
  refine ⟨fun s p => ⟨State.dropRefill_of_other, fun l => State.dropRefill_of_named⟩, ?program, ?reset, ?status, ?poll⟩
  case program =>
    rintro s t d page bytes answer alive bus rfl cmd
    have taken := State.transferEnds_program bus cmd answer
    refine ⟨fun mu => ends alive ?_, fun c c' engine ctx starts => ends alive ?_⟩
    · rw [taken, mu]
      exact s.programTaken_mu ..
    · rw [taken, engine, State.programTaken_engine, State.programStarts_eq (by rw [State.dropRefill_ctx]; exact ctx) starts,
        State.dropRefill_setCtx]
      rfl
  case reset =>
    rintro s t d answer alive bus (req | req)
    · refine ends alive ?_
      rw [State.transferEnds_deviceReset bus (by rw [req]), req]
      exact s.resetTaken_eq (.inl ⟨rfl, rfl⟩) d
    · refine ends alive ?_
      rw [State.transferEnds_deviceReset bus (by rw [req]), req]
      exact s.resetTaken_eq (.inr ⟨rfl, rfl⟩) d
  case status =>
    rintro s t d alive bus cmd rfl
    refine ⟨fun answer busy result => ends alive ?_, fun c busy owner unordered ctx phase => ends alive ?_⟩
    · rw [State.transferEnds_readStatus bus cmd]
      refine State.statusReturned_again (by exact busy) ?_
      rcases result with rfl | rfl
      · exact .inl rfl
      · exact .inr rfl
    · rw [State.transferEnds_readStatus bus cmd]
      have programming : (s.busFree.dev t.req.dev).activity = .programming := busy
      have free : s.busFree.resetOrdered t.req.dev = false := by
        have waits : s.busFree.waits (isResetOf t.req.dev) = false := unordered
        rw [State.resetOrdered, waits]
        rfl
      simp only [State.statusReturned, programming, answerStatus]
      rw [State.programReady_engine (by exact owner) free, State.busFree, State.nvmPass_setMp,
        State.programCompletes_batch (by exact ctx) phase, State.batchPasses_eq]
      rfl
  case poll =>
    intro s d alive poll waits bus queues
    refine congrArg _ ((State.event_of_alive alive _).trans (congrArg State.settle ?_))
    refine (if_pos ⟨poll, waits, bus⟩).trans ?_
    have joins : (s.setDev d { s.dev d with poll := some 0 }).mayQueue ⟨.port, d, .readStatus⟩ = true := by
      rw [State.mayQueue_iff]
      refine .inr ?_
      simp only [State.dev_setDev_same]
      exact queues.symm
    rw [State.join, if_pos joins]
    rfl

end Sys2Proof.Machine
end

section
/-! A quiet part (R65, R125), the end of the hold-up (R167, R168), and the internal cold resets (R163, R165). -/

namespace Sys2Proof.Machine

/- One theorem after another: waiting ones would each hold a thread. -/
set_option Elab.async false

/-! ### Quiet (R65, R125) -/

theorem DevRecord.takes_eq_false_iff {r : DevRecord} : r.takes = false ↔ r.state = .absent ∨ r.state = .offline := by
  unfold DevRecord.takes
  cases r.state <;> decide

theorem State.onBus_eq_false_iff {s : State} {p : Request → Bool} :
    s.onBus p = false ↔ ∀ t, s.mp.bus = some t → p t.req = false := by
  unfold State.onBus
  cases s.mp.bus <;> simp

theorem State.waits_eq_false_iff {s : State} {p : Request → Bool} : s.waits p = false ↔ ∀ q ∈ s.mp.reqs, p q = false := by
  simp [State.waits]

theorem isFrom_eq_false_iff {q : Requester} {d : Dev} {r : Request} :
    isFrom q d r = false ↔ ¬(r.requester = q ∧ r.dev = d) := by
  simp [isFrom]

theorem State.deviceQuiet_iff {s : State} {d : Dev} : s.deviceQuiet d = true ↔
    (s.dev d).state = .absent ∨ (s.dev d).state = .offline ∨
      (s.dev d).activity = .idle ∧ ∀ t, s.mp.bus = some t → t.req.dev ≠ d := by
  simp [State.deviceQuiet, DevRecord.takes_eq_false_iff, State.onBus_eq_false_iff, or_assoc]

theorem State.engineQuiet_iff {s : State} {d : Dev} : s.engineQuiet d = true ↔
    (∀ q ∈ s.mp.reqs, ¬(q.requester = .engine ∧ q.dev = d)) ∧
      (∀ t, s.mp.bus = some t → ¬(t.req.requester = .engine ∧ t.req.dev = d)) ∧ (s.dev d).owner ≠ some .engine := by
  simp only [State.engineQuiet, Bool.and_eq_true, Bool.not_eq_true', State.waits_eq_false_iff, State.onBus_eq_false_iff,
    isFrom_eq_false_iff, bne_iff_ne, and_assoc]

theorem Dev.forall {p : Dev → Prop} : (∀ d, p d) ↔ p .d0 ∧ p .d1 :=
  ⟨fun h => ⟨h .d0, h .d1⟩, fun ⟨h0, h1⟩ d => by cases d; exacts [h0, h1]⟩

theorem State.quiet_iff {s : State} : s.quiet = true ↔
    s.mu.op = none ∧ ∀ d, s.deviceQuiet d = true ∧ s.engineQuiet d = true := by
  simp only [State.quiet, Bool.and_eq_true, Option.isNone_iff_eq_none, Dev.forall]
  tauto

/-! ### The end of the hold-up (R167, R168) -/

theorem dumpRecords_eq_mapIdx (es : List Entry) (k : Nat) : dumpRecords es k =
    es.mapIdx (fun i e => { ordinal := i + k, loc := e.loc, wt := e.wt, bytes := e.bytes }) := by
  induction es generalizing k with
  | nil => rfl
  | cons e es ih => simp [dumpRecords, ih, List.mapIdx_cons, Nat.add_right_comm, Nat.add_assoc]

/-- With the PFAIL view asserted the return does not begin (R171). -/
theorem State.enterDumped_of_pfail {s : State} (pfail : s.sc.pfail = true) : s.enterDumped = { s with
    sc := { s.sc with state := .dumped, step := none, plan := none, returnWrite := false } } := by
  unfold State.enterDumped
  exact if_pos pfail

theorem State.occupancy_eq_zero_iff {s : State} : s.occupancy = 0 ↔ s.pwb.entries = [] := List.length_eq_zero_iff

theorem State.holdupEnds_of_empty {s : State} (empty : s.pwb.entries = []) : s.holdupEnds = s.enterDumped :=
  if_pos (State.occupancy_eq_zero_iff.mpr empty)

theorem State.holdupEnds_of_takes {s : State} (some : s.pwb.entries ≠ []) (takes : (s.dev .d0).takes = true) :
    s.holdupEnds = { s with
      sc := { s.sc with
        state := .dumping
        plan := .some { records := dumpRecords s.pwb.entries 1, reached := .dumpPage 0 } }
      mu := { s.mu with waiting := .some (.dumpPage 0) } } := by
  unfold State.holdupEnds
  rw [if_neg (mt State.occupancy_eq_zero_iff.mp some), if_pos takes]
  rfl

theorem State.declareLost_all (s : State) : s.declareLost (fun _ => true) = { s with
    pwb := { s.pwb with entries := [] }
    fu := s.fu.markLost (s.pwb.entries.map Entry.seq)
    mgp := { s.mgp with counters := s.mgp.counters.raise .entriesLost s.pwb.entries.length } } := by
  simp [State.declareLost, State.freeWhere, State.count, State.setPwb, State.setMgp, State.setFu]

theorem State.postFault_enterDumped {s : State} (pfail : s.sc.pfail = true) (c : FaultKind) (d : Option Dev)
    (page count : Option Nat) : (s.postFault c d page count).enterDumped = s.enterDumped.postFault c d page count := by
  rw [State.enterDumped_of_pfail pfail, State.enterDumped_of_pfail (by simpa using pfail)]
  rcases lt_or_ge s.mgp.faults.length Config.faultRecords with room | full
  · rw [State.postFault_of_room room, State.postFault_of_room (by exact room)]
  · rw [State.postFault_of_full full, State.postFault_of_full (by exact full)]

theorem State.holdupEnds_of_lost {s : State} (some : s.pwb.entries ≠ []) (takes : (s.dev .d0).takes = false)
    (pfail : s.sc.pfail = true) : s.holdupEnds = ({ s with
      sc := { s.sc with state := .dumped, step := none, plan := none, returnWrite := false }
      pwb := { s.pwb with entries := [] }
      fu := s.fu.markLost (s.pwb.entries.map Entry.seq)
      de := ⟨{ s.de.d0 with ctx := none }, { s.de.d1 with ctx := none }⟩
      mgp := { s.mgp with counters := s.mgp.counters.raise .entriesLost s.pwb.entries.length } } : State).postFault
        .dumpImpossible (.some .d0) none (.some s.pwb.entries.length) := by
  unfold State.holdupEnds
  rw [if_neg (mt State.occupancy_eq_zero_iff.mp some), if_neg (by simp [takes])]
  dsimp only
  rw [State.declareLost_all, State.postFault_enterDumped (by exact pfail), State.enterDumped_of_pfail (by exact pfail)]
  rfl

/-! ### The internal cold reset (R163, R165, R176) -/

theorem State.internalReset_internalResetOf (s : State) : internalResetOf s s.internalReset :=
  ⟨⟨⟨rfl, rfl, rfl, rfl, rfl, rfl, rfl, rfl⟩, rfl, rfl, rfl⟩, ⟨rfl, rfl, rfl, rfl, rfl, rfl, rfl⟩, rfl, rfl, rfl⟩

/-- Settles O54: the condition of each end holds, and the end is what its state's lemma says. -/
theorem stateEnds : Obligations.StateEnds := by
  refine ⟨fun s => ?quiet,
    fun s alive state quiet pfail => ⟨fun empty => ?empty, fun entries takes => ?dump, fun entries gone => ?lost⟩,
    fun s alive state quiet pfail => ⟨s.internalReset, ?stopped, s.internalReset_internalResetOf⟩,
    fun s alive state empty op config remap => ⟨s.internalReset, ?restart, s.internalReset_internalResetOf⟩,
    fun s alive state empty waiting op => ?replay⟩
  case quiet =>
    simp only [State.quiet_iff, State.deviceQuiet_iff, State.engineQuiet_iff]
  case empty =>
    have due : s.holdupEnd = some s.holdupEnds := if_pos ⟨state, quiet⟩
    rw [State.holdupEnds_of_empty empty, State.enterDumped_of_pfail pfail] at due
    exact congrArg _ (State.named_of_due alive due)
  case dump =>
    have due : s.holdupEnd = some s.holdupEnds := if_pos ⟨state, quiet⟩
    rw [State.holdupEnds_of_takes entries takes, dumpRecords_eq_mapIdx] at due
    exact congrArg _ (State.named_of_due alive due)
  case lost =>
    have due : s.holdupEnd = some s.holdupEnds := if_pos ⟨state, quiet⟩
    rw [State.holdupEnds_of_lost entries gone pfail] at due
    exact congrArg _ (State.named_of_due alive due)
  case stopped =>
    exact congrArg _ (State.named_of_due alive (if_pos ⟨state, quiet, pfail⟩))
  case restart =>
    exact congrArg _ (State.named_of_due alive (if_pos ⟨state, State.occupancy_eq_zero_iff.mpr empty, op, config, remap⟩))
  case replay =>
    exact congrArg _ (State.named_of_due alive
      (if_pos ⟨state, State.occupancy_eq_zero_iff.mpr empty, waiting, op 1, op 2⟩))

end Sys2Proof.Machine
end

section
/-! The header report at boot, and the replay load (R151, R152, R157 to R160). -/

namespace Sys2Proof.Machine

/- One theorem after another: waiting ones would each hold a thread. -/
set_option Elab.async false

/-! ### What the report leads to (R158) -/

theorem State.resumeEngine_of_idle {s : State} {d : Dev} (ctx : s.ctx d = none) :
    s.resumeEngine d = s.setDe (s.de.set d { ctx := none, stopping := false }) := by
  have engine : { s.de.get d with stopping := false } = ({ ctx := none, stopping := false } : Engine) :=
    congrArg (Engine.mk · false) ctx
  have none_left : (s.setDe (s.de.set d { ctx := none, stopping := false })).ctx d = none := by
    cases d <;> rfl
  simp only [State.resumeEngine, engine, none_left]

/-- RUN is entered with no engine to resume (R162). -/
theorem State.enterRun_of_idle {s : State} (idle0 : s.ctx .d0 = none) (idle1 : s.ctx .d1 = none) : s.enterRun = { s with
    de := ⟨{ ctx := none, stopping := false }, { ctx := none, stopping := false }⟩
    sc := { s.sc with state := .run, step := none, returnWrite := false, plan := none } } := by
  unfold State.enterRun
  rw [State.resumeEngine_of_idle (d := .d0) (by exact idle0), State.resumeEngine_of_idle (d := .d1) (by exact idle1)]
  rfl

/-- The CLEAN write may be asked for before the fault record is posted (R159). -/
theorem State.postFault_bootCleanWrite (s : State) (k : FaultKind) (d : Option Dev) (page count : Option Nat) :
    (s.postFault k d page count).bootCleanWrite = s.bootCleanWrite.postFault k d page count := by
  rcases lt_or_ge s.mgp.faults.length Config.faultRecords with room | full
  · rw [State.postFault_of_room room, State.postFault_of_room (by exact room)]
    rfl
  · rw [State.postFault_of_full full, State.postFault_of_full (by exact full)]
    rfl

/-! ### The header read (R151, R152) -/

/-- The metadata unit's request joins while device 0 takes transfers (R124). -/
theorem State.muRequest_of_takes {s : State} (takes : (s.dev .d0).takes = true) (cmd : Cmd) :
    s.muRequest cmd = { s with mp := { s.mp with reqs := s.mp.reqs ++ [⟨.mu, .d0, cmd⟩] } } :=
  if_pos (State.mayQueue_of_takes takes)

/-- A dump page is asked for: page 8182 from line 2 on, and any other whole (R152). -/
theorem State.readDumpPage_of_takes {s : State} (takes : (s.dev .d0).takes = true) (n : Nat) (crc : Word32)
    (bytes : List Byte) (k : Nat) : s.readDumpPage n crc bytes k = { s with
      mp := { s.mp with reqs := s.mp.reqs ++
        [⟨.mu, .d0, if k = 0 then .read Config.headerPage 2 14 else .read (Config.headerPage + k) 0 16⟩] }
      mu := { s.mu with op := some (.recordRead n crc bytes k) } } :=
  State.muRequest_of_takes (by exact takes) _

section
variable {s : State} {bytes : List Byte}

theorem State.headerRead_clean (code : field bytes 0 4 = 0x6D2B0001) :
    s.headerRead bytes = (s.setOp none).headerReported .clean := by
  simp [State.headerRead, code, cleanCode]

theorem State.headerRead_open (code : field bytes 0 4 = 0x6D2B0002) :
    s.headerRead bytes = (s.setOp none).headerReported .openDump := by
  simp [State.headerRead, code, cleanCode, openCode]

theorem State.headerRead_unrecognised (clean : field bytes 0 4 ≠ 0x6D2B0001) (opened : field bytes 0 4 ≠ 0x6D2B0002)
    (valid : field bytes 0 4 ≠ 0x6D2B0003) : s.headerRead bytes = (s.setOp none).headerReported .unrecognised := by
  simp [State.headerRead, clean, opened, valid, cleanCode, openCode, validCode]

theorem State.headerRead_records (code : field bytes 0 4 = 0x6D2B0003) (some : 1 ≤ field bytes 4 1)
    (few : field bytes 4 1 ≤ 32) : s.headerRead bytes =
      (s.setOp none).readDumpPage (field bytes 4 1) (BitVec.ofNat 32 (field bytes 8 4)) [] 0 := by
  simp [State.headerRead, code, some, few, cleanCode, openCode, validCode]

theorem State.headerRead_miscounted (code : field bytes 0 4 = 0x6D2B0003)
    (count : field bytes 4 1 = 0 ∨ 32 < field bytes 4 1) :
    s.headerRead bytes = (s.setOp none).headerReported .validBad := by
  have outside : ¬(1 ≤ field bytes 4 1 ∧ field bytes 4 1 ≤ 32) := by omega
  simp [State.headerRead, code, outside, cleanCode, openCode, validCode]

/-! ### The records read (R152) -/

/-- Up to record 30 a dump page begins at a multiple of 10, as the first record of page 8183 does. -/
theorem dumpPageFirst_succ {k : Nat} (h : k < 3) : dumpPageFirst (k + 1) = 10 * (k + 1) := by
  interval_cases k <;> rfl

variable {total : Nat} {crc : Word32} {kept : List Byte} {k : Nat}

theorem State.recordsRead_more (more : k < 3) (reach : 10 * (k + 1) ≤ total) : s.recordsRead total crc kept k bytes =
    s.readDumpPage total crc (kept ++ dumpPageRead k bytes) (k + 1) := by
  have next : dumpPageFirst (k + 1) ≤ total ∧ k < 3 := ⟨(dumpPageFirst_succ more).trans_le reach, more⟩
  exact if_pos next

theorem State.recordsRead_last (last : k = 3 ∨ k < 3 ∧ total < 10 * (k + 1)) : s.recordsRead total crc kept k bytes =
    (s.setOp none).headerReported (s.recordsReport total crc (kept ++ dumpPageRead k bytes)) := by
  have none_left : ¬(dumpPageFirst (k + 1) ≤ total ∧ k < 3) := by
    rintro ⟨reach, more⟩
    rw [dumpPageFirst_succ more] at reach
    omega
  exact if_neg none_left

/-! ### The end of the unit's read -/

theorem State.transferEnds_muRead {t : Transfer} {page line n : Nat} (bus : s.mp.bus = some t)
    (req : t.req = ⟨.mu, .d0, .read page line n⟩) (answer : BusAnswer) :
    s.transferEnds answer = s.busFree.muReadEnds ((s.nvm.get .d0).readBytes page line n) := by
  simp only [State.transferEnds, bus, req]
  rfl

theorem State.muReadEnds_header (boot : s.sc.state = .boot) (op : s.mu.op = some .headerRead) :
    s.muReadEnds bytes = s.headerRead bytes := by
  simp [State.muReadEnds, boot, op]

theorem State.muReadEnds_records (boot : s.sc.state = .boot) (op : s.mu.op = some (.recordRead total crc kept k)) :
    s.muReadEnds bytes = s.recordsRead total crc kept k bytes := by
  simp [State.muReadEnds, boot, op]

end

/-- Settles O51: by what the header and the records say, each case the report that the unit makes of it. -/
theorem headerReports : Obligations.HeaderReports := by
  intro s t page line n answer alive bus req boot takes idle0 idle1
  dsimp only
  generalize hbytes : (s.nvm.get .d0).readBytes page line n = bytes
  have ends {u : State} (h : s.busFree.muReadEnds bytes = u) : exec (.memoryTransferEnd answer) s = .next u.settle := by
    have ended : s.transferEnds answer = u := by rw [State.transferEnds_muRead bus req, hbytes, h]
    exact congrArg _ ((State.event_of_alive alive _).trans (congrArg State.settle ended))
  have header (op : s.mu.op = some .headerRead) : s.busFree.muReadEnds bytes = s.busFree.headerRead bytes :=
    State.muReadEnds_header (by exact boot) (by exact op)
  have records {total crc kept k} (op : s.mu.op = some (.recordRead total crc kept k)) :
      s.busFree.muReadEnds bytes = s.busFree.recordsRead total crc kept k bytes :=
    State.muReadEnds_records (by exact boot) (by exact op)
  refine ⟨fun op => ⟨?clean, ?opened, ?unknown, ?valid, ?miscounted⟩, ?more, ?last⟩
  case clean =>
    intro code
    refine ends ?_
    rw [header op, State.headerRead_clean code]
    exact State.enterRun_of_idle idle0 idle1
  case opened =>
    intro code
    refine ends ?_
    rw [header op, State.headerRead_open code]
    exact State.postFault_bootCleanWrite ..
  case unknown =>
    intro clean opened valid
    refine ends ?_
    rw [header op, State.headerRead_unrecognised clean opened valid]
    rfl
  case valid =>
    intro code some few
    refine ends ?_
    rw [header op, State.headerRead_records code some few,
      State.readDumpPage_of_takes (by exact takes)]
    rfl
  case miscounted =>
    intro code count
    refine ends ?_
    rw [header op, State.headerRead_miscounted code count]
    exact State.postFault_bootCleanWrite ..
  case more =>
    intro total crc kept k op more reach
    refine ends ?_
    rw [records op, State.recordsRead_more more reach, State.readDumpPage_of_takes (by exact takes),
      if_neg (Nat.succ_ne_zero k)]
    rfl
  case last =>
    intro total crc kept k op last
    have reads : s.busFree.muReadEnds bytes = ((s.busFree.setOp none).headerReported
        (s.recordsReport total crc (kept ++ dumpPageRead k bytes))) := by
      rw [records op, State.recordsRead_last last]
      rfl
    refine ⟨fun loaded good => ends ?_, fun bad => ends ?_⟩
    · rw [reads, dumpPageRead, good]
      rfl
    · rw [reads, dumpPageRead, bad]
      exact State.postFault_bootCleanWrite ..

end Sys2Proof.Machine
end

section
/-! What the metadata unit's loss leaves alone (R133, R149). A device goes OFFLINE with its engine empty. What may follow, up to a
restart given up and the engines resumed in RUN (R164), is work for the other device, and touches nothing of the lost one. -/

namespace Sys2Proof.Machine

/- One theorem after another: waiting ones would each hold a thread. -/
set_option Elab.async false

/-- The work from `s` to `t` leaves a device alone: its record, its context, and no request of its own that is new. No entry
and no line is new, fault records are only added, no ERR completion is counted, and no metadata fault ends. -/
structure State.SparesDev (d : Dev) (s t : State) : Prop where
  dev     : t.dev d = s.dev d
  ctx     : t.ctx d = s.ctx d
  reqs    : ∀ q ∈ t.mp.reqs, q.dev = d → q ∈ s.mp.reqs
  entries : t.pwb.entries ⊆ s.pwb.entries
  lines   : t.rp.lines ⊆ s.rp.lines
  faults  : s.mgp.faults <+: t.mgp.faults
  errs    : t.mgp.counters.errCompletions = s.mgp.counters.errCompletions
  flags   : ∀ k, (s.mu.slot k).fault = true → (t.mu.slot k).fault = true

theorem State.SparesDev.trans {d : Dev} {s t u : State} (h : s.SparesDev d t) (k : t.SparesDev d u) : s.SparesDev d u where
  dev := k.dev.trans h.dev
  ctx := k.ctx.trans h.ctx
  reqs q hq own := h.reqs q (k.reqs q hq own) own
  entries := List.Subset.trans k.entries h.entries
  lines := List.Subset.trans k.lines h.lines
  faults := h.faults.trans k.faults
  errs := k.errs.trans h.errs
  flags i hi := k.flags i (h.flags i hi)

/-- What an operation has to leave of each block. -/
theorem State.SparesDev.of_frame {d : Dev} {s t : State} (dev : t.dev d = s.dev d := by simp [State.dev])
    (ctx : t.ctx d = s.ctx d := by simp [State.ctx])
    (reqs : ∀ q ∈ t.mp.reqs, q.dev = d → q ∈ s.mp.reqs := by simp +contextual)
    (entries : t.pwb.entries ⊆ s.pwb.entries := by simp) (lines : t.rp.lines ⊆ s.rp.lines := by simp)
    (faults : s.mgp.faults <+: t.mgp.faults := by simp)
    (errs : t.mgp.counters.errCompletions = s.mgp.counters.errCompletions := by simp)
    (flags : ∀ k, (s.mu.slot k).fault = true → (t.mu.slot k).fault = true := by simp) : s.SparesDev d t :=
  ⟨dev, ctx, reqs, entries, lines, faults, errs, flags⟩

section
variable {d e : Dev} (s : State)

theorem State.SparesDev.refl : s.SparesDev d s := .of_frame

/-! ### The shared operations -/

theorem State.setSc_spares (x : StateController) : s.SparesDev d (s.setSc x) := .of_frame
theorem State.setWd_spares (x : WindowDecoder) : s.SparesDev d (s.setWd x) := .of_frame
theorem State.setRu_spares (x : RemapUnit) : s.SparesDev d (s.setRu x) := .of_frame
theorem State.setFu_spares (x : FenceUnit) : s.SparesDev d (s.setFu x) := .of_frame

theorem State.setMu_spares {x : MetadataUnit} (flags : ∀ k, (s.mu.slot k).fault = true → (x.slot k).fault = true) :
    s.SparesDev d (s.setMu x) :=
  .of_frame (flags := flags)

theorem State.setOp_spares (op : Option MuOp) : s.SparesDev d (s.setOp op) :=
  s.setMu_spares fun k h => by cases k <;> exact h

theorem State.askWrite_spares (w : ScWrite) : s.SparesDev d (s.askWrite w) :=
  s.setMu_spares fun k h => by cases k <;> exact h

theorem State.withdraw_spares (p : Request → Bool) : s.SparesDev d (s.withdraw p) :=
  .of_frame (dev := rfl) (reqs := fun _ hq _ => (List.mem_filter.mp hq).1)

theorem State.dropRefill_spares (p : Loc → Bool) : s.SparesDev d (s.dropRefill p) := by
  unfold State.dropRefill
  split
  · exact .refl s
  · split
    · exact .trans (t := s.setRp { s.rp with refill := none }) .of_frame (State.withdraw_spares _ _)
    · exact .refl s

theorem State.invalidate_spares (e : Dev) (page : Nat) : s.SparesDev d (s.invalidate e page) :=
  .trans (t := s.setRp { s.rp with lines := s.rp.lines.filter fun r => !(r.loc.dev = e && r.loc.page = page) })
    (.of_frame (lines := List.filter_subset_self _)) (State.dropRefill_spares _ _)

theorem State.postFault_spares (kind : FaultKind) (dev : Option Dev) (page count : Option Nat) :
    s.SparesDev d (s.postFault kind dev page count) := by
  rcases lt_or_ge s.mgp.faults.length Config.faultRecords with room | full
  · rw [State.postFault_of_room room]
    exact .of_frame (faults := List.prefix_append _ _)
  · rw [State.postFault_of_full full]
    exact .of_frame

theorem State.declareLost_spares (p : Entry → Bool) : s.SparesDev d (s.declareLost p) :=
  .trans (t := s.freeWhere p) (.of_frame (entries := List.filter_subset_self _))
    (.trans (t := (s.freeWhere p).count .entriesLost (s.pwb.entries.filter p).length)
      (.of_frame (faults := List.prefix_rfl) (errs := rfl)) (State.setFu_spares _ _))

/-! ### The engine of the other device -/

theorem State.setDe_spares (other : e ≠ d) (x : Engine) : s.SparesDev d (s.setDe (s.de.set e x)) :=
  .of_frame (ctx := congrArg Engine.ctx (PerDev.get_set_other _ other.symm _))

theorem State.setCtx_spares (other : e ≠ d) (c : Option Ctx) : s.SparesDev d (s.setCtx e c) := s.setDe_spares other _

theorem State.setDev_spares (other : e ≠ d) (r : DevRecord) : s.SparesDev d (s.setDev e r) :=
  .of_frame (dev := PerDev.get_set_other _ other.symm _)

theorem State.join_spares {r : Request} (other : r.dev ≠ d) : s.SparesDev d (s.join r) := by
  unfold State.join
  split
  · refine .of_frame (reqs := fun q hq own => ?_)
    rcases List.mem_append.mp hq with old | new
    · exact old
    · exact absurd (List.mem_singleton.mp new ▸ own) other
  · exact .refl s

theorem State.memoryStep_spares (other : e ≠ d) (c : Ctx) (cmd : Cmd) : s.SparesDev d (s.memoryStep e c cmd) := by
  unfold State.memoryStep
  split
  · exact s.setCtx_spares other _
  · exact (s.setCtx_spares other _).trans (State.join_spares _ other)

theorem State.loseContext_spares (other : e ≠ d) (c : Ctx) (kind : FaultKind) : s.SparesDev d (s.loseContext e c kind) :=
  (s.declareLost_spares _).trans <| (State.postFault_spares _ _ _ _ _).trans (State.setCtx_spares _ other _)

theorem State.enterAwait_spares (other : e ≠ d) (c : Ctx) : s.SparesDev d (s.enterAwait e c) := by
  unfold State.enterAwait
  dsimp only
  (repeat' split)
  · exact s.loseContext_spares other _ _
  · exact s.setCtx_spares other _
  · exact s.setCtx_spares other _

theorem State.remapChanged_spares : s.SparesDev d s.remapChanged :=
  (s.setRu_spares _).trans (State.setMu_spares _ fun k h => by cases k <;> exact h)

theorem State.markFailed_spares (e : Dev) (home : Nat) (changed : Bool) : s.SparesDev d (s.markFailed e home changed) := by
  unfold State.markFailed
  dsimp only
  split
  · exact s.setRu_spares _
  · exact (s.setRu_spares _).trans (State.remapChanged_spares _)

theorem State.takeSpare_spares {s t : State} {p : Nat} (h : s.takeSpare e = some (p, t)) : s.SparesDev d t := by
  unfold State.takeSpare at h
  split at h
  · exact nomatch h
  · next rest _ =>
    cases h
    refine (s.setRu_spares { s.ru with free := s.ru.free.set e rest, hold := s.ru.hold.set e (some p) }).trans ?_
    split
    · exact State.postFault_spares _ _ _ _ _
    · exact .refl _

theorem State.unremappable_spares (other : e ≠ d) (c : Ctx) (changed : Bool) :
    s.SparesDev d (s.unremappable e c changed) := by
  unfold State.unremappable
  split
  · exact (s.markFailed_spares _ _ _).trans <| (State.invalidate_spares _ _ _).trans (State.enterAwait_spares _ other _)
  · exact (s.loseContext_spares other c _).trans (State.setDev_spares _ other _)

theorem State.retireProgram_spares (other : e ≠ d) (c : Ctx) (image : List Byte) :
    s.SparesDev d (s.retireProgram e c image) := by
  unfold State.retireProgram
  split
  · exact s.memoryStep_spares other _ _
  · split
    · next h => exact (State.takeSpare_spares h).trans (State.memoryStep_spares _ other _ _)
    · exact s.unremappable_spares other c _

theorem State.retireRead_spares (other : e ≠ d) (c : Ctx) (changed : Bool) : s.SparesDev d (s.retireRead e c changed) := by
  unfold State.retireRead
  split
  · exact s.unremappable_spares other c _
  · split
    · exact s.memoryStep_spares other _ _
    · exact s.retireProgram_spares other c _

theorem State.awaitAgain_spares (other : e ≠ d) (c : Ctx) : s.SparesDev d (s.awaitAgain e c) := by
  unfold State.awaitAgain
  split
  · exact s.loseContext_spares other c _
  · exact s.setCtx_spares other _

theorem State.resumeEngine_spares_other (other : e ≠ d) : s.SparesDev d (s.resumeEngine e) := by
  refine (s.setDe_spares other { s.de.get e with stopping := false }).trans ?_
  unfold State.resumeEngine
  dsimp only
  (repeat' split)
  · exact .refl _
  · exact State.memoryStep_spares _ other _ _
  · exact State.retireRead_spares _ other _ _
  · exact State.retireProgram_spares _ other _ _
  · exact State.retireRead_spares _ other _ _
  · exact State.awaitAgain_spares _ other _
  · exact State.setCtx_spares _ other _
  · exact .refl _

/-! ### RUN entered, with the lost device's engine empty -/

/-- An empty engine has no work to resume (R67). -/
theorem State.resumeEngine_spares {s : State} (empty : s.ctx d = none) (e : Dev) : s.SparesDev d (s.resumeEngine e) := by
  by_cases same : e = d
  · subst same
    rw [State.resumeEngine_of_idle empty]
    refine .of_frame (ctx := ?_)
    rw [empty]
    exact congrArg Engine.ctx (PerDev.get_set_same _ _ _)
  · exact s.resumeEngine_spares_other same

theorem State.enterRun_spares {s : State} (empty : s.ctx d = none) : s.SparesDev d s.enterRun := by
  have controller := s.setSc_spares (d := d) { s.sc with state := .run, step := none, returnWrite := false, plan := none }
  have first := controller.trans (State.resumeEngine_spares (controller.ctx.trans empty) .d0)
  exact first.trans (State.resumeEngine_spares (first.ctx.trans empty) .d1)

theorem State.giveUpRestart_spares {s : State} (empty : s.ctx d = none) : s.SparesDev d s.giveUpRestart := by
  unfold State.giveUpRestart
  split
  · exact State.enterRun_spares empty
  · exact .refl s

/-! ### The metadata unit without device 0 (R148, R149, R153) -/

theorem State.endPersistOf_spares (k : Kind) : s.SparesDev d (s.endPersistOf k) := by
  unfold State.endPersistOf
  (repeat' split)
  · exact (s.withdraw_spares _).trans (State.setOp_spares _ _)
  · exact .refl s
  · exact .refl s

theorem State.tellDecoder_spares (k : Kind) : s.SparesDev d (s.tellDecoder k) := by
  unfold State.tellDecoder
  split
  · exact s.setWd_spares _
  · exact .refl s

theorem MetadataUnit.slot_setSlot (m : MetadataUnit) (k i : Kind) (x : SlotStatus) :
    (m.setSlot k x).slot i = if i = k then x else m.slot i := by
  cases i <;> cases k <;> rfl

theorem State.flagFault_slot (k : Kind) : ((s.flagFault k).mu.slot k).fault = true := by
  simp [State.flagFault, State.setMu, MetadataUnit.slot_setSlot]

theorem State.flagFault_spares (k : Kind) : s.SparesDev d (s.flagFault k) :=
  s.setMu_spares fun i h => by
    rw [MetadataUnit.slot_setSlot]
    split
    · rfl
    · exact h

theorem State.raiseFault_spares {s : State} (empty : s.ctx d = none) (k : Kind) : s.SparesDev d (s.raiseFault k) := by
  have told := ((s.flagFault_spares (d := d) k).trans (State.endPersistOf_spares _ k)).trans (State.tellDecoder_spares _ k)
  rw [s.raiseFault_eq]
  exact told.trans (State.giveUpRestart_spares (told.ctx.trans empty))

theorem State.cleanFailed_spares : s.SparesDev d s.cleanFailed :=
  (s.setSc_spares _).trans <| (State.postFault_spares _ _ _ _ _).trans (State.setSc_spares _ _)

theorem State.beginReturn_spares {s : State} (empty : s.ctx d = none) : s.SparesDev d s.beginReturn := by
  unfold State.beginReturn
  split
  · exact State.enterRun_spares empty
  · exact (s.setSc_spares _).trans (State.askWrite_spares _ _)

theorem State.enterDumped_spares {s : State} (empty : s.ctx d = none) : s.SparesDev d s.enterDumped := by
  unfold State.enterDumped
  dsimp only
  split
  · exact s.setSc_spares _
  · exact (s.setSc_spares _).trans (State.beginReturn_spares empty)

theorem State.writeFailed_spares {s : State} (empty : s.ctx d = none) (w : ScWrite) : s.SparesDev d (s.writeFailed w) := by
  have dumpFailed {t : State} (n : Nat) (kept : s.SparesDev d t) :
      s.SparesDev d (t.postFault .dumpFailed (some .d0) (some w.page) (some n)).enterDumped := by
    have posted := kept.trans (t.postFault_spares .dumpFailed (some .d0) (some w.page) (some n))
    exact posted.trans (State.enterDumped_spares (posted.ctx.trans empty))
  unfold State.writeFailed
  split
  · exact s.cleanFailed_spares
  · exact s.cleanFailed_spares
  · dsimp only
    split
    · exact dumpFailed _ (s.setSc_spares _)
    · exact dumpFailed _ (.refl s)
  · exact s.cleanFailed_spares
  · exact .refl s

/-- The unit reports its write failed, or drops what it has in hand (R149). -/
def State.dropOp (s : State) : State :=
  match s.mu.op with
  | some (.write w _) => (s.setOp none).writeFailed w
  | some _ => s.setOp none
  | none => s

theorem State.muOffline_eq : s.muOffline = ((s.raiseFault .config).raiseFault .remap).dropOp := rfl

theorem State.dropOp_spares {s : State} (empty : s.ctx d = none) : s.SparesDev d s.dropOp := by
  unfold State.dropOp
  split
  · exact (s.setOp_spares none).trans (State.writeFailed_spares (by exact empty) _)
  · exact s.setOp_spares none
  · exact .refl s

theorem State.muOffline_spares {s : State} (empty : s.ctx d = none) : s.SparesDev d s.muOffline := by
  have config := State.raiseFault_spares empty .config
  have both := config.trans (State.raiseFault_spares (config.ctx.trans empty) .remap)
  exact both.trans (State.dropOp_spares (both.ctx.trans empty))

end

/-! ### Where the unit's loss leads -/

theorem State.raiseFault_slot {s : State} {d : Dev} (empty : s.ctx d = none) (k : Kind) :
    ((s.raiseFault k).mu.slot k).fault = true := by
  have told := (State.endPersistOf_spares (d := d) (s.flagFault k) k).trans (State.tellDecoder_spares _ k)
  have emptied := (told.ctx.trans (s.flagFault_spares k).ctx).trans empty
  rw [s.raiseFault_eq]
  exact (told.trans (State.giveUpRestart_spares emptied)).flags k (s.flagFault_slot k)

/-- Both kinds are in metadata fault (R149). -/
theorem State.muOffline_fault {s : State} {d : Dev} (empty : s.ctx d = none) (k : Kind) :
    (s.muOffline.mu.slot k).fault = true := by
  have config := State.raiseFault_spares empty .config
  have emptied := config.ctx.trans empty
  have remap := State.raiseFault_spares emptied .remap
  have dropped := State.dropOp_spares (remap.ctx.trans emptied)
  cases k with
  | config => exact dropped.flags .config (remap.flags .config (State.raiseFault_slot empty .config))
  | remap => exact dropped.flags .remap (State.raiseFault_slot emptied .remap)

/-- The operating state but for a restart: a fault gives it up (R164). -/
theorem State.raiseFault_sc (s : State) (k : Kind) : (s.raiseFault k).sc =
    if s.sc.state = .restarting then { s.sc with state := .run, step := none, returnWrite := false, plan := none }
    else s.sc := by
  have kept : ((((s.flagFault k).endPersistOf k).tellDecoder k)).sc = s.sc := by
    rw [State.tellDecoder_sc]
    unfold State.endPersistOf
    (repeat' split) <;> rfl
  rw [s.raiseFault_eq, State.giveUpRestart, kept]
  split
  · rw [State.enterRun_sc, kept]
  · exact kept

/-- A restart ends in RUN, where a write reported failed has no effect (R164). -/
theorem State.muOffline_run {s : State} (restarting : s.sc.state = .restarting) : s.muOffline.sc.state = .run := by
  have run : ((s.raiseFault .config).raiseFault .remap).sc.state = .run := by
    simp [State.raiseFault_sc, restarting]
  rw [s.muOffline_eq, State.dropOp]
  split
  · simp [State.writeFailed, run]
  · simp [run]
  · exact run

end Sys2Proof.Machine
end

section
/-! The loss of a device (R129, R133): what of it is gone, which accesses end with DEVICE_UNAVAILABLE, and what stays. -/

namespace Sys2Proof.Machine

/- One theorem after another: waiting ones would each hold a thread. -/
set_option Elab.async false

/-! ### The parts of the loss, by name -/

/-- The read-ahead records of a device go. -/
def State.linesOffline (s : State) (d : Dev) : State :=
  s.setRp { s.rp with lines := s.rp.lines.filter (fun r => r.loc.dev ≠ d) }

/-- The unfinished fetch of a device goes. -/
def State.fetchOffline (s : State) (d : Dev) : State :=
  match s.rp.fetch with
  | some f => if f.loc.dev = d then s.closeFetch else s
  | none => s

/-- A waiting read of a device completes. -/
def State.hostOffline (s : State) (d : Dev) : State :=
  match s.rp.host with
  | some r => if r.loc.dev = d ∧ r.phase ≠ .transfer then s.closeHostRead.complete (some .deviceUnavailable) 0 else s
  | none => s

theorem State.readsOffline_eq (s : State) (d : Dev) : s.readsOffline d =
    (((s.linesOffline d).dropRefill (fun l => l.dev = d)).fetchOffline d).hostOffline d :=
  rfl

/-- A pending allocation for a device completes. -/
def State.pendingOffline (s : State) (d : Dev) : State :=
  match s.pwb.waiting with
  | some w => if w.loc.dev = d then s.dropPending.complete (some .deviceUnavailable) 0 else s
  | none => s

/-- The device's record, requests, reads and context are gone, its entries not yet. -/
def State.workOffline (s : State) (d : Dev) : State :=
  (((s.setDev d { (s.dev d).toIdle with state := .offline }).readsOffline d).withdraw (fun r => r.dev = d)).setCtx d none

/-- The device is OFFLINE, and the metadata unit does not know of it yet. -/
def State.deviceGone (s : State) (d : Dev) : State :=
  (((s.workOffline d).declareLost (isOfDev d)).pendingOffline d).postFault .deviceOffline (some d) none
    (some ((s.workOffline d).pwb.entries.countP (isOfDev d)))

theorem State.markOffline_eq (s : State) (d : Dev) :
    s.markOffline d = if d = .d0 then (s.deviceGone d).muOffline else s.deviceGone d :=
  rfl

/-! ### What giving up the accesses of a device leaves alone -/

/-- Accesses and requests of a device are given up: the devices, the entries, the lines, the other engine and the units stay,
and the management port counts ERR completions at most. -/
structure State.GivesUp (d : Dev) (s t : State) : Prop where
  devs    : t.mp.devs = s.mp.devs
  others  : ∀ e, e ≠ d → t.ctx e = s.ctx e
  entries : t.pwb.entries = s.pwb.entries
  lines   : t.rp.lines = s.rp.lines
  mu      : t.mu = s.mu
  sc      : t.sc = s.sc
  mgp     : t.mgp = { s.mgp with
    counters := { s.mgp.counters with errCompletions := t.mgp.counters.errCompletions } }

theorem State.GivesUp.trans {d : Dev} {s t u : State} (h : s.GivesUp d t) (k : t.GivesUp d u) : s.GivesUp d u where
  devs := k.devs.trans h.devs
  others e other := (k.others e other).trans (h.others e other)
  entries := k.entries.trans h.entries
  lines := k.lines.trans h.lines
  mu := k.mu.trans h.mu
  sc := k.sc.trans h.sc
  mgp := k.mgp.trans (by rw [h.mgp])

theorem State.GivesUp.faults {d : Dev} {s t : State} (h : s.GivesUp d t) : t.mgp.faults = s.mgp.faults := by rw [h.mgp]

theorem State.GivesUp.faultNumber {d : Dev} {s t : State} (h : s.GivesUp d t) : t.mgp.faultNumber = s.mgp.faultNumber := by
  rw [h.mgp]

theorem State.GivesUp.entriesLost {d : Dev} {s t : State} (h : s.GivesUp d t) :
    t.mgp.counters.entriesLost = s.mgp.counters.entriesLost := by
  rw [h.mgp]

theorem State.GivesUp.of_frame {d : Dev} {s t : State} (devs : t.mp.devs = s.mp.devs := by simp)
    (others : ∀ e, e ≠ d → t.ctx e = s.ctx e := by simp [State.ctx]) (entries : t.pwb.entries = s.pwb.entries := by simp)
    (lines : t.rp.lines = s.rp.lines := by simp) (mu : t.mu = s.mu := by simp) (sc : t.sc = s.sc := by simp)
    (mgp : t.mgp = s.mgp := by simp) : s.GivesUp d t :=
  ⟨devs, others, entries, lines, mu, sc, mgp.trans (by rw [mgp])⟩

section
variable {d : Dev} (s : State)

theorem State.GivesUp.refl : s.GivesUp d s := .of_frame

theorem State.withdraw_givesUp (p : Request → Bool) : s.GivesUp d (s.withdraw p) := .of_frame (devs := rfl)

theorem State.join_givesUp (r : Request) : s.GivesUp d (s.join r) := by
  unfold State.join
  split
  · exact .of_frame
  · exact .refl s

theorem State.setCtx_givesUp (c : Option Ctx) : s.GivesUp d (s.setCtx d c) :=
  .of_frame (others := fun _ other => congrArg Engine.ctx (PerDev.get_set_other _ other _))

theorem State.dropRefill_givesUp (p : Loc → Bool) : s.GivesUp d (s.dropRefill p) := by
  rw [s.dropRefill_eq]
  exact .of_frame

theorem State.requesterGone_givesUp : s.GivesUp d (s.requesterGone d) := by
  unfold State.requesterGone
  (repeat' split)
  · exact .refl s
  · exact (s.withdraw_givesUp _).trans (State.setCtx_givesUp _ _)
  · exact .refl s
  · exact (s.setCtx_givesUp _).trans (State.join_givesUp _ _)
  · exact .refl s

theorem State.endSuspendOf_givesUp (p : ReadPhase) : s.GivesUp d (s.endSuspendOf d p) := by
  unfold State.endSuspendOf
  split
  · exact s.requesterGone_givesUp
  · exact .refl s

theorem State.fetchOffline_givesUp : s.GivesUp d (s.fetchOffline d) := by
  unfold State.fetchOffline
  split
  · next f fetch =>
    split
    · next own =>
      have closed : s.GivesUp d (s.setRp { s.rp with fetch := none }) := .of_frame
      simp only [State.closeFetch, fetch, own]
      exact closed.trans <| (State.withdraw_givesUp _ _).trans (State.endSuspendOf_givesUp _ _)
    · exact .refl s
  · exact .refl s

theorem State.complete_givesUp (err : Option Cause) (data : Half) : s.GivesUp d (s.complete err data) := by
  unfold State.complete
  (repeat' split)
  · exact .refl s
  · exact .of_frame
  · exact ⟨rfl, fun _ _ => rfl, rfl, rfl, rfl, rfl, rfl⟩

theorem State.hostOffline_givesUp : s.GivesUp d (s.hostOffline d) := by
  unfold State.hostOffline
  split
  · next r host =>
    split
    · next own =>
      obtain ⟨rfl, waits⟩ := own
      have closed : s.GivesUp r.loc.dev s.readWithdrawn := ⟨rfl, fun _ _ => rfl, rfl, rfl, rfl, rfl, rfl⟩
      rw [State.closeHostRead_of_waiting host waits]
      exact closed.trans <| (State.endSuspendOf_givesUp _ _).trans (State.complete_givesUp _ _ _)
    · exact .refl s
  · exact .refl s

theorem State.pendingOffline_givesUp : s.GivesUp d (s.pendingOffline d) := by
  unfold State.pendingOffline
  (repeat' split)
  · exact State.GivesUp.trans (t := s.dropPending) (.of_frame (entries := rfl)) (State.complete_givesUp _ _ _)
  · exact .refl s
  · exact .refl s

theorem State.readsOffline_givesUp : (s.linesOffline d).GivesUp d (s.readsOffline d) :=
  ((s.linesOffline d).dropRefill_givesUp _).trans <| (State.fetchOffline_givesUp _).trans (State.hostOffline_givesUp _)

/-- Up to the entries, the loss is of the record and the lines, and gives up the rest. -/
theorem State.workOffline_givesUp (d : Dev) :
    ((s.setDev d { DevRecord.reset with state := .offline }).linesOffline d).GivesUp d (s.workOffline d) :=
  (State.readsOffline_givesUp _).trans <| (State.withdraw_givesUp _ _).trans (State.setCtx_givesUp _ _)

end

/-! ### The device once it is lost -/

theorem State.postFault_faults {s t : State} (faults : t.mgp.faults = s.mgp.faults)
    (number : t.mgp.faultNumber = s.mgp.faultNumber) (k : FaultKind) (d : Option Dev) (page count : Option Nat) :
    (t.postFault k d page count).mgp.faults = (s.postFault k d page count).mgp.faults := by
  rcases lt_or_ge s.mgp.faults.length Config.faultRecords with room | full
  · rw [State.postFault_of_room room, State.postFault_of_room (by rw [faults]; exact room)]
    simp [faults, number]
  · rw [State.postFault_of_full full, State.postFault_of_full (by rw [faults]; exact full)]
    exact faults

theorem State.postFault_counters (s : State) (k : FaultKind) (d : Option Dev) (page count : Option Nat) :
    (s.postFault k d page count).mgp.counters = s.mgp.counters := by
  unfold State.postFault
  split <;> rfl

theorem State.pendingOffline_kept (s : State) (d : Dev) : (s.pendingOffline d).mp = s.mp ∧ (s.pendingOffline d).de = s.de ∧
    (s.pendingOffline d).rp = s.rp := by
  unfold State.pendingOffline
  (repeat' split) <;> simp

section
variable (s : State) (d : Dev)

theorem State.workOffline_ctx : (s.workOffline d).ctx d = none := congrArg Engine.ctx (PerDev.get_set_same _ _ _)

theorem State.deviceGone_mp : (s.deviceGone d).mp = (s.workOffline d).mp := by
  simp [State.deviceGone, State.pendingOffline_kept]

theorem State.deviceGone_rp : (s.deviceGone d).rp = (s.workOffline d).rp := by
  simp [State.deviceGone, State.pendingOffline_kept]

theorem State.deviceGone_de : (s.deviceGone d).de = (s.workOffline d).de := by
  simp [State.deviceGone, State.pendingOffline_kept]

theorem State.deviceGone_devs : (s.deviceGone d).mp.devs = s.mp.devs.set d { DevRecord.reset with state := .offline } := by
  rw [State.deviceGone_mp]
  exact (s.workOffline_givesUp d).devs

theorem State.deviceGone_dev : (s.deviceGone d).dev d = { DevRecord.reset with state := .offline } := by
  rw [State.dev, State.deviceGone_devs, PerDev.get_set_same]

theorem State.deviceGone_dev_other {e : Dev} (other : e ≠ d) : (s.deviceGone d).dev e = s.dev e := by
  rw [State.dev, State.deviceGone_devs, PerDev.get_set_other _ other]
  rfl

theorem State.deviceGone_ctx : (s.deviceGone d).ctx d = none := by
  rw [State.ctx, State.deviceGone_de]
  exact s.workOffline_ctx d

theorem State.deviceGone_ctx_other {e : Dev} (other : e ≠ d) : (s.deviceGone d).ctx e = s.ctx e := by
  rw [State.ctx, State.deviceGone_de]
  exact (s.workOffline_givesUp d).others e other

theorem State.deviceGone_reqs : ∀ q ∈ (s.deviceGone d).mp.reqs, q.dev ≠ d := by
  intro q hq
  rw [State.deviceGone_mp] at hq
  simpa using (List.mem_filter.mp hq).2

theorem State.deviceGone_lines : (s.deviceGone d).rp.lines = s.rp.lines.filter (fun r => r.loc.dev ≠ d) := by
  rw [State.deviceGone_rp]
  exact (s.workOffline_givesUp d).lines

theorem State.deviceGone_mu : (s.deviceGone d).mu = s.mu := by
  have kept := (State.pendingOffline_givesUp (d := d) ((s.workOffline d).declareLost (isOfDev d))).mu
  simp only [State.deviceGone, State.postFault_frame, kept, State.declareLost_frame]
  exact (s.workOffline_givesUp d).mu

theorem State.deviceGone_sc : (s.deviceGone d).sc = s.sc := by
  have kept := (State.pendingOffline_givesUp (d := d) ((s.workOffline d).declareLost (isOfDev d))).sc
  simp only [State.deviceGone, State.postFault_frame, kept, State.declareLost_frame]
  exact (s.workOffline_givesUp d).sc

theorem State.workOffline_entries : (s.workOffline d).pwb.entries = s.pwb.entries := (s.workOffline_givesUp d).entries

theorem State.deviceGone_entries : (s.deviceGone d).pwb.entries = s.pwb.entries.filter (fun e => e.loc.dev ≠ d) := by
  have kept := (State.pendingOffline_givesUp (d := d) ((s.workOffline d).declareLost (isOfDev d))).entries
  have freed : ((s.workOffline d).declareLost (isOfDev d)).pwb.entries =
      (s.workOffline d).pwb.entries.filter (fun e => !isOfDev d e) := rfl
  simp only [State.deviceGone, State.postFault_frame, kept, freed, State.workOffline_entries]
  simp [isOfDev]

/-- The fault record is the one that a loss of so many entries posts. -/
theorem State.deviceGone_faults : (s.deviceGone d).mgp.faults =
    (s.postFault .deviceOffline (some d) none (some (s.pwb.entries.countP (fun e => e.loc.dev = d)))).mgp.faults := by
  have work := s.workOffline_givesUp d
  have kept := State.pendingOffline_givesUp (d := d) ((s.workOffline d).declareLost (isOfDev d))
  unfold State.deviceGone
  rw [State.workOffline_entries]
  exact State.postFault_faults (s := s) (kept.faults.trans work.faults) (kept.faultNumber.trans work.faultNumber) _ _ _ _

theorem State.deviceGone_entriesLost : (s.deviceGone d).mgp.counters.entriesLost =
    satAdd s.mgp.counters.entriesLost (s.pwb.entries.countP (fun e => e.loc.dev = d)) := by
  have work : (s.workOffline d).mgp.counters.entriesLost = s.mgp.counters.entriesLost := (s.workOffline_givesUp d).entriesLost
  have kept := State.pendingOffline_givesUp (d := d) ((s.workOffline d).declareLost (isOfDev d))
  have counted : ((s.workOffline d).declareLost (isOfDev d)).mgp.counters.entriesLost =
      satAdd (s.workOffline d).mgp.counters.entriesLost ((s.workOffline d).pwb.entries.filter (isOfDev d)).length := rfl
  rw [State.deviceGone, State.postFault_counters, kept.entriesLost, counted, work, State.workOffline_entries,
    ← List.countP_eq_length_filter]
  rfl

end

/-! ### The accesses that end with DEVICE_UNAVAILABLE (R10, R42) -/

/-- The host port once an access has completed with DEVICE_UNAVAILABLE (R106, R113). -/
def Access.unavailable (a : Access) : HostPort :=
  { access := some a.failed, lastErr := some { cause := .deviceUnavailable, addr := a.addr, dir := a.dir } }

/-- The access has completed with DEVICE_UNAVAILABLE, and is counted. -/
structure State.Denies (s : State) (a : Access) (t : State) : Prop where
  hp   : t.hp = a.unavailable
  errs : t.mgp.counters.errCompletions = satAdd s.mgp.counters.errCompletions 1

theorem State.complete_denies {s : State} {a : Access} (access : s.hp.access = some a) :
    s.Denies a (s.complete (some .deviceUnavailable) 0) := by
  simp only [State.complete, access]
  exact ⟨rfl, rfl⟩

theorem State.Denies.congr {s t u v : State} {a : Access} (h : t.Denies a u)
    (before : t.mgp.counters.errCompletions = s.mgp.counters.errCompletions) (hp : v.hp = u.hp)
    (after : v.mgp.counters.errCompletions = u.mgp.counters.errCompletions) : s.Denies a v where
  hp := hp.trans h.hp
  errs := after.trans (h.errs.trans (by rw [before]))

section
variable {s : State} {d : Dev}

theorem State.fetchOffline_kept (s : State) (d : Dev) : (s.fetchOffline d).hp = s.hp ∧ (s.fetchOffline d).mgp = s.mgp ∧
    (s.fetchOffline d).rp.host = s.rp.host := by
  unfold State.fetchOffline
  (repeat' split)
  · refine ⟨by simp, by simp, ?_⟩
    unfold State.closeFetch
    split <;> simp
  · exact ⟨rfl, rfl, rfl⟩
  · exact ⟨rfl, rfl, rfl⟩

/-- What the read that waits has before it is looked at. -/
theorem State.beforeHostOffline_kept (s : State) (d : Dev) :
    let t := ((s.linesOffline d).dropRefill (fun l => l.dev = d)).fetchOffline d
    t.hp = s.hp ∧ t.mgp = s.mgp ∧ t.rp.host = s.rp.host := by
  obtain ⟨hp, mgp, host⟩ := ((s.linesOffline d).dropRefill (fun l => l.dev = d)).fetchOffline_kept d
  have read := congrArg (fun u : State => u.rp.host) ((s.linesOffline d).dropRefill_eq (fun l => l.dev = d))
  exact ⟨hp.trans (State.dropRefill_frame _ _).2.2.1, mgp.trans (by simp [State.linesOffline]), host.trans read⟩

theorem State.hostOffline_of_none (host : s.rp.host = none) : s.hostOffline d = s := by
  simp [State.hostOffline, host]

theorem State.hostOffline_of_waiting {r : HostRead} {a : Access} (host : s.rp.host = some r) (own : r.loc.dev = d)
    (waits : r.phase ≠ .transfer) (access : s.hp.access = some a) :
    (s.hostOffline d).rp.host = none ∧ s.Denies a (s.hostOffline d) := by
  simp only [State.hostOffline, host]
  rw [if_pos ⟨own, waits⟩]
  refine ⟨by simp [State.closeHostRead_host], ?_⟩
  exact (State.complete_denies (s := s.closeHostRead) (by simpa using access)).congr (by simp) rfl rfl

theorem State.pendingOffline_of_none (waiting : s.pwb.waiting = none) : s.pendingOffline d = s := by
  simp [State.pendingOffline, waiting]

theorem State.pendingOffline_of_waiting {w : PendingWrite} {a : Access} (waiting : s.pwb.waiting = some w)
    (own : w.loc.dev = d) (access : s.hp.access = some a) :
    (s.pendingOffline d).pwb.waiting = none ∧ s.Denies a (s.pendingOffline d) := by
  simp only [State.pendingOffline, waiting]
  rw [if_pos own]
  refine ⟨by simp [State.dropPending], ?_⟩
  exact (State.complete_denies (s := s.dropPending) access).congr rfl rfl rfl

theorem State.workOffline_waiting (s : State) (d : Dev) : (s.workOffline d).pwb.waiting = s.pwb.waiting := by
  simp [State.workOffline]

/-- A read of the device without a transfer ends. -/
theorem State.deviceGone_read {r : HostRead} {a : Access} (host : s.rp.host = some r) (own : r.loc.dev = d)
    (waits : r.phase ≠ .transfer) (access : s.hp.access = some a) (waiting : s.pwb.waiting = none) :
    (s.deviceGone d).rp.host = none ∧ s.Denies a (s.deviceGone d) := by
  obtain ⟨hpKept, mgpKept, hostKept⟩ :=
    (s.setDev d { DevRecord.reset with state := .offline }).beforeHostOffline_kept d
  obtain ⟨closed, denies⟩ := State.hostOffline_of_waiting (hostKept.trans host) own waits (hpKept ▸ access)
  have lost : ((s.workOffline d).declareLost (isOfDev d)).pwb.waiting = none := (s.workOffline_waiting d).trans waiting
  refine ⟨?_, denies.congr (by rw [mgpKept]; rfl) ?_ ?_⟩
  · rw [State.deviceGone_rp]
    exact closed
  · rw [State.deviceGone, State.pendingOffline_of_none lost]
    simp
    rfl
  · rw [State.deviceGone, State.pendingOffline_of_none lost, State.postFault_counters]
    rfl

/-- A write to the device that waits for an entry ends. -/
theorem State.deviceGone_write {w : PendingWrite} {a : Access} (waiting : s.pwb.waiting = some w) (own : w.loc.dev = d)
    (access : s.hp.access = some a) (host : s.rp.host = none) :
    (s.deviceGone d).pwb.waiting = none ∧ s.Denies a (s.deviceGone d) := by
  obtain ⟨hpKept, mgpKept, hostKept⟩ :=
    (s.setDev d { DevRecord.reset with state := .offline }).beforeHostOffline_kept d
  have reads : (s.setDev d { DevRecord.reset with state := .offline }).readsOffline d = _ :=
    (State.readsOffline_eq _ d).trans (State.hostOffline_of_none (hostKept.trans host))
  have hp : (s.workOffline d).hp = s.hp := (congrArg State.hp reads).trans hpKept
  have mgp : (s.workOffline d).mgp = s.mgp := (congrArg State.mgp reads).trans mgpKept
  have lost : ((s.workOffline d).declareLost (isOfDev d)).pwb.waiting = some w := (s.workOffline_waiting d).trans waiting
  obtain ⟨none_left, denies⟩ := State.pendingOffline_of_waiting lost own (by simpa [hp] using access)
  have counted : ((s.workOffline d).declareLost (isOfDev d)).mgp.counters.errCompletions =
      (s.workOffline d).mgp.counters.errCompletions := rfl
  refine ⟨?_, denies.congr (counted.trans (by rw [mgp])) ?_ ?_⟩
  · simpa [State.deviceGone] using none_left
  · simp [State.deviceGone]
  · rw [State.deviceGone, State.postFault_counters]

end

/-! ### Device 0 and the metadata unit (R149) -/

/-- The unit, the requests and the decoder alone are touched, and the unit takes nothing in hand. -/
structure State.UnitOnly (s t : State) : Prop where
  pwb : t.pwb = s.pwb
  rp  : t.rp = s.rp
  mgp : t.mgp = s.mgp
  sc  : t.sc = s.sc
  op  : t.mu.op = s.mu.op ∨ t.mu.op = none

theorem State.UnitOnly.trans {s t u : State} (h : s.UnitOnly t) (k : t.UnitOnly u) : s.UnitOnly u where
  pwb := k.pwb.trans h.pwb
  rp := k.rp.trans h.rp
  mgp := k.mgp.trans h.mgp
  sc := k.sc.trans h.sc
  op := k.op.elim (fun same => h.op.imp same.trans same.trans) .inr

theorem State.endPersistOf_unitOnly (s : State) (k : Kind) : s.UnitOnly (s.endPersistOf k) := by
  unfold State.endPersistOf
  (repeat' split)
  · exact ⟨rfl, rfl, rfl, rfl, .inr rfl⟩
  · exact ⟨rfl, rfl, rfl, rfl, .inl rfl⟩
  · exact ⟨rfl, rfl, rfl, rfl, .inl rfl⟩

theorem State.tellDecoder_unitOnly (s : State) (k : Kind) : s.UnitOnly (s.tellDecoder k) := by
  unfold State.tellDecoder
  split <;> exact ⟨rfl, rfl, rfl, rfl, .inl rfl⟩

theorem State.flagFault_unitOnly (s : State) (k : Kind) : s.UnitOnly (s.flagFault k) :=
  ⟨rfl, rfl, rfl, rfl, .inl (s.flagFault_op k)⟩

theorem State.raiseFault_unitOnly {s : State} (calm : s.sc.state ≠ .restarting) (k : Kind) : s.UnitOnly (s.raiseFault k) := by
  have told := ((s.flagFault_unitOnly k).trans (State.endPersistOf_unitOnly _ k)).trans (State.tellDecoder_unitOnly _ k)
  rw [s.raiseFault_eq, State.giveUpRestart_eq (by rw [told.sc]; exact calm)]
  exact told

/-- With no write in hand, and no restart to give up, nothing is reported. -/
theorem State.muOffline_unitOnly {s : State} (calm : s.sc.state ≠ .restarting) (op : ∀ w n, s.mu.op ≠ some (.write w n)) :
    s.UnitOnly s.muOffline := by
  have config := State.raiseFault_unitOnly calm .config
  have both := config.trans (State.raiseFault_unitOnly (by rw [config.sc]; exact calm) .remap)
  rw [s.muOffline_eq, State.dropOp]
  split
  · next w n hop =>
    rcases both.op with same | gone
    · exact absurd (same.symm.trans hop) (op w n)
    · exact nomatch gone.symm.trans hop
  · exact both.trans ⟨rfl, rfl, rfl, rfl, .inr rfl⟩
  · exact both

/-! ### The deadline -/

theorem State.resetExpires_of_resetting {s : State} {d : Dev} (resetting : (s.dev d).activity = .resetting)
    (owner : (s.dev d).owner ≠ some .probe) : s.resetExpires d = s.markOffline d := by
  unfold State.resetExpires
  rw [if_pos resetting, if_neg owner]

theorem State.markOffline_d1 (s : State) : s.markOffline .d1 = s.deviceGone .d1 :=
  (s.markOffline_eq .d1).trans (if_neg (by simp))

theorem State.markOffline_d0 (s : State) : s.markOffline .d0 = (s.deviceGone .d0).muOffline :=
  (s.markOffline_eq .d0).trans (if_pos rfl)

/-- What comes after the loss leaves the lost device as the loss made it. -/
theorem State.markOffline_spares (s : State) (d : Dev) : (s.deviceGone d).SparesDev d (s.markOffline d) := by
  cases d with
  | d0 => exact State.muOffline_spares (s.deviceGone_ctx .d0)
  | d1 => exact .refl _

theorem State.markOffline_hostKept (s : State) (d : Dev) : (s.deviceGone d).HostKept (s.markOffline d) := by
  cases d with
  | d0 => exact (State.muOffline_moves _).toHostKept
  | d1 => exact (State.Moves.refl _).toHostKept

theorem State.markOffline_hp (s : State) (d : Dev) : (s.markOffline d).hp = (s.deviceGone d).hp := by
  cases d with
  | d0 => simp [s.markOffline_d0]
  | d1 => rfl

/-- Settles O43: the loss itself first, and then what the metadata unit does when device 0 is lost. -/
theorem resetDeadlineExpires : Obligations.ResetDeadlineExpires := by
  intro s d alive resetting owner
  dsimp only
  have spares := s.markOffline_spares d
  have kept := s.markOffline_hostKept d
  have denied {a : Access} (denies : s.Denies a (s.deviceGone d)) : s.Denies a (s.markOffline d) :=
    denies.congr rfl (s.markOffline_hp d) spares.errs
  refine ⟨s.markOffline d, ?event, ?dev, ?ctx, ?reqs, ?entries, ?lines, ?faults, ?calm, ?read, ?write, ?unit, ?other⟩
  case event =>
    exact congrArg _ ((State.event_of_alive alive _).trans
      (congrArg State.settle (State.resetExpires_of_resetting resetting owner)))
  case dev => exact spares.dev.trans (s.deviceGone_dev d)
  case ctx => exact spares.ctx.trans (s.deviceGone_ctx d)
  case reqs => exact fun q hq own => s.deviceGone_reqs d q (spares.reqs q hq own) own
  case entries =>
    intro e he
    have stays := spares.entries he
    rw [State.deviceGone_entries] at stays
    simpa using (List.mem_filter.mp stays).2
  case lines =>
    intro r hr
    have stays := spares.lines hr
    rw [State.deviceGone_lines] at stays
    simpa using (List.mem_filter.mp stays).2
  case faults =>
    rw [← State.deviceGone_faults]
    exact spares.faults
  case calm =>
    intro calm
    have same : (s.markOffline d).pwb = (s.deviceGone d).pwb ∧ (s.markOffline d).rp = (s.deviceGone d).rp ∧
        (s.markOffline d).mgp = (s.deviceGone d).mgp := by
      cases d with
      | d1 => exact ⟨rfl, rfl, rfl⟩
      | d0 =>
        obtain ⟨op, state⟩ := calm.resolve_left nofun
        have unit := State.muOffline_unitOnly (s := s.deviceGone .d0) (by rwa [State.deviceGone_sc])
          (by rwa [State.deviceGone_mu])
        exact ⟨unit.pwb, unit.rp, unit.mgp⟩
    obtain ⟨pwb, rp, mgp⟩ := same
    rw [pwb, rp, mgp]
    exact ⟨s.deviceGone_entries d, s.deviceGone_faults d, s.deviceGone_lines d, s.deviceGone_entriesLost d⟩
  case read =>
    intro r a host own waits access waiting
    obtain ⟨closed, denies⟩ := State.deviceGone_read host own waits access waiting
    have gone : (s.markOffline d).rp.host = none := by simpa [closed] using kept.host
    exact ⟨gone, (denied denies).hp, (denied denies).errs⟩
  case write =>
    intro w a waiting own access host
    obtain ⟨dropped, denies⟩ := State.deviceGone_write waiting own access host
    have gone : (s.markOffline d).pwb.waiting = none := by rw [kept.waiting, dropped]
    exact ⟨gone, (denied denies).hp, (denied denies).errs⟩
  case unit =>
    rintro rfl
    have empty := s.deviceGone_ctx .d0
    refine ⟨State.muOffline_fault empty .config, State.muOffline_fault empty .remap, fun restarting => ?_⟩
    rw [State.markOffline_d0]
    exact State.muOffline_run (by rwa [State.deviceGone_sc])
  case other =>
    rintro rfl
    exact ⟨s.deviceGone_mu .d1, s.deviceGone_ctx_other .d1 nofun, s.deviceGone_dev_other .d1 nofun⟩

end Sys2Proof.Machine
end

section
/-! The reads of the read path return: lines filled, an access completed, a suspension ended (R38 to R40, R43 to R45, R58). -/

namespace Sys2Proof.Machine

/- One theorem after another: waiting ones would each hold a thread. -/
set_option Elab.async false

/-! ### The fill of the read-ahead buffer (R31, R39) -/

/-- The record that a fill of line `line + k` of a page leaves. -/
def filledLine (d : Dev) (page line k : Nat) (b : List Byte) : LineRecord := { loc := ⟨d, page, line + k⟩, bytes := b }

theorem fillLine_eq {lines : List LineRecord} (fits : lines.length ≤ 4) (r : LineRecord) :
    fillLine lines r = (if (lines.filter (fun x => x.loc ≠ r.loc)).length = 4
      then (lines.filter (fun x => x.loc ≠ r.loc)).drop 1 else lines.filter (fun x => x.loc ≠ r.loc)) ++ [r] := by
  have others : (lines.filter (fun x => x.loc ≠ r.loc)).length ≤ 4 := (List.length_filter_le _ _).trans fits
  unfold fillLine Config.readAheadRecords
  dsimp only
  split
  · rw [if_neg (by omega)]
  · rw [if_pos (by omega), List.drop_one]

theorem fillLines_append_singleton (d : Dev) (page : Nat) (b : List Byte) (bs : List (List Byte)) :
    ∀ (lines : List LineRecord) (line : Nat), fillLines lines d page line (bs ++ [b]) =
      fillLine (fillLines lines d page line bs) (filledLine d page line bs.length b) := by
  induction bs with
  | nil => exact fun _ _ => rfl
  | cons x xs ih =>
    intro lines line
    simp only [List.cons_append, fillLines, ih, filledLine, List.length_cons]
    congr 3
    omega

/-- Up to four lines that come stand at the newest end, in their order, and no older record is of one of them. -/
theorem fillLines_eq {lines : List LineRecord} (fits : lines.length ≤ 4) (d : Dev) (page line : Nat)
    (bs : List (List Byte)) (few : bs.length ≤ 4) :
    ∃ older : List LineRecord, fillLines lines d page line bs = older ++ bs.mapIdx (filledLine d page line) ∧
      ∀ r ∈ older, ∀ k < bs.length, r.loc ≠ ⟨d, page, line + k⟩ := by
  induction bs using List.reverseRecOn with
  | nil => exact ⟨lines, by simp [fillLines], by simp⟩
  | append_singleton bs b ih =>
    rw [List.length_append, List.length_singleton] at few
    obtain ⟨older, filled, apart⟩ := ih (by omega)
    have room : (fillLines lines d page line bs).length ≤ 4 := fillLines_length d page bs line fits
    let kept := older.filter (fun x => x.loc ≠ (filledLine d page line bs.length b).loc)
    have others : (fillLines lines d page line bs).filter (fun x => x.loc ≠ (filledLine d page line bs.length b).loc) =
        kept ++ bs.mapIdx (filledLine d page line) := by
      rw [filled, List.filter_append]
      refine congrArg (kept ++ ·) (List.filter_eq_self.2 fun r hr => ?_)
      obtain ⟨k, hk, rfl⟩ := List.mem_mapIdx.1 hr
      simp [filledLine]
      omega
    have stays {older' : List LineRecord} (sub : older' ⊆ kept) :
        ∀ r ∈ older', ∀ k < (bs ++ [b]).length, r.loc ≠ ⟨d, page, line + k⟩ := by
      intro r hr k hk
      obtain ⟨old, new⟩ := List.mem_filter.1 (sub hr)
      rw [List.length_append, List.length_singleton] at hk
      rcases Nat.lt_succ_iff_lt_or_eq.1 hk with before | rfl
      · exact apart r old k before
      · exact of_decide_eq_true new
    rw [fillLines_append_singleton, fillLine_eq room, others, List.mapIdx_append]
    split
    · next full =>
      have some_old : 1 ≤ kept.length := by simp at full; omega
      refine ⟨kept.drop 1, ?_, stays (List.drop_subset 1 _)⟩
      rw [List.drop_append_of_le_length some_old]
      simp
    · exact ⟨kept, by simp, stays (List.Subset.refl _)⟩

theorem find?_fillLines {lines : List LineRecord} (fits : lines.length ≤ 4) (d : Dev) (page line : Nat)
    {bs : List (List Byte)} (few : bs.length ≤ 4) {k : Nat} {b : List Byte} (came : bs[k]? = some b) :
    (fillLines lines d page line bs).find? (fun r => r.loc = ⟨d, page, line + k⟩) = some (filledLine d page line k b) := by
  obtain ⟨older, filled, apart⟩ := fillLines_eq fits d page line bs few
  obtain ⟨hk, hb⟩ := List.getElem?_eq_some_iff.1 came
  have none_older : older.find? (fun r => r.loc = ⟨d, page, line + k⟩) = none := by
    simpa [List.find?_eq_none] using fun r hr => apart r hr k hk
  rw [filled, List.find?_append, none_older, Option.none_or, List.find?_eq_some_iff_getElem]
  refine ⟨by simp [filledLine], k, by simpa using hk, by simp [hb], fun j hj => ?_⟩
  simp [filledLine]
  omega

/-! ### The return of a read (R38, R40, R44, R58) -/

/-- The end of a transfer is what its outcome brings, and what follows (R120). -/
theorem State.exec_transferEnd {s u : State} {answer : BusAnswer} (alive : s.alive = true)
    (ended : s.transferEnds answer = u) : exec (.memoryTransferEnd answer) s = .next u.settle :=
  congrArg _ ((State.event_of_alive alive _).trans (congrArg State.settle ended))

section
variable {s : State} {t : Transfer} {page line n : Nat}

theorem State.transferEnds_readPath (bus : s.mp.bus = some t) (cmd : t.req.cmd = .read page line n)
    (path : t.req.requester = .fetch ∨ t.req.requester = .refill ∨ t.req.requester = .hostRead) (answer : BusAnswer) :
    s.transferEnds answer = s.busFree.readReturned t page line n := by
  rcases path with path | path | path <;>
  · simp only [State.transferEnds, bus, cmd, path]
    rfl

/-- A transfer whose read is gone, or was no host read's, delivers nothing (R40, R43, R44). -/
theorem State.deliverRead_of_gone (gone : ∀ h, s.rp.host = some h → h.phase ≠ .transfer) (bytes : List Byte) :
    s.deliverRead bytes = s := by
  unfold State.deliverRead
  split
  · next h host => exact if_neg (gone h host)
  · rfl

theorem State.deliverRead_of_transfer {h : HostRead} {a : Access} (host : s.rp.host = some h) (phase : h.phase = .transfer)
    (access : s.hp.access = some a) (bytes : List Byte) : s.deliverRead bytes = { s with
      hp := { s.hp with access := some (a.done (readHalf h.positions
        (fun k => (forward s.pwb.entries h.loc k).getD ((bytes[k]?).getD 0)))) }
      rp := { s.rp with host := none } } := by
  have here : (s.setRp { s.rp with host := none }).hp.access = some a := access
  simp only [State.deliverRead, host, phase, if_true, State.complete, here]
  rfl

/-- The read of a suspension has returned: the engine asks for RESUME (R58). -/
theorem State.readUnderSuspendEnds_eq {d : Dev} {c : Ctx} (ctx : s.ctx d = some c) (phase : c.phase = .suspended)
    (step : c.suspendStep = some .held) (takes : (s.dev d).takes = true) : s.readUnderSuspendEnds d = { s with
      de := s.de.set d { s.de.get d with ctx := some { c with suspendStep := some .resuming } }
      mp := { s.mp with reqs := s.mp.reqs ++ [⟨.engine, d, .resume⟩] } } := by
  simp only [State.readUnderSuspendEnds, ctx, phase, step, and_self, if_true]
  exact if_pos (State.mayQueue_of_takes takes)

/-- The state once the lines that a transfer brought are filled. -/
def State.filledBy (s : State) (t : Transfer) (page line n : Nat) : State :=
  s.setRp { s.rp with
    lines := fillLines s.rp.lines t.req.dev t.home line ((s.nvm.get t.req.dev).readLines page line n) }

/-- What a return brings, from the state `u` in which the read that asked has been served. -/
theorem State.readReturned_eq {u : State} (delivered : (if t.req.requester = .hostRead then
      s.deliverRead (((s.nvm.get t.req.dev).readLines page line n).head?.getD []) else s) = u) :
    s.readReturned t page line n = if t.underSuspend then (u.filledBy t page line n).readUnderSuspendEnds t.req.dev
      else u.filledBy t page line n := by
  have memory : u.nvm = s.nvm := by
    rw [← delivered]
    split
    · simp
    · rfl
  unfold State.readReturned State.filledBy
  dsimp only
  rw [delivered, memory]

end

/-- Settles O37: the fill by what it leaves of the older lines, and the return by whether the host read still stands. -/
theorem hostReadReturns : Obligations.HostReadReturns := by
  refine ⟨fun lines d page line b fits => fillLine_eq fits _,
    fun lines d page line bs fits few => ⟨fillLines_length d page bs line fits, fun k b => find?_fillLines fits d page line few⟩,
    ?gone, ?delivered⟩
  case gone =>
    intro s t page line n answer alive bus cmd path
    have returns : s.transferEnds answer = s.busFree.readReturned t page line n :=
      State.transferEnds_readPath bus cmd (path.imp_right (Or.imp_right And.left)) answer
    have gone : t.req.requester = .hostRead → ∀ h, s.rp.host = some h → h.phase ≠ .transfer := by
      intro own
      rcases path with path | path | path
      · exact nomatch own.symm.trans path
      · exact nomatch own.symm.trans path
      · exact path.2
    rw [State.readReturned_eq (ite_eq_right_iff.2 fun own => State.deliverRead_of_gone (by exact gone own) _)] at returns
    refine ⟨fun free => State.exec_transferEnd alive ?_, fun c under ctx phase step takes => State.exec_transferEnd alive ?_⟩
    · rw [returns, if_neg (by simp [free])]
      rfl
    · rw [returns, if_pos under, State.readUnderSuspendEnds_eq (by exact ctx) phase step (by exact takes)]
      rfl
  case delivered =>
    intro s t h a page line n answer alive bus own cmd _ host phase access positions
    have returns : s.transferEnds answer = s.busFree.readReturned t page line n :=
      State.transferEnds_readPath bus cmd (.inr (.inr own)) answer
    rw [State.readReturned_eq ((if_pos own).trans
      (State.deliverRead_of_transfer (by exact host) phase (by exact access) _)), positions, readHalf_lanePositions] at returns
    refine ⟨fun free => State.exec_transferEnd alive ?_, fun c under ctx phase step takes => State.exec_transferEnd alive ?_⟩
    · rw [returns, if_neg (by simp [free])]
      rfl
    · rw [returns, if_pos under, State.readUnderSuspendEnds_eq (by exact ctx) phase step (by exact takes)]
      rfl

end Sys2Proof.Machine
end

section
/-! An arrival that the checks at decode refuse (R107, R108), and a read that misses both buffers (R33). -/

namespace Sys2Proof.Machine

/- One theorem after another: waiting ones would each hold a thread. -/
set_option Elab.async false

/-! ### The checks at decode (R29, R107, R108) -/

theorem State.metadataFault_iff (s : State) : s.metadataFault = true ↔ s.mu.config.fault = true ∨ s.mu.remap.fault = true := by
  simp [State.metadataFault]

theorem State.decodeRefusal_read (s : State) (x : Decoded) : s.decodeRefusal x .read =
    if (s.dev x.loc.dev).state = .absent ∨ (s.dev x.loc.dev).state = .offline then some .deviceUnavailable else none := by
  simp [State.decodeRefusal, DevRecord.takes_eq_false_iff]

theorem State.decodeRefusal_write (s : State) (x : Decoded) : s.decodeRefusal x .write =
    if (s.dev x.loc.dev).state = .absent ∨ (s.dev x.loc.dev).state = .offline then some .deviceUnavailable
    else if x.policy = .readOnly then some .readOnly
    else if (s.dev x.loc.dev).state = .writeLocked ∨ s.mu.config.fault = true ∨ s.mu.remap.fault = true then
      some .writeRefused
    else if s.ru.isFailed x.loc.dev x.loc.page then some .failedPage
    else none := by
  simp only [State.decodeRefusal, ← State.metadataFault_iff, Bool.not_eq_true', DevRecord.takes_eq_false_iff, ite_or]

theorem State.decodeAccess_of_none {s : State} {addr : BitVec 23} (decode : s.wd.live.decode addr = none) (even odd : Bool)
    (dir : Dir) (hd : Half) : (s.openAccess addr even odd dir hd).decodeAccess addr even odd dir hd =
      (s.openAccess addr even odd dir hd).complete (some .noWindow) 0 := by
  have missed : (s.openAccess addr even odd dir hd).wd.live.decode addr = none := decode
  simp only [State.decodeAccess, missed]

theorem State.decodeAccess_refused {s : State} {addr : BitVec 23} {x : Decoded} (decode : s.wd.live.decode addr = some x)
    {dir : Dir} {c : Cause} (refused : s.decodeRefusal x dir = some c) (even odd : Bool) (hd : Half) :
    (s.openAccess addr even odd dir hd).decodeAccess addr even odd dir hd =
      (s.arrived addr even odd dir hd x).complete (some c) 0 := by
  have decoded : (s.openAccess addr even odd dir hd).wd.live.decode addr = some x := decode
  have denied : (s.arrived addr even odd dir hd x).decodeRefusal x dir = some c := refused
  simp only [State.decodeAccess, decoded, State.noteDecode_openAccess, denied]

/-- The state once an access has been refused at decode (R106, R113). -/
def State.refused (s : State) (a : Access) (cause : Cause) : State := { s with
  hp := { access := some a.failed, lastErr := some { cause := cause, addr := a.addr, dir := a.dir } }
  mgp := { s.mgp with counters := s.mgp.counters.raise .errCompletions 1 } }

/-- A refusal makes nothing due: the access was not held, and it is not held. -/
theorem State.refused_settled {s : State} (settled : s.settled) (free : s.hp.access = none) (a : Access) (cause : Cause) :
    (s.refused a cause).settled :=
  (State.setHp_settled s (s.refused a cause).hp (s.refused a cause).mgp
    (by simp [State.heldPhase, free, State.refused, Access.failed])).2 settled

/-- Settles O24: the first check that fails gives the cause, and nothing follows of a refusal. -/
theorem arrivalRefused : Obligations.ArrivalRefused := by
  intro s ha hbl hbh hrd hwr hd opens settled run strobe lane
  dsimp only
  have arrives := State.arrives_of_opens opens ha hbl hbh hrd hwr hd
  rw [State.accessArrives_eq opens run hd strobe lane] at arrives
  have direction : (if hrd = true then Dir.read else Dir.write) = arrivalDir hrd := rfl
  have refuses {a : Access} {cause : Cause} {t : State} (reached : exec (.hostAccessArrival ha hbl hbh hrd hwr hd) s =
      .next t.settle) (refused : t = s.refused a cause) :
      exec (.hostAccessArrival ha hbl hbh hrd hwr hd) s = .next (s.refused a cause) := by
    rw [reached, refused, State.settle_of_settled (State.refused_settled settled opens.2 a cause)]
  rw [direction]
  refine ⟨fun decode => ?window, fun x decode c check => ?checks⟩
  case window =>
    rw [State.decodeAccess_of_none decode] at arrives
    exact refuses arrives rfl
  case checks =>
    have refusedAt (denied : s.decodeRefusal x (arrivalDir hrd) = some c) :
        exec (.hostAccessArrival ha hbl hbh hrd hwr hd) s = .next (s.refused
          (decodedAccess (arrivalAddr ha hbl hbh) hbl hbh (arrivalDir hrd) hd s.stallLimit x) c) := by
      rw [State.decodeAccess_refused decode denied] at arrives
      exact refuses arrives rfl
    cases hrd with
    | false => exact refusedAt ((State.decodeRefusal_write s x).trans check)
    | true =>
      by_cases gone : (s.dev x.loc.dev).state = .absent ∨ (s.dev x.loc.dev).state = .offline
      · rw [if_pos gone] at check
        exact refusedAt ((State.decodeRefusal_read s x).trans ((if_pos gone).trans check))
      · rw [if_neg gone, if_pos rfl, Option.ite_none_right_eq_some, Option.some_inj] at check
        obtain ⟨lost, rfl⟩ := check
        have passes : s.decodeRefusal x .read = none := (State.decodeRefusal_read s x).trans (if_neg gone)
        have handed : (s.arrived (arrivalAddr ha hbl hbh) hbl hbh .read hd x).readArrives x.loc
            (lanePositions (arrivalAddr ha hbl hbh) hbl hbh) =
              s.refused (decodedAccess (arrivalAddr ha hbl hbh) hbl hbh .read hd s.stallLimit x) .failedPage :=
          if_pos lost
        have reached := State.decodeAccess_eq decode passes hbl hbh hd
        exact refuses arrives (reached.trans handed)

/-! ### A read that misses both buffers (R33) -/

/-- A request of a device that takes transfers joins at the newest end (R134, R135). -/
theorem State.join_of_takes {s : State} {r : Request} (takes : (s.dev r.dev).takes = true) :
    s.join r = { s with mp := { s.mp with reqs := s.mp.reqs ++ [r] } } :=
  if_pos (State.mayQueue_of_takes takes)

theorem State.holdAccess_eq {s : State} {a : Access} (access : s.hp.access = some a) (p : AccessPhase) :
    s.holdAccess p = { s with hp := { s.hp with access := some { a with phase := p } } } := by
  simp only [State.holdAccess, access]
  rfl

theorem State.withdraw_from (s : State) (r : Requester) : s.withdraw (fun q => q.requester = r) =
    { s with mp := { s.mp with reqs := s.mp.reqs.filter (fun q => q.requester ≠ r) } } := by
  simp [State.withdraw, State.setMp]

/-- An unfinished fetch that waits in QUEUED goes with its request alone (R33, R44). -/
theorem State.closeFetch_of_queued {s : State} (queued : ∀ f, s.rp.fetch = some f → f.phase = .queued) :
    s.closeFetch = { s with
      rp := { s.rp with fetch := none }
      mp := { s.mp with reqs :=
        if s.rp.fetch.isSome then s.mp.reqs.filter (fun q => q.requester ≠ .fetch) else s.mp.reqs } } := by
  cases fetch : s.rp.fetch with
  | none =>
    simp only [State.closeFetch, fetch]
    exact congrArg (fun f => s.setRp { s.rp with fetch := f }) fetch
  | some f =>
    simp only [State.closeFetch, fetch, queued f fetch, State.endSuspendOf_queued, State.withdraw_from]
    rfl

/-- The requests that a miss leaves in their queues. -/
theorem missKept (reqs : List Request) (refill fetch : Bool) :
    (if fetch then (if refill then reqs.filter (fun q => q.requester ≠ .refill) else reqs).filter
        (fun q => q.requester ≠ .fetch) else if refill then reqs.filter (fun q => q.requester ≠ .refill) else reqs) =
      reqs.filter (fun q => ¬(refill ∧ q.requester = .refill) ∧ ¬(fetch ∧ q.requester = .fetch)) := by
  cases refill <;> cases fetch <;> simp [List.filter_filter, Bool.and_comm]

/-- A miss withdraws the refill and the unfinished fetch that wait (R33). -/
theorem State.missWithdraws {s : State} (queued : ∀ f, s.rp.fetch = some f → f.phase = .queued) :
    (s.dropRefill (fun _ => true)).closeFetch = { s with
      rp := { s.rp with fetch := none, refill := none }
      mp := { s.mp with reqs := s.mp.reqs.filter (fun q => ¬(s.rp.refill.isSome ∧ q.requester = .refill) ∧
        ¬(s.rp.fetch.isSome ∧ q.requester = .fetch)) } } := by
  have withdrawn : s.rp.refill.any (fun _ => true) = s.rp.refill.isSome := by cases s.rp.refill <;> rfl
  have left : (if s.rp.refill.isSome then none else s.rp.refill) = none := by cases s.rp.refill <;> rfl
  rw [s.dropRefill_eq, withdrawn, left, State.closeFetch_of_queued (by exact queued), ← missKept]

theorem State.requestFetch_eq {s : State} {a : Access} {loc : Loc} (positions : List Nat)
    (queued : ∀ f, s.rp.fetch = some f → f.phase = .queued) (takes : (s.dev loc.dev).takes = true)
    (access : s.hp.access = some a) :
    s.requestFetch loc positions = { s with
      hp := { s.hp with access := some { a with phase := .heldRead } }
      rp := { s.rp with
        host := some { loc := loc, positions := positions, phase := .queued, ahead := min s.readAhead (15 - loc.line)
                       asked := false }
        fetch := none, refill := none }
      mp := { s.mp with reqs := s.mp.reqs.filter (fun q => ¬(s.rp.refill.isSome ∧ q.requester = .refill) ∧
        ¬(s.rp.fetch.isSome ∧ q.requester = .fetch)) ++
          [⟨.hostRead, loc.dev, .read loc.page loc.line (min s.readAhead (15 - loc.line) + 1)⟩] } } := by
  unfold State.requestFetch
  rw [State.missWithdraws queued]
  dsimp only
  rw [State.join_of_takes (by exact takes)]
  exact State.holdAccess_eq (by exact access) .heldRead

theorem State.readArrives_miss {s : State} {loc : Loc} {positions : List Nat} (ok : s.ru.isFailed loc.dev loc.page = false)
    (uncovered : ∃ k ∈ positions, forward s.pwb.entries loc k = none) (miss : ∀ l ∈ s.rp.lines, l.loc ≠ loc) :
    s.readArrives loc positions = s.requestFetch loc positions := by
  have notAll : ¬positions.all (fun p => (forward s.pwb.entries loc p).isSome) = true := by
    simpa using uncovered
  have unheld : findLine s.rp.lines loc = none := by simpa [findLine, List.find?_eq_none] using miss
  rw [State.readArrives, if_neg (by simp [ok]), if_neg notAll, unheld]

/-- Settles O29: neither lookup settles the read, and the fetch withdraws what waits of the read path. -/
theorem readMisses : Obligations.ReadMisses := by
  intro s ha hbl hbh hwr hd x lane read queued addr uncovered miss
  have reaches := State.readReaches hwr hd lane read
  rw [State.readArrives_miss (by exact read.notLost) (by exact uncovered) (by exact miss),
    State.requestFetch_eq _ (by exact queued) (by exact read.takes) (State.arrived_access ..)] at reaches
  exact reaches

end Sys2Proof.Machine
end

section
/-! A grant starts a transfer, or gives it back for a FAILED page (R34, R36, R40, R44, R137, R138). -/

namespace Sys2Proof.Machine

/- One theorem after another: waiting ones would each hold a thread. -/
set_option Elab.async false

section
variable {s : State} {r : Request}

/-! ### The transfer that a grant starts (R36, R138) -/

theorem State.starveAfter_eq (s : State) (r : Request) : s.starveAfter r =
    if r.grantClass = 2 then
      (if s.mp.reqs.any (fun q => s.eligible q && (q.grantClass == 3 || q.grantClass == 4)) then min (s.mp.starve + 1) 8
       else 0)
    else if r.grantClass = 3 ∨ r.grantClass = 4 then 0
    else s.mp.starve := by
  have yielding : s.eligibles.any Request.yielding =
      s.mp.reqs.any (fun q => s.eligible q && (q.grantClass == 3 || q.grantClass == 4)) := List.any_filter
  unfold State.starveAfter
  rw [yielding]
  simp only [Request.yielding_iff]
  rfl

theorem State.isHeldRead_host {h : HostRead} (own : r.requester = .hostRead) (host : s.rp.host = some h) :
    s.isHeldRead r = decide (h.phase = .suspendHeld) := by
  simp [State.isHeldRead, own, host]

theorem State.isHeldRead_fetch {f : Fetch} (own : r.requester = .fetch) (fetch : s.rp.fetch = some f) :
    s.isHeldRead r = decide (f.phase = .suspendHeld) := by
  simp [State.isHeldRead, own, fetch]

theorem State.grantTo_other (host : r.requester ≠ .hostRead) (fetch : r.requester ≠ .fetch) (refill : r.requester ≠ .refill) :
    s.grantTo r = s.startTransfer r r.cmd 0 false := by
  unfold State.grantTo
  split
  · next own _ => exact absurd own host
  · next own _ => exact absurd own fetch
  · next own _ => exact absurd own refill
  · rfl

section
variable {home line n : Nat} (cmd : r.cmd = .read home line n)
include cmd

theorem State.grantTo_hostRead {h : HostRead} (own : r.requester = .hostRead) (host : s.rp.host = some h)
    (ok : s.ru.isFailed r.dev home = false) : s.grantTo r =
      (s.startTransfer r (.read (s.ru.physical r.dev home) line (grantLines (s.isHeldRead r) n)) home (s.isHeldRead r)).setRp
        { s.rp with host := some { h with phase := .transfer } } := by
  have stands (m : MemoryPort) : (s.setMp m).rp.host = some h := host
  simp only [State.grantTo, own, cmd, ok, Bool.false_eq_true, if_false, State.startTransfer, stands, Option.map_some]
  rfl

theorem State.grantTo_fetch (own : r.requester = .fetch) (ok : s.ru.isFailed r.dev home = false) : s.grantTo r =
    (s.startTransfer r (.read (s.ru.physical r.dev home) line (grantLines (s.isHeldRead r) n)) home (s.isHeldRead r)).setRp
      { s.rp with fetch := none } := by
  simp only [State.grantTo, own, cmd, ok, Bool.false_eq_true, if_false]
  rfl

theorem State.grantTo_refill (own : r.requester = .refill) (ok : s.ru.isFailed r.dev home = false) : s.grantTo r =
    (s.startTransfer r (.read (s.ru.physical r.dev home) line n) home false).setRp { s.rp with refill := none } := by
  simp only [State.grantTo, own, cmd, ok, Bool.false_eq_true, if_false]
  rfl

/-! ### A FAILED page gives the grant back (R34, R40, R44) -/

theorem State.grantTo_hostRead_failed (own : r.requester = .hostRead) (failed : s.ru.isFailed r.dev home = true) :
    s.grantTo r = s.closeHostRead.complete (some .failedPage) 0 := by
  simp only [State.grantTo, own, cmd, failed, if_true]

theorem State.grantTo_fetch_failed (own : r.requester = .fetch) (failed : s.ru.isFailed r.dev home = true) :
    s.grantTo r = s.closeFetch := by
  simp only [State.grantTo, own, cmd, failed, if_true]

theorem State.grantTo_refill_failed (own : r.requester = .refill) (failed : s.ru.isFailed r.dev home = true) :
    s.grantTo r = s.dropRefill (fun _ => true) := by
  simp only [State.grantTo, own, cmd, failed, if_true]

end

/-- A host read that waits in QUEUED ends with its request alone. -/
theorem State.closeHostRead_of_queued {h : HostRead} (host : s.rp.host = some h) (queued : h.phase = .queued) :
    s.closeHostRead = s.readWithdrawn := by
  rw [State.closeHostRead_of_waiting host (by simp [queued]), queued, State.endSuspendOf_queued]

theorem State.complete_failed {a : Access} (access : s.hp.access = some a) (c : Cause) (data : Half) :
    s.complete (some c) data = { s with
      hp := { access := some a.failed, lastErr := some { cause := c, addr := a.addr, dir := a.dir } }
      mgp := { s.mgp with counters := s.mgp.counters.raise .errCompletions 1 } } := by
  simp only [State.complete, access]
  rfl

end

/-- Settles O36: the transfer by the requester and by whether its read is held, and the grant given back by the requester. -/
theorem grantStartsTransfer : Obligations.GrantStartsTransfer := by
  intro s r alive bus choice
  dsimp only
  rw [← s.starveAfter_eq r]
  have granted : s.grant = some (s.grantTo r) := by simp [State.grant, bus, choice]
  have grants {t : State} (h : s.grantTo r = t) : exec .arbiterGrant s = .next t.settle :=
    congrArg _ ((State.named_of_due alive granted).trans (congrArg State.settle h))
  refine ⟨fun host fetch refill => grants (State.grantTo_other host fetch refill),
    fun home line n cmd ok => ⟨fun h own host => ?read, fun f own fetch => ?fetch,
      fun own => grants (State.grantTo_refill cmd own ok)⟩,
    fun home line n cmd failed => ⟨fun h a own host queued access => grants ?readFailed,
      fun f own fetch queued => grants ?fetchFailed, fun l own refill => grants ?refillFailed⟩⟩
  case read =>
    have starts := State.grantTo_hostRead cmd own host ok
    rw [State.isHeldRead_host own host] at starts
    refine ⟨fun free => grants ?_, fun held => grants ?_⟩
    · rw [starts, decide_eq_false free]
      rfl
    · rw [starts, decide_eq_true held]
      rfl
  case fetch =>
    have starts := State.grantTo_fetch (s := s) cmd own ok
    rw [State.isHeldRead_fetch own fetch] at starts
    refine ⟨fun free => grants ?_, fun held => grants ?_⟩
    · rw [starts, decide_eq_false free]
      rfl
    · rw [starts, decide_eq_true held]
      rfl
  case readFailed =>
    rw [State.grantTo_hostRead_failed cmd own failed, State.closeHostRead_of_queued host queued]
    exact State.complete_failed (by exact access) _ _
  case fetchFailed =>
    rw [State.grantTo_fetch_failed cmd own failed, State.closeFetch_of_queued (by simp [fetch, queued]), fetch]
    rfl
  case refillFailed =>
    rw [State.grantTo_refill_failed cmd own failed]
    exact State.dropRefill_of_named refill rfl

end Sys2Proof.Machine
end

section
/-! Suspensions: SUSPEND sent, the suspended status, RESUME, and a completion met in ASKED (R52 to R58, R131). -/

namespace Sys2Proof.Machine

/- One theorem after another: waiting ones would each hold a thread. -/
set_option Elab.async false

/-! ### The withdrawal of a refill put last (R40) -/

section
variable (s : State) (p : Loc → Bool)

theorem State.dropRefill_of_any {s : State} {p : Loc → Bool} (named : s.rp.refill.any p = true) : s.dropRefill p = { s with
    rp := { s.rp with refill := none }
    mp := { s.mp with reqs := s.mp.reqs.filter (fun q => q.requester ≠ .refill) } } := by
  simp [s.dropRefill_eq, named]

theorem State.dropRefill_of_not_any {s : State} {p : Loc → Bool} (other : s.rp.refill.any p = false) :
    s.dropRefill p = s := by
  simp [s.dropRefill_eq, other]

theorem State.dropRefill_withdraw (q : Request → Bool) : (s.dropRefill p).withdraw q = (s.withdraw q).dropRefill p := by
  cases named : s.rp.refill.any p with
  | false => rw [State.dropRefill_of_not_any named, State.dropRefill_of_not_any (by exact named)]
  | true =>
    rw [State.dropRefill_of_any named, State.dropRefill_of_any (by exact named)]
    simp only [State.withdraw, State.setMp]
    rw [List.filter_comm]

theorem State.dropRefill_join {r : Request} (other : r.requester ≠ .refill) :
    (s.dropRefill p).join r = (s.join r).dropRefill p := by
  have queues : (s.dropRefill p).mayQueue r = s.mayQueue r := by rw [s.dropRefill_eq]; rfl
  unfold State.join
  rw [queues]
  split
  · cases named : s.rp.refill.any p with
    | false => rw [State.dropRefill_of_not_any named, State.dropRefill_of_not_any (by exact named)]
    | true =>
      rw [State.dropRefill_of_any named, State.dropRefill_of_any (by exact named)]
      simp [State.setMp, other]
  · rfl

theorem State.dropRefill_answerReads (d : Dev) (a b : ReadPhase) :
    (s.dropRefill p).answerReads d a b = (s.answerReads d a b).dropRefill p := by
  rw [s.dropRefill_eq, (s.answerReads d a b).dropRefill_eq]
  rfl

theorem State.dropRefill_readIn (d : Dev) (a : ReadPhase) : (s.dropRefill p).readIn d a = s.readIn d a := by
  rw [s.dropRefill_eq]
  rfl

theorem State.dropRefill_deviceSuspends (d : Dev) :
    (s.dropRefill p).deviceSuspends d = (s.deviceSuspends d).dropRefill p := by
  unfold State.deviceSuspends
  rw [State.dropRefill_ctx]
  split
  · rfl
  · split
    · split
      · dsimp only
        rw [State.dropRefill_withdraw, State.dropRefill_readIn, State.dropRefill_setCtx, State.dropRefill_setCtx,
          State.dropRefill_answerReads, State.dropRefill_join _ _ (by simp)]
        split <;> rfl
      · exact s.dropRefill_join p (by simp)
    · split
      · rw [State.dropRefill_setCtx, State.dropRefill_join _ _ (by simp)]
      · exact s.dropRefill_join p (by simp)
    · exact s.dropRefill_join p (by simp)
    · rfl

end

/-! ### What the suspended status brings (R57, R58, R131) -/

section
variable {s : State} {d : Dev} {c : Ctx} (ctx : s.ctx d = some c)
include ctx

theorem State.deviceSuspends_held (phase : c.phase = .suspended) (step : c.suspendStep = some .asked)
    (sent : c.suspendSent = true) (read : s.readIn d .suspendAsked = true) : s.deviceSuspends d = { s with
      mp := { s.mp with reqs := s.mp.reqs.filter (fun q => ¬(q.cmd = .suspend ∧ q.dev = d)) }
      de := s.de.set d { s.de.get d with ctx := some { c with suspendStep := some .held, ackTime := none } }
      rp := { s.rp with
        host := s.rp.host.map (fun r =>
          if r.loc.dev = d ∧ r.phase = .suspendAsked then { r with phase := .suspendHeld } else r)
        fetch := s.rp.fetch.map (fun r =>
          if r.loc.dev = d ∧ r.phase = .suspendAsked then { r with phase := .suspendHeld } else r) } } := by
  simp only [State.deviceSuspends, ctx, phase, step, sent, if_true, State.withdraw_suspend]
  exact if_pos read

theorem State.deviceSuspends_gone (phase : c.phase = .suspended) (step : c.suspendStep = some .asked)
    (sent : c.suspendSent = true) (read : s.readIn d .suspendAsked = false) (takes : (s.dev d).takes = true) :
    s.deviceSuspends d = { s with
      mp := { s.mp with reqs := s.mp.reqs.filter (fun q => ¬(q.cmd = .suspend ∧ q.dev = d)) ++ [⟨.engine, d, .resume⟩] }
      de := s.de.set d { s.de.get d with ctx := some { c with suspendStep := some .resuming, ackTime := none } } } := by
  simp only [State.deviceSuspends, ctx, phase, step, sent, if_true, State.withdraw_suspend]
  refine (if_neg (by exact fun h => nomatch read.symm.trans h)).trans ?_
  exact State.join_of_takes (by exact takes)

theorem State.deviceSuspends_unsent (unsent : c.suspendSent = false)
    (phase : c.phase = .suspended ∧ c.suspendStep = some .asked ∨ c.phase = .programming) :
    s.deviceSuspends d = s.join ⟨.port, d, .resume⟩ := by
  rcases phase with ⟨phase, step⟩ | phase
  · simp only [State.deviceSuspends, ctx, phase, step, unsent]
    rfl
  · simp only [State.deviceSuspends, ctx, phase, unsent]
    rfl

theorem State.deviceSuspends_late (phase : c.phase = .programming) (sent : c.suspendSent = true)
    (takes : (s.dev d).takes = true) : s.deviceSuspends d = { s with
      mp := { s.mp with reqs := s.mp.reqs ++ [⟨.engine, d, .resume⟩] }
      de := s.de.set d { s.de.get d with ctx := some { c with
        phase := .suspended, suspendStep := some .resuming, ackTime := none } } } := by
  simp only [State.deviceSuspends, ctx, phase, sent, if_true]
  exact State.join_of_takes (by exact takes)

end

/-! ### Status results (R52, R128) -/

/-- The state once a device has stopped its program for a suspension, but for a refill of it (R125, R128). -/
def State.stopsProgram (s : State) (d : Dev) : State :=
  s.setMp { s.mp with bus := none, devs := s.mp.devs.set d { s.dev d with activity := .suspended, poll := none } }

section
variable {s : State} {d : Dev}

theorem State.busFree_resetOrdered (unordered : s.waits (isResetOf d) = false) : s.busFree.resetOrdered d = false := by
  have waits : s.busFree.waits (isResetOf d) = false := unordered
  rw [State.resetOrdered, waits]
  rfl

theorem State.suspendedReported_engine (owner : (s.dev d).owner = some .engine) (unordered : s.waits (isResetOf d) = false) :
    s.busFree.suspendedReported d = ((s.stopsProgram d).deviceSuspends d).dropRefill (fun l => l.dev = d) := by
  have programs : (s.busFree.dev d).owner = some .engine := owner
  rw [← State.dropRefill_deviceSuspends]
  unfold State.suspendedReported
  dsimp only
  rw [if_neg (by simp [State.busFree_resetOrdered unordered])]
  split
  · rfl
  · next other => exact nomatch programs.symm.trans other
  · next other _ => exact absurd programs other

theorem State.suspendedReported_mu (owner : (s.dev d).owner = some .mu) (unordered : s.waits (isResetOf d) = false) :
    s.busFree.suspendedReported d = ((s.stopsProgram d).join ⟨.port, d, .resume⟩).dropRefill (fun l => l.dev = d) := by
  have programs : (s.busFree.dev d).owner = some .mu := owner
  rw [← State.dropRefill_join _ _ (by simp)]
  unfold State.suspendedReported
  dsimp only
  rw [if_neg (by simp [State.busFree_resetOrdered unordered])]
  split
  · next other => exact nomatch programs.symm.trans other
  · rfl
  · next _ other => exact absurd programs other

theorem State.programReady_fails (owner : (s.dev d).owner = some .engine) (unordered : s.resetOrdered d = false) :
    s.programReady d false = ((s.nvmSpoil d).setDev d (s.dev d).toIdle).programCompletes d false := by
  refine (if_neg (by simp [unordered])).trans ?_
  simp only [owner]
  rfl

/-- A completion gives up the suspend that stands in ASKED (R52 to R54, R57). -/
theorem State.programCompletes_eq {c : Ctx} (ctx : s.ctx d = some c)
    (phase : c.phase = .programming ∨ c.phase = .suspended) (pass : Bool) : s.programCompletes d pass =
      if pass then (s.giveUpSuspend d c).batchPasses d c
      else ((s.giveUpSuspend d c).invalidate d c.home).batchFails d c := by
  rcases phase with phase | phase <;> simp only [State.programCompletes, ctx, phase]

theorem State.giveUpSuspend_asked {c : Ctx} (phase : c.phase = .suspended) (step : c.suspendStep = some .asked) :
    s.giveUpSuspend d c = { s with
      mp := { s.mp with reqs := s.mp.reqs.filter (fun q => ¬(q.cmd = .suspend ∧ q.dev = d)) }
      rp := { s.rp with
        host := s.rp.host.map (fun r => if r.loc.dev = d ∧ r.phase = .suspendAsked then { r with phase := .queued } else r)
        fetch := s.rp.fetch.map (fun r =>
          if r.loc.dev = d ∧ r.phase = .suspendAsked then { r with phase := .queued } else r) } } := by
  refine (if_pos ⟨phase, step⟩).trans ?_
  rw [State.withdraw_suspend]
  rfl

theorem State.giveUpSuspend_other {c : Ctx} (phase : c.phase ≠ .suspended) : s.giveUpSuspend d c = s :=
  if_neg fun h => phase h.1

end

/-! ### The ends of SUSPEND and RESUME (R57, R58) -/

section
variable {s : State} {t : Transfer} (bus : s.mp.bus = some t)
include bus

theorem State.transferEnds_suspend (cmd : t.req.cmd = .suspend) (answer : BusAnswer) :
    s.transferEnds answer = s.busFree.suspendSent t.req.dev := by
  simp only [State.transferEnds, bus, cmd]
  rfl

theorem State.transferEnds_resume (cmd : t.req.cmd = .resume) (answer : BusAnswer) :
    s.transferEnds answer = s.busFree.resumeTaken t.req.dev := by
  simp only [State.transferEnds, bus, cmd]
  rfl

end

section
variable {s : State} {d : Dev} {c : Ctx} (ctx : s.ctx d = some c)
include ctx

theorem State.suspendSent_asked (phase : c.phase = .suspended) (step : c.suspendStep = some .asked) : s.suspendSent d =
    s.setCtx d (some { c with suspendSent := true, ackTime := some 0 }) := by
  simp only [State.suspendSent, ctx]
  exact if_pos ⟨phase, step⟩

theorem State.engineResumed_suspended (phase : c.phase = .suspended) (step : c.suspendStep ≠ some .asked) :
    s.engineResumed d = s.setCtx d (some { c with phase := .programming, suspendStep := none }) := by
  simp only [State.engineResumed, ctx]
  exact if_pos ⟨phase, step⟩

/-- A suspend that is still asked for stays so after the RESUME of R131. -/
theorem State.engineResumed_other (other : c.phase ≠ .suspended ∨ c.suspendStep = some .asked) : s.engineResumed d = s := by
  simp only [State.engineResumed, ctx]
  exact if_neg fun h => other.elim (absurd h.1) (fun asked => h.2 asked)

end

/-- Settles O39: the two commands by their ends, the suspended status by the engine's step, and a completion in ASKED by what the
suspend given up and the batch that ends bring together. -/
theorem suspensions : Obligations.Suspensions := by
  refine ⟨?sent, ?reported, ?completed⟩
  case sent =>
    rintro s t d c answer alive bus rfl ctx
    refine ⟨fun cmd phase step => State.exec_transferEnd alive ?_, fun cmd suspended =>
      ⟨fun phase step => State.exec_transferEnd alive ?_, fun other => State.exec_transferEnd alive ?_⟩⟩
    · rw [State.transferEnds_suspend bus cmd, State.suspendSent_asked (by exact ctx) phase step]
      rfl
    · rw [State.transferEnds_resume bus cmd]
      refine (if_pos (by exact suspended)).trans ?_
      rw [State.engineResumed_suspended (by exact ctx) phase step]
      rfl
    · rw [State.transferEnds_resume bus cmd]
      refine (if_pos (by exact suspended)).trans ?_
      exact State.engineResumed_other (by exact ctx) other
  case reported =>
    rintro s t d alive bus cmd rfl programming unordered takes
    have reports : s.transferEnds (.status .suspended) = s.busFree.suspendedReported t.req.dev := by
      have busy : (s.busFree.dev t.req.dev).activity = .programming := programming
      rw [State.transferEnds_readStatus bus cmd]
      simp only [State.statusReturned, busy, answerStatus]
    have still : ((s.stopsProgram t.req.dev).dev t.req.dev).takes = true := by
      have kept := s.busFree.dev_setDev_same t.req.dev { s.dev t.req.dev with activity := .suspended, poll := none }
      exact (congrArg DevRecord.takes kept).trans takes
    refine ⟨fun mu => State.exec_transferEnd alive ?_, fun c engine ctx => ?_⟩
    · rw [reports, State.suspendedReported_mu mu unordered, State.join_of_takes (by exact still)]
      rfl
    · rw [State.suspendedReported_engine engine unordered] at reports
      have stops {u : State} (h : (s.stopsProgram t.req.dev).deviceSuspends t.req.dev = u) :
          exec (.memoryTransferEnd (.status .suspended)) s = .next (u.dropRefill (fun l => l.dev = t.req.dev)).settle :=
        State.exec_transferEnd alive (reports.trans (congrArg (State.dropRefill · _) h))
      refine ⟨fun phase step sent read => stops ?_, fun phase step sent read => stops ?_,
        fun phase step unsent => stops ?_, fun phase sent => stops ?_, fun phase unsent => stops ?_⟩
      · exact State.deviceSuspends_held (by exact ctx) phase step sent (by exact read)
      · exact State.deviceSuspends_gone (by exact ctx) phase step sent (by exact read) still
      · rw [State.deviceSuspends_unsent (by exact ctx) unsent (.inl ⟨phase, step⟩), State.join_of_takes (by exact still)]
        rfl
      · exact State.deviceSuspends_late (by exact ctx) phase sent still
      · rw [State.deviceSuspends_unsent (by exact ctx) unsent (.inr phase), State.join_of_takes (by exact still)]
        rfl
  case completed =>
    rintro s t d c alive bus cmd rfl programming owner unordered ctx phase step
    dsimp only
    have busy : (s.busFree.dev t.req.dev).activity = .programming := programming
    refine ⟨State.exec_transferEnd alive ?_, State.exec_transferEnd alive ?_⟩
    · rw [State.transferEnds_readStatus bus cmd]
      simp only [State.statusReturned, busy, answerStatus]
      rw [State.programReady_engine (by exact owner) (State.busFree_resetOrdered unordered), State.busFree,
        State.nvmPass_setMp, State.programCompletes_eq (by exact ctx) (.inr phase), if_pos rfl,
        State.giveUpSuspend_asked phase step, State.batchPasses_eq]
      rfl
    · rw [State.transferEnds_readStatus bus cmd]
      simp only [State.statusReturned, busy, answerStatus]
      rw [State.programReady_fails (by exact owner) (State.busFree_resetOrdered unordered), State.busFree,
        State.nvmSpoil_setMp, State.programCompletes_eq (by exact ctx) (.inr phase), if_neg (by simp),
        State.giveUpSuspend_asked phase step]
      rfl

end Sys2Proof.Machine
end

section
/-! The beginnings of a retirement: a failed batch, the reset after its timeout, the old page's read (R54, R61, R65, R89 to R91). -/

namespace Sys2Proof.Machine

/- One theorem after another: waiting ones would each hold a thread. -/
set_option Elab.async false

/-! ### The image of a retirement (R90) -/

theorem getElem?_overlayBytes {image : List Byte} {batch : List (Option Byte)} (same : image.length = batch.length) (k : Nat) :
    (overlayBytes image batch)[k]? = match byteAt batch k with
      | some v => some v
      | none => image[k]? := by
  unfold overlayBytes
  rw [List.getElem?_zipWith]
  by_cases hk : k < image.length
  · rw [byteAt_of_lt (same ▸ hk), List.getElem?_eq_getElem hk, List.getElem?_eq_getElem (same ▸ hk)]
    cases batch[k] <;> rfl
  · rw [byteAt_of_length_le (by omega), List.getElem?_eq_none (by omega)]

/-! ### A fault record and other changes (R182) -/

/-- The management port once a fault has been posted. -/
def ManagementPort.faulted (m : ManagementPort) (kind : FaultKind) (dev : Option Dev) (page count : Option Nat) :
    ManagementPort :=
  if m.faults.length < Config.faultRecords then
    { m with
      faultNumber := m.faultNumber + 1
      faults := m.faults ++ [{ kind := kind, dev := dev, page := page, count := count, number := m.faultNumber + 1 }] }
  else { m with faultNumber := m.faultNumber + 1, overflow := true }

section
variable (s : State) (kind : FaultKind) (dev : Option Dev) (page count : Option Nat)

theorem State.postFault_eq : s.postFault kind dev page count = s.setMgp (s.mgp.faulted kind dev page count) := by
  unfold State.postFault ManagementPort.faulted
  dsimp only
  split <;> rfl

theorem State.postFault_setCtx (d : Dev) (c : Option Ctx) :
    (s.postFault kind dev page count).setCtx d c = (s.setCtx d c).postFault kind dev page count := by
  rw [State.postFault_eq, State.postFault_eq]
  rfl

theorem State.postFault_setDev (d : Dev) (r : DevRecord) :
    (s.postFault kind dev page count).setDev d r = (s.setDev d r).postFault kind dev page count := by
  rw [State.postFault_eq, State.postFault_eq]
  rfl

theorem State.postFault_join (r : Request) :
    (s.postFault kind dev page count).join r = (s.join r).postFault kind dev page count := by
  have queues : (s.postFault kind dev page count).mayQueue r = s.mayQueue r := by
    rw [State.postFault_eq]
    rfl
  unfold State.join
  rw [queues]
  split
  · rw [State.postFault_eq, State.postFault_eq]
    rfl
  · rfl

theorem State.postFault_memoryStep (d : Dev) (c : Ctx) (cmd : Cmd) :
    (s.postFault kind dev page count).memoryStep d c cmd = (s.memoryStep d c cmd).postFault kind dev page count := by
  have engine : (s.postFault kind dev page count).de = s.de := by simp
  unfold State.memoryStep
  rw [engine]
  split
  · exact s.postFault_setCtx ..
  · rw [State.postFault_setCtx, State.postFault_join]

end

/-! ### The flow's steps (R65, R89 to R91) -/

section
variable {s : State} {d : Dev} {c : Ctx}

theorem State.memoryStep_of_running (running : (s.de.get d).stopping = false) (takes : (s.dev d).takes = true) (cmd : Cmd) :
    s.memoryStep d c cmd = { s with
      de := s.de.set d { s.de.get d with ctx := some c }
      mp := { s.mp with reqs := s.mp.reqs ++ [⟨.engine, d, cmd⟩] } } := by
  refine (if_neg (by simp [running])).trans ?_
  exact State.join_of_takes (by exact takes)

theorem State.memoryStep_of_stopping (stopping : (s.de.get d).stopping = true) (cmd : Cmd) :
    s.memoryStep d c cmd = { s with
      de := s.de.set d { s.de.get d with ctx := some { c with phase := .stopped, before := some c.phase } } } :=
  if_pos stopping

theorem State.retireRead_of_none_free (free : s.ru.free.get d = []) (changed : Bool) :
    s.retireRead d c changed = s.unremappable d c changed :=
  if_pos (.inl free)

theorem State.retireRead_of_free (free : s.ru.free.get d ≠ []) (left : c.attempts < Config.spareAttempts)
    (image : c.image = none) (changed : Bool) :
    s.retireRead d c changed = s.memoryStep d { c with phase := .retireRead } (.read c.phys 0 16) := by
  refine (if_neg ?_).trans ?_
  · rintro (none_free | spent)
    · exact free none_free
    · omega
  · rw [image]

theorem State.retireProgram_of_none_free (candidate : c.candidate = none) (free : s.ru.free.get d = []) (image : List Byte) :
    s.retireProgram d c image = s.unremappable d c false := by
  simp only [State.retireProgram, candidate, State.takeSpare, free]

/-- The state once the lowest free spare is in the hold. -/
def State.holdsSpare (s : State) (d : Dev) (p : Nat) (rest : List Nat) : State :=
  s.setRu { s.ru with free := s.ru.free.set d rest, hold := s.ru.hold.set d (some p) }

theorem State.retireProgram_of_free {p : Nat} {rest : List Nat} (candidate : c.candidate = none)
    (free : s.ru.free.get d = p :: rest) (image : List Byte) :
    s.retireProgram d c image =
      let u := (s.holdsSpare d p rest).memoryStep d { c with phase := .retireProgram, candidate := some p, programTime := 0 }
        (.programPage p (overlayBytes image c.batch))
      if rest.length = 4 then u.postFault .sparesLow (some d) none (some 4) else u := by
  simp only [State.retireProgram, candidate, State.takeSpare, free]
  by_cases low : rest.length = Config.sparesLow
  · rw [if_pos low, if_pos (by exact low), State.postFault_memoryStep]
    rfl
  · rw [if_neg low, if_neg (by exact low)]
    rfl

end

/-! ### The events that begin it -/

section
variable {s : State} {d : Dev} {c : Ctx}

theorem State.resetCompletes_engine (owner : (s.dev d).owner = some .engine) :
    s.resetCompletes d = (s.setDev d (s.dev d).toIdle).engineResetDone d := by
  simp only [State.resetCompletes, owner]

theorem State.engineResetDone_batch (ctx : s.ctx d = some c) (phase : c.phase = .resetting) (candidate : c.candidate = none) :
    s.engineResetDone d = s.batchFails d c := by
  simp only [State.engineResetDone, ctx, phase, candidate, if_true]

theorem State.statusReturned_reset (resetting : (s.dev d).activity = .resetting) {r : StatusResult}
    (ready : r = .readyPass ∨ r = .readyFail) : s.statusReturned d r = s.resetCompletes d := by
  rcases ready with rfl | rfl <;> simp only [State.statusReturned, resetting]

theorem State.transferEnds_engineRead {t : Transfer} {page line n : Nat} (bus : s.mp.bus = some t)
    (req : t.req = ⟨.engine, d, .read page line n⟩) (answer : BusAnswer) :
    s.transferEnds answer = s.busFree.retireReadReturned d ((s.nvm.get d).readBytes page line n) := by
  simp only [State.transferEnds, bus, req]
  rfl

theorem State.retireReadReturned_eq (ctx : s.ctx d = some c) (phase : c.phase = .retireRead) (bytes : List Byte) :
    s.retireReadReturned d bytes = s.retireProgram d { c with image := some bytes } bytes := by
  simp only [State.retireReadReturned, ctx, phase, if_true]

end

/-- Settles O40: what a failed batch brings over every state, and the events that come to it or to the spare's program. -/
theorem retirementBegins : Obligations.RetirementBegins := by
  refine ⟨fun s d c => ⟨?none, ?read, ?stopped⟩, ?status, ?image, fun image batch k li lb =>
    getElem?_overlayBytes (li.trans lb.symm) k⟩
  case none =>
    exact fun free => State.retireRead_of_none_free free false
  case read =>
    intro free running takes
    have left : 0 < Config.spareAttempts := by decide
    exact (State.retireRead_of_free free left rfl false).trans (State.memoryStep_of_running running takes _)
  case stopped =>
    intro free stopping
    have left : 0 < Config.spareAttempts := by decide
    exact (State.retireRead_of_free free left rfl false).trans (State.memoryStep_of_stopping stopping _)
  case status =>
    rintro s t d c alive bus cmd rfl owner ctx
    dsimp only
    refine ⟨fun programming unordered phase => State.exec_transferEnd alive ?_,
      fun r resetting phase candidate ready => State.exec_transferEnd alive ?_⟩
    · have busy : (s.busFree.dev t.req.dev).activity = .programming := programming
      rw [State.transferEnds_readStatus bus cmd]
      simp only [State.statusReturned, busy, answerStatus]
      rw [State.programReady_fails (by exact owner) (State.busFree_resetOrdered unordered), State.busFree,
        State.nvmSpoil_setMp, State.programCompletes_eq (by exact ctx) (.inl phase), if_neg (by simp),
        State.giveUpSuspend_other (by simp [phase])]
      rfl
    · rw [State.transferEnds_readStatus bus cmd, answerStatus, State.statusReturned_reset (by exact resetting) ready,
        State.resetCompletes_engine (by exact owner), State.engineResetDone_batch (by exact ctx) phase candidate]
      rfl
  case image =>
    intro s t d c page line n answer alive bus req ctx phase candidate
    dsimp only
    have returns := State.transferEnds_engineRead bus req answer
    rw [State.retireReadReturned_eq (by exact ctx) phase] at returns
    refine ⟨fun none_free => State.exec_transferEnd alive (returns.trans ?_), fun p rest free => ?_⟩
    · exact State.retireProgram_of_none_free (by exact candidate) (by exact none_free) _
    · rw [State.retireProgram_of_free (by exact candidate) (by exact free)] at returns
      dsimp only at returns
      refine ⟨fun running takes => State.exec_transferEnd alive ?_, fun stopping => State.exec_transferEnd alive ?_⟩
      · rw [returns, State.memoryStep_of_running (by exact running) (by exact takes)]
        rfl
      · rw [returns, State.memoryStep_of_stopping (by exact stopping), List.append_nil]
        rfl

end Sys2Proof.Machine
end

section
/-! The limits of a program run out, also with a suspend in ASKED (R57, R60, R130). -/

namespace Sys2Proof.Machine

/- One theorem after another: waiting ones would each hold a thread. -/
set_option Elab.async false

section
variable {s : State} {d : Dev} {c : Ctx}

/-! ### The acknowledgement limit (R57) -/

theorem State.ackExpires_eq (ctx : s.ctx d = some c) (phase : c.phase = .suspended) (step : c.suspendStep = some .asked)
    (runs : c.ackTime.isSome = true) : s.ackExpires d =
      (s.setCtx d (some { c with phase := .programming, suspendStep := none, ackTime := none })).answerReads d
        .suspendAsked .queued := by
  simp only [State.ackExpires, ctx]
  exact if_pos ⟨phase, step, runs⟩

/-! ### The program time limit of an engine (R60) -/

/-- What giving up brings, whether a suspend stands in ASKED or not (R57). -/
theorem State.giveUpSuspend_eq (s : State) (d : Dev) (c : Ctx) :
    s.giveUpSuspend d c = { s with
      mp := { s.mp with reqs := s.mp.reqs.filter (fun q =>
        ¬((c.phase = .suspended ∧ c.suspendStep = some .asked) ∧ q.cmd = .suspend ∧ q.dev = d)) }
      rp := { s.rp with
        host := s.rp.host.map (fun r => { r with phase :=
          if (c.phase = .suspended ∧ c.suspendStep = some .asked) ∧ r.loc.dev = d ∧ r.phase = .suspendAsked then .queued
          else r.phase })
        fetch := s.rp.fetch.map (fun r => { r with phase :=
          if (c.phase = .suspended ∧ c.suspendStep = some .asked) ∧ r.loc.dev = d ∧ r.phase = .suspendAsked then .queued
          else r.phase }) } } := by
  by_cases asked : c.phase = .suspended ∧ c.suspendStep = some .asked
  · simp only [State.giveUpSuspend_asked asked.1 asked.2, asked, true_and]
    congr <;> funext r <;> split <;> rfl
  · have kept : s.giveUpSuspend d c = s := if_neg asked
    rw [kept]
    simp only [asked, false_and, not_false_eq_true, decide_true, List.filter_true, if_false, Option.map_id']

theorem State.programTimed_of_engine (activity : (s.dev d).activity = .programming) (owner : (s.dev d).owner = some .engine)
    (ctx : s.ctx d = some c) (timed : c.phase = .programming ∨ c.phase = .retireProgram ∨
      c.phase = .suspended ∧ c.suspendStep = some .asked) : s.programTimed d = true := by
  simp only [State.programTimed, activity, owner, ctx]
  rcases timed with phase | phase | ⟨phase, step⟩ <;> simp [*]

/-- The context once its program has timed out. -/
def Ctx.timedOut (c : Ctx) : Ctx :=
  { c with phase := .resetting, started := false, suspendStep := none, ackTime := none, programTime := 4000 }

theorem State.programExpires_eq (ctx : s.ctx d = some c) (timed : s.programTimed d = true) : s.programExpires d =
    (((((s.giveUpSuspend d c).setRp { (s.giveUpSuspend d c).rp with
      lines := (s.giveUpSuspend d c).rp.lines.filter (fun r => !(r.loc.dev = d && r.loc.page = c.home)) }).setCtx d
        (some c.timedOut)).join ⟨.engine, d, .deviceReset⟩).dropRefill (fun l => l.dev = d && l.page = c.home)).postFault
          .programTimeout (some d) (some c.home) none := by
  simp only [State.programExpires, ctx, timed, if_true, State.invalidate]
  rw [State.postFault_setCtx, State.postFault_join, State.dropRefill_setCtx, State.dropRefill_join _ _ (by simp)]
  rfl

/-! ### The metadata unit's program time (R130) -/

theorem State.muProgramExpires_eq (activity : (s.dev .d0).activity = .programming) (owner : (s.dev .d0).owner = some .mu)
    (unordered : s.resetOrdered .d0 = false) : s.muProgramExpires =
      ((s.setDev .d0 { s.dev .d0 with muProgramTime := some 4000 }).join ⟨.mu, .d0, .deviceReset⟩).postFault .programTimeout
        (some .d0) (s.dev .d0).page none := by
  have record : (s.postFault .programTimeout (some .d0) (s.dev .d0).page none).dev .d0 = s.dev .d0 := by simp [State.dev]
  refine (if_pos ⟨activity, owner, unordered⟩).trans ?_
  dsimp only
  rw [record, State.postFault_setDev, State.postFault_join]
  rfl

end

/-- Settles O42: each limit by what its expiry brings, with the fault record and the withdrawn refill put last. -/
theorem programLimitsExpire : Obligations.ProgramLimitsExpire := by
  have expires {s t : State} {f : State → State} (alive : s.alive = true) (h : f s = t) : s.event f = t.settle :=
    (State.event_of_alive alive f).trans (congrArg State.settle h)
  refine ⟨fun s d c alive ctx phase step runs => congrArg _ (expires alive (State.ackExpires_eq ctx phase step runs)),
    ?program, fun s alive activity owner takes unordered => ?metadata⟩
  case program =>
    intro s d c alive ctx activity owner takes
    dsimp only
    intro timed
    refine congrArg _ (expires alive ?_)
    rw [State.programExpires_eq ctx (State.programTimed_of_engine activity owner ctx timed), State.giveUpSuspend_eq,
      State.join_of_takes (by exact takes)]
    rfl
  case metadata =>
    refine congrArg _ (expires alive ?_)
    have still : ((s.setDev .d0 { s.dev .d0 with muProgramTime := some 4000 }).dev .d0).takes = true := takes
    rw [State.muProgramExpires_eq activity owner unordered, State.join_of_takes (by exact still)]
    rfl

end Sys2Proof.Machine
end

section
/-! The probe at boot: its two resets, its IDENTIFYs, and where it ends (R126, R127, R157). -/

namespace Sys2Proof.Machine

/- One theorem after another: waiting ones would each hold a thread. -/
set_option Elab.async false

section
variable {s : State} {d : Dev}

/-! ### The resets (R126, R129) -/

/-- A transfer of the probe may be queued for a device of any state (R134). -/
theorem State.join_probe_eq (s : State) (d : Dev) (cmd : Cmd) :
    s.join ⟨.probe, d, cmd⟩ = { s with mp := { s.mp with reqs := s.mp.reqs ++ [⟨.probe, d, cmd⟩] } } :=
  if_pos (by simp [State.mayQueue])

theorem State.resetTaken_probe (probe : s.mp.probe.isSome = true) (d : Dev) :
    let resetting : State := { s with
      nvm := (s.nvmSpoil d).nvm, indet := (s.nvmSpoil d).indet
      mp := { s.mp with
        bus := none
        devs := s.mp.devs.set d { s.dev d with
          activity := .resetting, owner := some .probe, page := none, poll := some 10, resetDeadline := some 1000
          muProgramTime := none } } }
    s.busFree.resetTaken .probe d =
      (if d = .d0 then resetting.join ⟨.probe, .d1, .deviceReset⟩ else resetting).dropRefill (fun l => l.dev = d) := by
  intro resetting
  have begun : (s.busFree.nvmSpoil d).turnBusy d { s.busFree.dev d with
      activity := .resetting, owner := some .probe, page := none, poll := some 10, resetDeadline := some 1000
      muProgramTime := none } = resetting.dropRefill (fun l => l.dev = d) := by
    rw [State.busFree, State.nvmSpoil_setMp]
    rfl
  have stands : (resetting.dropRefill (fun l => l.dev = d)).mp.probe.isSome = true := by
    rw [State.dropRefill_eq]
    exact probe
  unfold State.resetTaken
  dsimp only [Requester.owner, Config.pollInterval, Config.resetLimit]
  rw [begun]
  by_cases first : d = .d0
  · rw [if_pos ⟨rfl, first, stands⟩, if_pos first, State.dropRefill_join _ _ (by simp)]
  · rw [if_neg (fun h => first h.2.1), if_neg first]

/-- With one reset not settled nothing follows. -/
theorem State.probeNext_waits {q : PerDev (Option Bool)} (probe : s.mp.probe = some q) (open' : q.d0 = none ∨ q.d1 = none) :
    s.probeNext = s := by
  obtain ⟨a, b⟩ := q
  rcases open' with rfl | rfl
  · simp only [State.probeNext, probe]
  · cases a <;> simp only [State.probeNext, probe]

/-- With both settled IDENTIFY goes to the first device that is ready, and with none the probe is over. -/
theorem State.probeNext_settled {a b : Bool} (probe : s.mp.probe = some ⟨some a, some b⟩) : s.probeNext =
    if a then s.join ⟨.probe, .d0, .identify⟩ else if b then s.join ⟨.probe, .d1, .identify⟩ else s.probeReported := by
  simp only [State.probeNext, probe]

theorem State.probeResetSettled_eq {p : PerDev (Option Bool)} (probe : s.mp.probe = some p) (d : Dev) (ready : Bool) :
    s.probeResetSettled d ready = (s.setMp { s.mp with probe := some (p.set d (some ready)) }).probeNext := by
  simp only [State.probeResetSettled, probe]

theorem State.resetExpires_probe (resetting : (s.dev d).activity = .resetting) (owner : (s.dev d).owner = some .probe) :
    s.resetExpires d = (s.setDev d DevRecord.reset).probeResetSettled d false :=
  (if_pos resetting).trans (if_pos owner)

theorem State.resetCompletes_probe (owner : (s.dev d).owner = some .probe) :
    s.resetCompletes d = (s.setDev d (s.dev d).toIdle).probeResetSettled d true := by
  simp only [State.resetCompletes, owner]

/-! ### The end of the probe (R127, R157) -/

theorem State.probeReported_takes (takes : (s.dev .d0).takes = true) : s.probeReported = { s with
    sc := { s.sc with step := some .load }
    mu := { s.mu with op := some (.load []) }
    mp := { s.mp with probe := none, reqs := s.mp.reqs ++ [⟨.mu, .d0, .read 8186 0 16⟩] } } := by
  refine (if_pos (by exact takes)).trans ?_
  exact State.muRequest_of_takes (by exact takes) _

theorem State.probeReported_gone (gone : (s.dev .d0).takes = false) : s.probeReported = { s with
    sc := { s.sc with noDevice0 := true, state := .halted, step := none, returnWrite := false, plan := none }
    mp := { s.mp with probe := none } } :=
  if_neg (by exact fun takes => nomatch gone.symm.trans takes)

theorem State.transferEnds_identify {t : Transfer} (bus : s.mp.bus = some t) (cmd : t.req.cmd = .identify)
    (answer : BusAnswer) : s.transferEnds answer = s.busFree.identified t.req.dev answer := by
  simp only [State.transferEnds, bus, cmd]
  rfl

/-- The device records once an IDENTIFY has been answered (R127). -/
def State.identifiedDevs (s : State) (d : Dev) (answer : BusAnswer) : PerDev DevRecord :=
  if answer = .identity true 8192 then s.mp.devs.set d { s.dev d with state := .online } else s.mp.devs

theorem State.identified_eq {p : PerDev (Option Bool)} (probe : s.mp.probe = some p) (d : Dev) (answer : BusAnswer) :
    s.identified d answer =
      let u := s.setMp { s.mp with devs := s.identifiedDevs d answer }
      if d = .d0 ∧ p.d1 = some true then u.join ⟨.probe, .d1, .identify⟩ else u.probeReported := by
  have told : (if answer = .identity true 8192 then s.setDev d { s.dev d with state := .online } else s) =
      s.setMp { s.mp with devs := s.identifiedDevs d answer } := by
    unfold State.identifiedDevs
    split <;> rfl
  simp only [State.identified, probe, told]

end

/-- Settles O44: each reset by how it is settled, and the probe's next step by what both have come to. -/
theorem probeRuns : Obligations.ProbeRuns := by
  refine ⟨?reset, ?settled, ?identify⟩
  case reset =>
    intro s t d answer alive bus req probe
    dsimp only
    refine State.exec_transferEnd alive ?_
    rw [State.transferEnds_deviceReset bus (by rw [req]), req, State.resetTaken_probe probe, State.join_probe_eq]
  case settled =>
    intro s d p i u ready alive resetting owner probe
    dsimp only
    intro event
    have reaches : exec i s = .next u.probeNext.settle ∧ u.mp.probe = some (p.set d (some ready)) := by
      rcases event with ⟨rfl, rfl, rfl⟩ | ⟨rfl, answer, ⟨t, bus, cmd, rfl⟩, rfl⟩
      · refine ⟨congrArg _ ((State.event_of_alive alive _).trans (congrArg State.settle ?_)), rfl⟩
        rw [State.resetExpires_probe resetting owner, State.probeResetSettled_eq (by exact probe)]
        rfl
      · obtain ⟨r, rfl, result⟩ : ∃ r, i = .memoryTransferEnd (.status r) ∧ (r = .readyPass ∨ r = .readyFail) := by
          rcases answer with rfl | rfl
          exacts [⟨_, rfl, .inl rfl⟩, ⟨_, rfl, .inr rfl⟩]
        refine ⟨State.exec_transferEnd alive ?_, rfl⟩
        rw [State.transferEnds_readStatus bus cmd, answerStatus, State.statusReturned_reset (by exact resetting) result,
          State.resetCompletes_probe (by exact owner), State.probeResetSettled_eq (by exact probe)]
        rfl
    generalize p.set d (some ready) = q at reaches ⊢
    obtain ⟨reached, both⟩ := reaches
    obtain ⟨a, b⟩ := q
    have ends {v : State} (h : u.probeNext = v) : exec i s = .next v.settle :=
      reached.trans (congrArg (fun v : State => Host.Outcome.next v.settle) h)
    refine ⟨fun open' => ends (State.probeNext_waits both open'), ?first, ?second, ?none⟩
    case first =>
      rintro ⟨⟩ known
      obtain ⟨b, rfl⟩ := Option.isSome_iff_exists.1 known
      exact ends ((State.probeNext_settled both).trans (State.join_probe_eq ..))
    case second =>
      rintro ⟨⟩ ⟨⟩
      exact ends ((State.probeNext_settled both).trans (State.join_probe_eq ..))
    case none =>
      rintro ⟨⟩ ⟨⟩ gone
      exact ends ((State.probeNext_settled both).trans (State.probeReported_gone gone))
  case identify =>
    intro s t d p answer alive bus req probe
    dsimp only
    have ends := State.transferEnds_identify bus (by rw [req]) answer
    rw [State.identified_eq (by exact probe), req] at ends
    refine ⟨fun first second => State.exec_transferEnd alive (ends.trans ?_), fun last =>
      ⟨fun takes => State.exec_transferEnd alive (ends.trans ?_), fun gone => State.exec_transferEnd alive (ends.trans ?_)⟩⟩
    · refine (if_pos ⟨first, second⟩).trans ?_
      exact State.join_probe_eq ..
    · refine (if_neg ?_).trans (State.probeReported_takes (by exact takes))
      exact fun both => last.elim (fun second => nomatch both.1.symm.trans second) (fun none => none both.2)
    · refine (if_neg ?_).trans (State.probeReported_gone (by exact gone))
      exact fun both => last.elim (fun second => nomatch both.1.symm.trans second) (fun none => none both.2)

end Sys2Proof.Machine
end

section
/-! The read path leaves RUN: its records close, its ungranted requests are withdrawn, and the suspensions made for them
end (R43 to R45, R57, R58). -/

namespace Sys2Proof.Machine

/- One theorem after another: waiting ones would each hold a thread. -/
set_option Elab.async false

/-! ### The records (R45) -/

theorem State.closeHostRead_rp (s : State) : s.closeHostRead.rp = { s.rp with host := none } := by
  unfold State.closeHostRead
  split
  · next host => exact congrArg (fun h => { s.rp with host := h }) host
  · dsimp only
    split
    · rfl
    · simp

theorem State.closeFetch_rp (s : State) : s.closeFetch.rp = { s.rp with fetch := none } := by
  unfold State.closeFetch
  split
  · next fetch => exact congrArg (fun f => { s.rp with fetch := f }) fetch
  · simp

theorem State.dropRefill_all_rp (s : State) : (s.dropRefill (fun _ => true)).rp = { s.rp with refill := none } := by
  have left : (if s.rp.refill.any (fun _ => true) then none else s.rp.refill) = none := by cases s.rp.refill <;> rfl
  rw [s.dropRefill_eq, left]

theorem State.leaveRunReads_rp (s : State) : s.leaveRunReads.rp = { s.rp with host := none, fetch := none, refill := none } := by
  rw [State.leaveRunReads, State.dropRefill_all_rp, State.closeFetch_rp, State.closeHostRead_rp]

/-! ### The requests (R45, R135) -/

/-- A request of the read path's own reads. -/
def Requester.isRead : Requester → Bool
  | .hostRead | .fetch | .refill => true
  | _ => false

/-- The bus and the devices stay; a RESUME of an engine may join, and requests of the read path and SUSPENDs may go. -/
structure State.ReadsGo (s t : State) : Prop where
  bus  : t.mp.bus = s.mp.bus
  devs : t.mp.devs = s.mp.devs
  old  : ∀ q ∈ t.mp.reqs, q ∈ s.mp.reqs ∨ ∃ d, q = ⟨.engine, d, .resume⟩
  kept : ∀ q ∈ s.mp.reqs, q.requester.isRead = false → q.cmd ≠ .suspend → q ∈ t.mp.reqs

theorem State.ReadsGo.trans {s t u : State} (h : s.ReadsGo t) (k : t.ReadsGo u) : s.ReadsGo u where
  bus := k.bus.trans h.bus
  devs := k.devs.trans h.devs
  old q hq := (k.old q hq).elim (h.old q) .inr
  kept q hq other cmd := k.kept q (h.kept q hq other cmd) other cmd

theorem State.ReadsGo.of_mp {s t : State} (mp : t.mp = s.mp) : s.ReadsGo t where
  bus := by rw [mp]
  devs := by rw [mp]
  old q hq := .inl (mp ▸ hq)
  kept q hq _ _ := mp ▸ hq

theorem State.ReadsGo.refl (s : State) : s.ReadsGo s := .of_mp rfl

theorem State.withdraw_readsGo (s : State) {p : Request → Bool}
    (path : ∀ q, p q = true → q.requester.isRead = true ∨ q.cmd = .suspend) : s.ReadsGo (s.withdraw p) where
  bus := rfl
  devs := rfl
  old _ hq := .inl (List.mem_filter.1 hq).1
  kept q hq other cmd := by
    refine List.mem_filter.2 ⟨hq, ?_⟩
    cases gone : p q with
    | false => rfl
    | true => exact absurd (path q gone) (by simp [other, cmd])

theorem State.withdrawRead_readsGo (s : State) {r : Requester} (read : r.isRead = true) :
    s.ReadsGo (s.withdraw (fun q => q.requester = r)) :=
  s.withdraw_readsGo fun q own => .inl (by simpa [of_decide_eq_true own] using read)

theorem State.resume_readsGo (s : State) (d : Dev) : s.ReadsGo (s.join ⟨.engine, d, .resume⟩) := by
  unfold State.join
  split
  · exact ⟨rfl, rfl, fun q hq => (List.mem_append.1 hq).imp_right fun new => ⟨d, List.mem_singleton.1 new⟩,
      fun q hq _ _ => List.mem_append_left _ hq⟩
  · exact .refl s

theorem State.requesterGone_readsGo (s : State) (d : Dev) : s.ReadsGo (s.requesterGone d) := by
  unfold State.requesterGone
  (repeat' split)
  · exact .refl s
  · have withdrawn : s.ReadsGo (s.withdraw (isSuspendOf d)) :=
      s.withdraw_readsGo fun q own => .inr (by simpa using (Bool.and_eq_true_iff.1 own).1)
    exact withdrawn.trans (.of_mp rfl)
  · exact .refl s
  · exact State.ReadsGo.trans (.of_mp (by simp)) (State.resume_readsGo _ d)
  · exact .refl s

theorem State.endSuspendOf_readsGo (s : State) (d : Dev) (p : ReadPhase) : s.ReadsGo (s.endSuspendOf d p) := by
  unfold State.endSuspendOf
  split
  · exact s.requesterGone_readsGo d
  · exact .refl s

theorem State.closeHostRead_readsGo (s : State) : s.ReadsGo s.closeHostRead := by
  unfold State.closeHostRead
  split
  · exact .refl s
  · dsimp only
    split
    · exact .of_mp rfl
    · exact State.ReadsGo.trans (t := s.setRp { s.rp with host := none }) (.of_mp rfl) <|
        (State.withdrawRead_readsGo _ rfl).trans (State.endSuspendOf_readsGo _ _ _)

theorem State.closeFetch_readsGo (s : State) : s.ReadsGo s.closeFetch := by
  unfold State.closeFetch
  split
  · exact .refl s
  · exact State.ReadsGo.trans (t := s.setRp { s.rp with fetch := none }) (.of_mp rfl) <|
      (State.withdrawRead_readsGo _ rfl).trans (State.endSuspendOf_readsGo _ _ _)

theorem State.dropRefill_readsGo (s : State) (p : Loc → Bool) : s.ReadsGo (s.dropRefill p) := by
  unfold State.dropRefill
  split
  · exact .refl s
  · split
    · exact State.ReadsGo.trans (t := s.setRp { s.rp with refill := none }) (.of_mp rfl) (State.withdrawRead_readsGo _ rfl)
    · exact .refl s

theorem State.leaveRunReads_readsGo (s : State) : s.ReadsGo s.leaveRunReads :=
  s.closeHostRead_readsGo.trans <| (State.closeFetch_readsGo _).trans (State.dropRefill_readsGo _ _)

/-- No request of a requester waits. -/
def State.noneFrom (s : State) (r : Requester) : Prop := ∀ q ∈ s.mp.reqs, q.requester ≠ r

theorem State.withdraw_noneFrom (s : State) (r : Requester) : (s.withdraw (fun q => q.requester = r)).noneFrom r :=
  fun q hq => by simpa using (List.mem_filter.1 hq).2

theorem State.ReadsGo.noneFrom {s t : State} (h : s.ReadsGo t) {r : Requester} (read : r.isRead = true) (none : s.noneFrom r) :
    t.noneFrom r := by
  intro q hq
  rcases h.old q hq with old | ⟨d, rfl⟩
  · exact none q old
  · rintro rfl
    exact nomatch read

theorem State.closeHostRead_noneFrom {s : State} {r : HostRead} (host : s.rp.host = some r) (waits : r.phase ≠ .transfer) :
    s.closeHostRead.noneFrom .hostRead := by
  have withdrawn : s.readWithdrawn.noneFrom .hostRead := fun q hq => by simpa using (List.mem_filter.1 hq).2
  rw [State.closeHostRead_of_waiting host waits]
  exact (State.endSuspendOf_readsGo _ _ _).noneFrom rfl withdrawn

theorem State.closeFetch_noneFrom {s : State} (fetch : s.rp.fetch ≠ none) : s.closeFetch.noneFrom .fetch := by
  obtain ⟨f, fetch⟩ := Option.ne_none_iff_exists'.1 fetch
  simp only [State.closeFetch, fetch]
  exact (State.endSuspendOf_readsGo _ _ _).noneFrom rfl (State.withdraw_noneFrom _ .fetch)

theorem State.dropRefill_noneFrom {s : State} (refill : s.rp.refill ≠ none) :
    (s.dropRefill (fun _ => true)).noneFrom .refill := by
  obtain ⟨l, refill⟩ := Option.ne_none_iff_exists'.1 refill
  simp only [State.dropRefill, refill]
  exact State.withdraw_noneFrom _ .refill

/-- The requests of the reads whose records closed are withdrawn. -/
theorem State.leaveRunReads_withdraws {s : State} {q : Request} (hq : q ∈ s.leaveRunReads.mp.reqs) :
    ¬(q.requester = .hostRead ∧ ∃ r, s.rp.host = some r ∧ r.phase ≠ .transfer) ∧
      ¬(q.requester = .fetch ∧ s.rp.fetch ≠ none) ∧ ¬(q.requester = .refill ∧ s.rp.refill ≠ none) := by
  have fetch : s.closeHostRead.rp.fetch = s.rp.fetch := by rw [State.closeHostRead_rp]
  have refill : s.closeHostRead.closeFetch.rp.refill = s.rp.refill := by rw [State.closeFetch_rp, State.closeHostRead_rp]
  refine ⟨fun ⟨own, r, host, waits⟩ => ?_, fun ⟨own, stands⟩ => ?_, fun ⟨own, stands⟩ => ?_⟩
  · exact ((State.closeFetch_readsGo _).trans (State.dropRefill_readsGo _ _)).noneFrom rfl
      (State.closeHostRead_noneFrom host waits) q hq own
  · exact (State.dropRefill_readsGo _ _).noneFrom rfl (State.closeFetch_noneFrom (fetch ▸ stands)) q hq own
  · exact State.dropRefill_noneFrom (refill ▸ stands) q hq own

/-! ### The suspension of one device (R57, R58) -/

/-- What the requests of a device have that the reads of another device and the withdrawal of reads leave. -/
structure Undisturbed (d : Dev) (R : List Request → Prop) : Prop where
  reads   : ∀ l r, r.isRead = true → R l → R (l.filter (fun q => q.requester ≠ r))
  suspend : ∀ l e, e ≠ d → R l → R (l.filter (fun q => ¬(q.cmd = .suspend ∧ q.dev = e)))
  resume  : ∀ l e, e ≠ d → R l → R (l ++ [⟨.engine, e, .resume⟩])

/-- A device's context stands, the device takes transfers or not, and the requests are such. -/
structure State.Stands (s : State) (d : Dev) (c : Option Ctx) (takes : Bool) (R : List Request → Prop) : Prop where
  ctx   : s.ctx d = c
  takes : (s.dev d).takes = takes
  reqs  : R s.mp.reqs

section
variable {d : Dev} {R R' : List Request → Prop} {c c' : Option Ctx} {b : Bool} {s : State}

theorem Undisturbed.withdrawRead (u : Undisturbed d R) (h : s.Stands d c b R) {r : Requester} (read : r.isRead = true) :
    (s.withdraw (fun q => q.requester = r)).Stands d c b R := by
  rw [State.withdraw_from]
  exact ⟨h.ctx, h.takes, u.reads _ r read h.reqs⟩

theorem State.Stands.setCtx_other (h : s.Stands d c b R) {e : Dev} (other : e ≠ d) (x : Option Ctx) :
    (s.setCtx e x).Stands d c b R :=
  ⟨(congrArg Engine.ctx (PerDev.get_set_other _ other.symm _)).trans h.ctx, h.takes, h.reqs⟩

theorem Undisturbed.requesterGone_other (u : Undisturbed d R) (h : s.Stands d c b R) {e : Dev} (other : e ≠ d) :
    (s.requesterGone e).Stands d c b R := by
  unfold State.requesterGone
  (repeat' split)
  · exact h
  · rw [State.withdraw_suspend]
    refine State.Stands.setCtx_other ?_ other _
    exact ⟨h.ctx, h.takes, u.suspend _ e other h.reqs⟩
  · exact h
  · have resuming := h.setCtx_other other
    unfold State.join
    split
    · exact ⟨(resuming _).ctx, (resuming _).takes, u.resume _ e other h.reqs⟩
    · exact resuming _
  · exact h

/-- The host read has asked for a suspension of the device that has not ended. -/
def State.hostAsksOn (s : State) (d : Dev) : Prop :=
  ∃ r, s.rp.host = some r ∧ r.loc.dev = d ∧ (r.phase = .suspendAsked ∨ r.phase = .suspendHeld)

/-- The unfinished fetch has asked for a suspension of the device that has not ended. -/
def State.fetchAsksOn (s : State) (d : Dev) : Prop :=
  ∃ f, s.rp.fetch = some f ∧ f.loc.dev = d ∧ (f.phase = .suspendAsked ∨ f.phase = .suspendHeld)

/-- The end of the suspension takes what stands from one to the other. -/
def endsSuspension (d : Dev) (c c' : Option Ctx) (b : Bool) (R R' : List Request → Prop) : Prop :=
  ∀ s : State, s.Stands d c b R → (s.requesterGone d).Stands d c' b R'

theorem Undisturbed.endSuspendOf (u : Undisturbed d R) (h : s.Stands d c b R) {e : Dev} {p : ReadPhase}
    (apart : ¬(e = d ∧ (p = .suspendAsked ∨ p = .suspendHeld))) : (s.endSuspendOf e p).Stands d c b R := by
  unfold State.endSuspendOf
  split
  · next asked => exact u.requesterGone_other h fun same => apart ⟨same, asked⟩
  · exact h

theorem Undisturbed.closeHostRead (u : Undisturbed d R) (apart : ¬s.hostAsksOn d) (h : s.Stands d c b R) :
    s.closeHostRead.Stands d c b R := by
  unfold State.closeHostRead
  split
  · exact h
  · next r host =>
    dsimp only
    split
    · exact ⟨h.ctx, h.takes, h.reqs⟩
    · have closed : (s.setRp { s.rp with host := none }).Stands d c b R := ⟨h.ctx, h.takes, h.reqs⟩
      refine u.endSuspendOf (u.withdrawRead closed rfl) ?_
      rintro ⟨here, asked⟩
      exact apart ⟨r, host, here, asked⟩

theorem Undisturbed.closeHostRead_ends (u : Undisturbed d R) (gone : endsSuspension d c c' b R R') (asks : s.hostAsksOn d)
    (h : s.Stands d c b R) : s.closeHostRead.Stands d c' b R' := by
  obtain ⟨r, host, rfl, asked⟩ := asks
  have waits : r.phase ≠ .transfer := by rcases asked with asked | asked <;> simp [asked]
  have closed : (s.setRp { s.rp with host := none }).Stands r.loc.dev c b R := ⟨h.ctx, h.takes, h.reqs⟩
  simp only [State.closeHostRead, host, waits, if_false]
  rw [State.endSuspendOf, if_pos asked]
  exact gone _ (u.withdrawRead closed rfl)

theorem Undisturbed.closeFetch (u : Undisturbed d R) (apart : ¬s.fetchAsksOn d) (h : s.Stands d c b R) :
    s.closeFetch.Stands d c b R := by
  unfold State.closeFetch
  split
  · exact h
  · next f fetch =>
    have closed : (s.setRp { s.rp with fetch := none }).Stands d c b R := ⟨h.ctx, h.takes, h.reqs⟩
    refine u.endSuspendOf (u.withdrawRead closed rfl) ?_
    rintro ⟨here, asked⟩
    exact apart ⟨f, fetch, here, asked⟩

theorem Undisturbed.closeFetch_ends (u : Undisturbed d R) (gone : endsSuspension d c c' b R R') (asks : s.fetchAsksOn d)
    (h : s.Stands d c b R) : s.closeFetch.Stands d c' b R' := by
  obtain ⟨f, fetch, rfl, asked⟩ := asks
  have closed : (s.setRp { s.rp with fetch := none }).Stands f.loc.dev c b R := ⟨h.ctx, h.takes, h.reqs⟩
  simp only [State.closeFetch, fetch]
  rw [State.endSuspendOf, if_pos asked]
  exact gone _ (u.withdrawRead closed rfl)

theorem Undisturbed.dropRefill (u : Undisturbed d R) (p : Loc → Bool) (h : s.Stands d c b R) :
    (s.dropRefill p).Stands d c b R := by
  unfold State.dropRefill
  split
  · exact h
  · split
    · have closed : (s.setRp { s.rp with refill := none }).Stands d c b R := ⟨h.ctx, h.takes, h.reqs⟩
      exact u.withdrawRead closed rfl
    · exact h

theorem State.closeHostRead_fetchAsksOn : s.closeHostRead.fetchAsksOn d ↔ s.fetchAsksOn d := by
  unfold State.fetchAsksOn
  rw [State.closeHostRead_rp]

/-- What the end of the device's suspension leaves, or what no read of the device asks to end, stands. -/
theorem Undisturbed.leaveRunReads (u : Undisturbed d R) (gone : s.hostAsksOn d ∨ s.fetchAsksOn d → endsSuspension d c c b R R)
    (h : s.Stands d c b R) : s.leaveRunReads.Stands d c b R := by
  have host : s.closeHostRead.Stands d c b R := by
    by_cases asks : s.hostAsksOn d
    · exact u.closeHostRead_ends (gone (.inl asks)) asks h
    · exact u.closeHostRead asks h
  refine u.dropRefill _ ?_
  by_cases asks : s.closeHostRead.fetchAsksOn d
  · exact u.closeFetch_ends (gone (.inr (State.closeHostRead_fetchAsksOn.1 asks))) asks host
  · exact u.closeFetch asks host

/-- The first of the two reads that asked ends the suspension, and the other finds it ended. -/
theorem Undisturbed.leaveRunReads_ends (u : Undisturbed d R) (v : Undisturbed d R') (gone : endsSuspension d c c' b R R')
    (again : endsSuspension d c' c' b R' R') (asks : s.hostAsksOn d ∨ s.fetchAsksOn d) (h : s.Stands d c b R) :
    s.leaveRunReads.Stands d c' b R' := by
  refine v.dropRefill _ ?_
  by_cases host : s.hostAsksOn d
  · have ended := u.closeHostRead_ends gone host h
    by_cases fetch : s.closeHostRead.fetchAsksOn d
    · exact v.closeFetch_ends again fetch ended
    · exact v.closeFetch fetch ended
  · exact u.closeFetch_ends gone (State.closeHostRead_fetchAsksOn.2 (asks.resolve_left host)) (u.closeHostRead host h)

/-! #### The cases -/

/-- The engine's requests for the device are those of the other list. -/
def sameEngineRequests (d : Dev) (l₀ l : List Request) : Prop :=
  ∀ q : Request, q.requester = .engine → q.dev = d → (q ∈ l ↔ q ∈ l₀)

/-- A SUSPEND of the engine for the device waits. -/
def suspendWaits (d : Dev) (l : List Request) : Prop := ∃ q ∈ l, q.requester = .engine ∧ q.cmd = .suspend ∧ q.dev = d

/-- No SUSPEND for the device waits. -/
def noSuspend (d : Dev) (l : List Request) : Prop := ∀ q ∈ l, ¬(q.cmd = .suspend ∧ q.dev = d)

/-- A RESUME of the engine for the device waits, when the device takes transfers. -/
def resumeWaits (d : Dev) (takes : Bool) (l : List Request) : Prop := takes = true → ⟨.engine, d, .resume⟩ ∈ l

theorem Requester.isRead_ne_engine {r : Requester} (read : r.isRead = true) : Requester.engine ≠ r := by
  rintro rfl
  exact nomatch read

theorem undisturbed_true (d : Dev) : Undisturbed d fun _ => True :=
  ⟨fun _ _ _ _ => trivial, fun _ _ _ _ => trivial, fun _ _ _ _ => trivial⟩

theorem undisturbed_sameEngineRequests (d : Dev) (l₀ : List Request) : Undisturbed d (sameEngineRequests d l₀) where
  reads l r read same q own here := by
    have apart : q.requester ≠ r := own ▸ Requester.isRead_ne_engine read
    simp [← same q own here, apart]
  suspend l e other same q own here := by
    have apart : ¬(q.cmd = .suspend ∧ q.dev = e) := fun h => other (h.2.symm.trans here)
    exact ⟨fun hq => (same q own here).1 (List.mem_filter.1 hq).1,
      fun hq => List.mem_filter.2 ⟨(same q own here).2 hq, decide_eq_true apart⟩⟩
  resume l e other same q own here := by
    have apart : q ≠ ⟨.engine, e, .resume⟩ := by
      rintro rfl
      exact other here
    simp [← same q own here, apart]

theorem undisturbed_suspendWaits (d : Dev) : Undisturbed d (suspendWaits d) where
  reads l r read h := by
    obtain ⟨q, hq, own, cmd, here⟩ := h
    exact ⟨q, List.mem_filter.2 ⟨hq, by simpa [own] using Requester.isRead_ne_engine read⟩, own, cmd, here⟩
  suspend l e other h := by
    obtain ⟨q, hq, own, cmd, here⟩ := h
    exact ⟨q, List.mem_filter.2 ⟨hq, decide_eq_true fun h => other (h.2.symm.trans here)⟩, own, cmd, here⟩
  resume l e other h := by
    obtain ⟨q, hq, rest⟩ := h
    exact ⟨q, List.mem_append_left _ hq, rest⟩

theorem undisturbed_noSuspend (d : Dev) : Undisturbed d (noSuspend d) where
  reads _ _ _ h q hq := h q (List.mem_filter.1 hq).1
  suspend _ _ _ h q hq := h q (List.mem_filter.1 hq).1
  resume l e other h q hq := by
    rcases List.mem_append.1 hq with old | new
    · exact h q old
    · rw [List.mem_singleton.1 new]
      exact nofun

theorem undisturbed_resumeWaits (d : Dev) (b : Bool) : Undisturbed d (resumeWaits d b) where
  reads l r read h takes := List.mem_filter.2 ⟨h takes, by simpa using Requester.isRead_ne_engine read⟩
  suspend l e other h takes := List.mem_filter.2 ⟨h takes, by simp⟩
  resume l e other h takes := List.mem_append_left _ (h takes)

/-- No suspension of the device is asked for or held. -/
theorem State.requesterGone_of_unsuspended
    (apart : ∀ x, s.ctx d = some x → x.phase = .suspended → x.suspendStep ≠ some .asked ∧ x.suspendStep ≠ some .held) :
    s.requesterGone d = s := by
  unfold State.requesterGone
  (repeat' split)
  · rfl
  · next ctx _ _ phase step _ => exact absurd step (apart _ ctx phase).1
  · rfl
  · next ctx _ _ phase step => exact absurd step (apart _ ctx phase).2
  · rfl

theorem endsSuspension_of_unsuspended
    (apart : ∀ x, c = some x → x.phase = .suspended → x.suspendStep ≠ some .asked ∧ x.suspendStep ≠ some .held) :
    endsSuspension d c c b R R := fun s h => by
  rw [s.requesterGone_of_unsuspended fun x ctx => apart x (h.ctx.symm.trans ctx)]
  exact h

/-- A device whose context is not SUSPENDED keeps it, and its engine's requests. -/
theorem State.leaveRunReads_of_unsuspended (apart : ∀ x, s.ctx d = some x → x.phase ≠ .suspended) :
    s.leaveRunReads.ctx d = s.ctx d ∧ sameEngineRequests d s.mp.reqs s.leaveRunReads.mp.reqs := by
  have after := (undisturbed_sameEngineRequests d s.mp.reqs).leaveRunReads (s := s)
    (fun _ => endsSuspension_of_unsuspended fun x ctx phase => absurd phase (apart x ctx)) ⟨rfl, rfl, fun _ _ _ => .rfl⟩
  exact ⟨after.ctx, after.reqs⟩

theorem State.leaveRunReads_of_not_asked (quiet : ¬(s.hostAsksOn d ∨ s.fetchAsksOn d)) : s.leaveRunReads.ctx d = s.ctx d :=
  ((undisturbed_true d).leaveRunReads (fun asks => absurd asks quiet) ⟨rfl, rfl, trivial⟩).ctx

section
variable {x : Ctx}

/-- A SUSPEND sent already meets the loss of its requester at the acknowledgement (R57). -/
theorem State.leaveRunReads_of_sent (ctx : s.ctx d = some x) (phase : x.phase = .suspended)
    (step : x.suspendStep = some .asked) (sent : noSuspend d s.mp.reqs) : s.leaveRunReads.ctx d = some x := by
  have stays : endsSuspension d (some x) (some x) (s.dev d).takes (noSuspend d) (noSuspend d) := fun t h => by
    rw [State.requesterGone_of_sent h.ctx phase step h.reqs]
    exact h
  exact ((undisturbed_noSuspend d).leaveRunReads (fun _ => stays) ⟨ctx, rfl, sent⟩).ctx

/-- A SUSPEND that waits is withdrawn with its requester (R57). -/
theorem State.leaveRunReads_of_waiting (ctx : s.ctx d = some x) (phase : x.phase = .suspended)
    (step : x.suspendStep = some .asked) (waits : suspendWaits d s.mp.reqs) (asks : s.hostAsksOn d ∨ s.fetchAsksOn d) :
    s.leaveRunReads.ctx d = some { x with phase := .programming, suspendStep := none } ∧
      noSuspend d s.leaveRunReads.mp.reqs := by
  have gone : endsSuspension d (some x) (some { x with phase := .programming, suspendStep := none }) (s.dev d).takes
      (suspendWaits d) (noSuspend d) := fun t h => by
    obtain ⟨q, hq, _, suspend⟩ := h.reqs
    rw [State.requesterGone_of_waiting h.ctx phase step ⟨q, hq, suspend⟩]
    exact ⟨congrArg Engine.ctx (PerDev.get_set_same _ _ _), h.takes, fun r hr => of_decide_eq_true (List.mem_filter.1 hr).2⟩
  have after := (undisturbed_suspendWaits d).leaveRunReads_ends (undisturbed_noSuspend d) gone
    (endsSuspension_of_unsuspended (by simp)) asks ⟨ctx, rfl, waits⟩
  exact ⟨after.ctx, after.reqs⟩

theorem State.requesterGone_of_held_ctx (ctx : s.ctx d = some x) (phase : x.phase = .suspended)
    (step : x.suspendStep = some .held) : s.requesterGone d =
      (s.setCtx d (some { x with suspendStep := some .resuming })).join ⟨.engine, d, .resume⟩ := by
  simp only [State.requesterGone, ctx, phase, step]

/-- A held suspension ends by RESUME (R58). -/
theorem State.leaveRunReads_of_held (ctx : s.ctx d = some x) (phase : x.phase = .suspended)
    (step : x.suspendStep = some .held) (asks : s.hostAsksOn d ∨ s.fetchAsksOn d) :
    s.leaveRunReads.ctx d = some { x with suspendStep := some .resuming } ∧
      resumeWaits d (s.dev d).takes s.leaveRunReads.mp.reqs := by
  have gone : endsSuspension d (some x) (some { x with suspendStep := some .resuming }) (s.dev d).takes
      (fun _ => True) (resumeWaits d (s.dev d).takes) := fun t h => by
    have resuming : (t.setCtx d (some { x with suspendStep := some .resuming })).ctx d =
        some { x with suspendStep := some .resuming } := congrArg Engine.ctx (PerDev.get_set_same _ _ _)
    rw [State.requesterGone_of_held_ctx h.ctx phase step]
    unfold State.join
    split
    · exact ⟨resuming, h.takes, fun _ => List.mem_append_right _ (List.mem_singleton_self _)⟩
    · next may =>
      exact ⟨resuming, h.takes, fun takes => absurd (State.mayQueue_of_takes (h.takes.trans takes)) may⟩
  have after := (undisturbed_true d).leaveRunReads_ends (undisturbed_resumeWaits d _) gone
    (endsSuspension_of_unsuspended (by simp)) asks ⟨ctx, rfl, trivial⟩
  exact ⟨after.ctx, after.reqs⟩

end

end

end Sys2Proof.Machine
end

section
/-! The engines and the metadata unit are told to stop (R65, R150, R165, R166). -/

namespace Sys2Proof.Machine

/- One theorem after another: waiting ones would each hold a thread. -/
set_option Elab.async false

/-! ### The engines (R65) -/

/-- The context's operation can be stopped while its request waits. -/
def Ctx.stopsWork (c : Ctx) : Bool := c.phase = .programming && !c.started || c.phase = .retireRead || c.phase = .retireProgram

/-- The context of an engine told to stop, with or without a request of the engine that waits. -/
def Ctx.told (c : Ctx) (waits : Bool) : Ctx :=
  if c.phase = .awaitPersist ∨ (waits = true ∧ c.stopsWork = true) then { c with phase := .stopped, before := some c.phase }
  else c

/-- An engine that has been told to stop. -/
def State.engineTold (s : State) (d : Dev) : Engine :=
  { ctx := (s.ctx d).map (·.told (s.engineWaits d)), stopping := true }

/-- The request is the device's engine's, and its context's operation is stopped with it. -/
def State.stopsRequest (s : State) (d : Dev) (q : Request) : Bool := isFrom .engine d q && (s.ctx d).any Ctx.stopsWork

/-- The engine has been told to stop, and the requests of the operation it stops withdrawn. -/
def State.engineStopped (s : State) (d : Dev) : State := { s with
  de := s.de.set d (s.engineTold d)
  mp := { s.mp with reqs := s.mp.reqs.filter (fun q => !s.stopsRequest d q) } }

theorem State.engineStopped_of_kept {s : State} {d : Dev}
    (rest : (s.ctx d).any Ctx.stopsWork = false ∨ s.engineWaits d = false) :
    s.engineStopped d = s.setDe (s.de.set d (s.engineTold d)) := by
  have kept : s.mp.reqs.filter (fun q => !s.stopsRequest d q) = s.mp.reqs := by
    refine List.filter_eq_self.2 fun q hq => ?_
    rcases rest with kept | idle
    · simp [State.stopsRequest, kept]
    · simp [State.stopsRequest, State.waits_eq_false_iff.1 idle q hq]
  rw [State.engineStopped, kept]
  rfl

/-- Nothing of the engine's work is stopped. -/
theorem State.engineStopped_of_goesOn {s : State} {d : Dev} {c : Ctx} (ctx : s.ctx d = some c) (persist : c.phase ≠ .awaitPersist)
    (rest : c.stopsWork = false ∨ s.engineWaits d = false) :
    s.engineStopped d = s.setDe (s.de.set d { s.de.get d with stopping := true }) := by
  have told : c.told (s.engineWaits d) = c := by
    refine if_neg ?_
    rintro (awaits | ⟨waits, work⟩)
    · exact persist awaits
    · exact rest.elim (by simp [work]) (by simp [waits])
  rw [State.engineStopped_of_kept (rest.imp_left (by simp [ctx])), State.engineTold, ctx, Option.map_some, told, ← ctx]
  rfl

theorem State.engineStopped_of_withdraws {s : State} {d : Dev} {c : Ctx} (ctx : s.ctx d = some c) (work : c.stopsWork = true)
    (waits : s.engineWaits d = true) : s.engineStopped d =
      (s.setDe (s.de.set d { ctx := some { c with phase := .stopped, before := some c.phase }, stopping := true })).withdraw
        (isFrom .engine d) := by
  have told : c.told (s.engineWaits d) = { c with phase := .stopped, before := some c.phase } := if_pos (.inr ⟨waits, work⟩)
  simp [State.engineStopped, State.engineTold, State.stopsRequest, ctx, work, told, State.withdraw, State.setMp, State.setDe]

theorem State.engineStopped_of_awaits {s : State} {d : Dev} {c : Ctx} (ctx : s.ctx d = some c) (phase : c.phase = .awaitPersist) :
    s.engineStopped d =
      s.setDe (s.de.set d { ctx := some { c with phase := .stopped, before := some c.phase }, stopping := true }) := by
  have told : c.told (s.engineWaits d) = { c with phase := .stopped, before := some c.phase } := if_pos (.inl phase)
  rw [State.engineStopped_of_kept (.inl (by simp [ctx, Ctx.stopsWork, phase])), State.engineTold, ctx, Option.map_some, told]

theorem State.engineStopped_of_none {s : State} {d : Dev} (ctx : s.ctx d = none) :
    s.engineStopped d = s.setDe (s.de.set d { s.de.get d with stopping := true }) := by
  rw [State.engineStopped_of_kept (.inl (by simp [ctx])), State.engineTold, ctx, Option.map_none, ← ctx]
  rfl

/-- An operation that can be stopped is, when its request waits. -/
theorem State.engineStopped_of_stopsWork {s : State} {d : Dev} {c : Ctx} (ctx : s.ctx d = some c) (work : c.stopsWork = true) :
    s.engineStopped d = if s.engineWaits d = true then
      (s.setDe (s.de.set d { ctx := some { c with phase := .stopped, before := some c.phase }, stopping := true })).withdraw
        (isFrom .engine d)
      else s.setDe (s.de.set d { s.de.get d with stopping := true }) := by
  split
  · next waits => exact State.engineStopped_of_withdraws ctx work waits
  · next granted =>
    have persist : c.phase ≠ .awaitPersist := fun phase => by simp [Ctx.stopsWork, phase] at work
    exact State.engineStopped_of_goesOn ctx persist (.inr (by simpa using granted))

theorem State.stopEngine_eq (s : State) (d : Dev) : s.stopEngine d = s.engineStopped d := by
  have keeps : (s.setDe (s.de.set d { s.de.get d with stopping := true })).ctx d = s.ctx d := by simp [State.ctx]
  have waits : (s.setDe (s.de.set d { s.de.get d with stopping := true })).engineWaits d = s.engineWaits d := rfl
  have stops (c : Option Ctx) : (s.setDe (s.de.set d { s.de.get d with stopping := true })).setCtx d c =
      s.setDe (s.de.set d { ctx := c, stopping := true }) := by
    simp [State.setCtx, State.setDe, PerDev.set_set]
  unfold State.stopEngine
  dsimp only
  rw [keeps]
  cases ctx : s.ctx d with
  | none => exact (State.engineStopped_of_none ctx).symm
  | some c =>
    simp only [waits, stops]
    split
    · next phase =>
      by_cases started : c.started = true
      · rw [if_neg (by simp [started])]
        exact (State.engineStopped_of_goesOn ctx (by simp [phase]) (.inl (by simp [Ctx.stopsWork, phase, started]))).symm
      · have ungranted : (!c.started && s.engineWaits d) = s.engineWaits d := by simp [started]
        rw [ungranted]
        exact (State.engineStopped_of_stopsWork ctx (by simp [Ctx.stopsWork, phase, started])).symm
    · next phase => exact (State.engineStopped_of_stopsWork ctx (by simp [Ctx.stopsWork, phase])).symm
    · next phase => exact (State.engineStopped_of_stopsWork ctx (by simp [Ctx.stopsWork, phase])).symm
    · next phase => exact (State.engineStopped_of_awaits ctx phase).symm
    · next programming retireRead retireProgram persist =>
      have rest : c.stopsWork = false := by
        simpa [Ctx.stopsWork] using ⟨⟨fun p => (programming p).elim, retireRead⟩, retireProgram⟩
      exact (State.engineStopped_of_goesOn ctx persist (.inl rest)).symm

/-- Both engines have been told to stop. -/
def State.enginesStopped (s : State) : State := { s with
  de := ⟨s.engineTold .d0, s.engineTold .d1⟩
  mp := { s.mp with reqs := s.mp.reqs.filter (fun q => !s.stopsRequest .d0 q && !s.stopsRequest .d1 q) } }

theorem State.stopEngines_eq (s : State) : (s.stopEngine .d0).stopEngine .d1 = s.enginesStopped := by
  have waits : (s.engineStopped .d0).engineWaits .d1 = s.engineWaits .d1 := by
    rw [Bool.eq_iff_iff]
    simp only [State.engineWaits, State.waits, State.engineStopped, List.any_eq_true, List.mem_filter, State.stopsRequest,
      isFrom]
    refine exists_congr fun q => ⟨fun h => ⟨h.1.1, h.2⟩, fun h => ⟨⟨h.1, ?_⟩, h.2⟩⟩
    simp_all
  have told : (s.engineStopped .d0).engineTold .d1 = s.engineTold .d1 := by
    rw [State.engineTold, waits]
    rfl
  have own (q : Request) : (s.engineStopped .d0).stopsRequest .d1 q = s.stopsRequest .d1 q := rfl
  rw [State.stopEngine_eq, State.stopEngine_eq, State.engineStopped, told]
  simp only [own, State.enginesStopped]
  simp only [State.engineStopped, List.filter_filter, Bool.and_comm]
  rfl

theorem State.mem_enginesStopped {s : State} {q : Request} :
    q ∈ s.enginesStopped.mp.reqs ↔ q ∈ s.mp.reqs ∧ ∀ d, s.stopsRequest d q = false := by
  simp [State.enginesStopped, Dev.forall]

theorem State.enginesStopped_ctx (s : State) (d : Dev) :
    s.enginesStopped.ctx d = (s.ctx d).map (·.told (s.engineWaits d)) := by
  cases d <;> rfl

/-! ### The persist in hand (R150) -/

/-- A program of the metadata unit is among the requests. -/
def muWorkWaits (l : List Request) : Prop := ∃ q ∈ l, q.requester = .mu ∧ q.dev = .d0 ∧ q.cmd ≠ .deviceReset

theorem isMuWork_iff {q : Request} : isMuWork q = true ↔ q.requester = .mu ∧ q.dev = .d0 ∧ q.cmd ≠ .deviceReset := by
  simp [isMuWork, isFrom, and_assoc]

theorem State.waits_isMuWork_iff {s : State} : s.waits isMuWork = true ↔ muWorkWaits s.mp.reqs := by
  simp [State.waits, muWorkWaits, isMuWork_iff]

section
variable {s : State} {p : Persist}

theorem State.stopPersist_of_waits (op : s.mu.op = some (.persist p)) (waits : s.waits isMuWork = true) :
    s.stopPersist = (s.withdraw isMuWork).breakOff p (decide (0 < p.part) || decide (1 < p.attempt)) := by
  simp only [State.stopPersist, op, waits, if_true]

theorem State.stopPersist_of_granted (op : s.mu.op = some (.persist p)) (granted : s.waits isMuWork = false) :
    s.stopPersist = s.setOp (some (.persist { p with stopping := true })) := by
  simp [State.stopPersist, op, granted]

theorem State.stopPersist_of_other (other : ∀ p, s.mu.op ≠ some (.persist p)) : s.stopPersist = s := by
  unfold State.stopPersist
  split
  · next op => exact absurd op (other _)
  · rfl

/-- An ungranted persist is pending again, and any other finishes its program first. -/
theorem State.stopPersist_persist (op : s.mu.op = some (.persist p)) :
    (muWorkWaits s.mp.reqs → s.stopPersist.mu.op = none ∧ (s.stopPersist.mu.slot p.snapshot.kind).pending = true) ∧
      (¬muWorkWaits s.mp.reqs → s.stopPersist.mu.op = some (.persist { p with stopping := true })) := by
  constructor
  · intro waits
    rw [State.stopPersist_of_waits op (State.waits_isMuWork_iff.2 waits)]
    refine ⟨rfl, ?_⟩
    have slot (x : SlotStatus) :
        ({ s.mu.setSlot p.snapshot.kind x with op := none } : MetadataUnit).slot p.snapshot.kind = x := by
      cases p.snapshot.kind <;> rfl
    exact congrArg SlotStatus.pending (slot _)
  · intro granted
    rw [State.stopPersist_of_granted op (Bool.not_eq_true _ ▸ State.waits_isMuWork_iff.not.2 granted)]
    rfl

end

/-- The bus and the devices stay, and only requests of the metadata unit go. -/
structure State.MuGoes (s t : State) : Prop where
  bus  : t.mp.bus = s.mp.bus
  devs : t.mp.devs = s.mp.devs
  old  : ∀ q ∈ t.mp.reqs, q ∈ s.mp.reqs
  kept : ∀ q ∈ s.mp.reqs, q.requester ≠ .mu → q ∈ t.mp.reqs

theorem State.MuGoes.of_mp {s t : State} (mp : t.mp = s.mp) : s.MuGoes t :=
  ⟨by rw [mp], by rw [mp], fun _ hq => mp ▸ hq, fun _ hq _ => mp ▸ hq⟩

theorem State.withdraw_muGoes (s : State) : s.MuGoes (s.withdraw isMuWork) where
  bus := rfl
  devs := rfl
  old _ hq := (List.mem_filter.1 hq).1
  kept q hq other := List.mem_filter.2 ⟨hq, by simp [isMuWork, isFrom, other]⟩

theorem State.stopPersist_muGoes (s : State) : s.MuGoes s.stopPersist := by
  unfold State.stopPersist
  split
  · split
    · have withdrawn := s.withdraw_muGoes
      exact ⟨withdrawn.bus, withdrawn.devs, withdrawn.old, withdrawn.kept⟩
    · exact .of_mp rfl
  · exact .of_mp rfl

/-! ### Both (R165, R166) -/

/-- The context is in a phase that a stop ends, given the requests that wait. -/
def Ctx.stopsAmid (c : Ctx) (d : Dev) (l : List Request) : Prop := c.phase = .awaitPersist ∨
  (∃ q ∈ l, q.requester = .engine ∧ q.dev = d) ∧
    (c.phase = .programming ∧ c.started = false ∨ c.phase = .retireRead ∨ c.phase = .retireProgram)

/-- The engines are told to stop, and a persist in hand is brought to a stop. -/
def State.workStopped (s : State) : State := s.enginesStopped.stopPersist

theorem State.stopWork_eq (s : State) : ((s.stopEngine .d0).stopEngine .d1).stopPersist = s.workStopped :=
  congrArg State.stopPersist s.stopEngines_eq

section
variable {s : State} {d : Dev} {c : Ctx} {q : Request} {l : List Request}

theorem Ctx.stopsWork_iff : c.stopsWork = true ↔
    c.phase = .programming ∧ c.started = false ∨ c.phase = .retireRead ∨ c.phase = .retireProgram := by
  simp [Ctx.stopsWork, or_assoc]

theorem State.engineWaits_iff (same : sameEngineRequests d l s.mp.reqs) :
    s.engineWaits d = true ↔ ∃ q ∈ l, q.requester = .engine ∧ q.dev = d := by
  simp only [State.engineWaits, State.waits, List.any_eq_true, isFrom, Bool.and_eq_true, decide_eq_true_eq]
  exact exists_congr fun q => and_congr_left fun h => same q h.1 h.2

theorem State.workStopped_frame (s : State) : s.workStopped.pins = s.pins ∧ s.workStopped.hp = s.hp ∧
    s.workStopped.wd = s.wd ∧ s.workStopped.pwb = s.pwb ∧ s.workStopped.rp = s.rp ∧ s.workStopped.fu = s.fu ∧
    s.workStopped.ru = s.ru ∧ s.workStopped.sc = s.sc ∧ s.workStopped.mgp = s.mgp ∧ s.workStopped.nvm = s.nvm := by
  simp [State.workStopped, State.enginesStopped]

theorem State.workStopped_bus (s : State) : s.workStopped.mp.bus = s.mp.bus := s.enginesStopped.stopPersist_muGoes.bus

theorem State.workStopped_devs (s : State) : s.workStopped.mp.devs = s.mp.devs := s.enginesStopped.stopPersist_muGoes.devs

theorem State.workStopped_old (hq : q ∈ s.workStopped.mp.reqs) : q ∈ s.mp.reqs :=
  (State.mem_enginesStopped.1 (s.enginesStopped.stopPersist_muGoes.old q hq)).1

theorem State.workStopped_kept (hq : q ∈ s.mp.reqs) (other : q.requester ≠ .mu) (stays : ∀ d, s.stopsRequest d q = false) :
    q ∈ s.workStopped.mp.reqs :=
  s.enginesStopped.stopPersist_muGoes.kept q (State.mem_enginesStopped.2 ⟨hq, stays⟩) other

theorem State.workStopped_stopping (s : State) (d : Dev) : (s.workStopped.de.get d).stopping = true := by
  have de : s.workStopped.de = s.enginesStopped.de := by simp [State.workStopped]
  rw [de]
  cases d <;> rfl

theorem State.workStopped_ctx (s : State) (d : Dev) : s.workStopped.ctx d = (s.ctx d).map (·.told (s.engineWaits d)) := by
  rw [← s.enginesStopped_ctx d]
  simp [State.workStopped, State.ctx]

theorem State.workStopped_ctx_of_goesOn (ctx : s.ctx d = some c) (persist : c.phase ≠ .awaitPersist)
    (work : c.stopsWork = false) : s.workStopped.ctx d = some c := by
  have told : c.told (s.engineWaits d) = c := if_neg (by simp [persist, work])
  rw [s.workStopped_ctx d, ctx, Option.map_some, told]

/-- What a stop makes of a context, in terms of the requests that wait. -/
theorem State.workStopped_stops (ctx : s.ctx d = some c) (same : sameEngineRequests d l s.mp.reqs) :
    (c.stopsAmid d l → s.workStopped.ctx d = some { c with phase := .stopped, before := some c.phase } ∧
      (c.phase ≠ .awaitPersist → ∀ q ∈ s.workStopped.mp.reqs, ¬(q.requester = .engine ∧ q.dev = d))) ∧
    (¬c.stopsAmid d l → s.workStopped.ctx d = some c) := by
  have amid : c.stopsAmid d l ↔ c.phase = .awaitPersist ∨ (s.engineWaits d = true ∧ c.stopsWork = true) := by
    rw [State.engineWaits_iff same, Ctx.stopsWork_iff, Ctx.stopsAmid]
  rw [s.workStopped_ctx d, ctx, Option.map_some, Option.some_inj, Option.some_inj, amid]
  refine ⟨fun stops => ⟨if_pos stops, fun persist q hq own => ?_⟩, fun goes => if_neg goes⟩
  have kept := (State.mem_enginesStopped.1 (s.enginesStopped.stopPersist_muGoes.old q hq)).2 d
  simp [State.stopsRequest, isFrom, own, ctx, (stops.resolve_left persist).2] at kept

theorem State.muWorkWaits_enginesStopped : muWorkWaits s.enginesStopped.mp.reqs ↔ muWorkWaits s.mp.reqs := by
  refine exists_congr fun q => and_congr_left fun own => State.mem_enginesStopped.trans (and_iff_left fun d => ?_)
  simp [State.stopsRequest, isFrom, own.1]

theorem State.workStopped_persist {p : Persist} (op : s.mu.op = some (.persist p)) :
    (muWorkWaits s.mp.reqs → s.workStopped.mu.op = none ∧ (s.workStopped.mu.slot p.snapshot.kind).pending = true) ∧
      (¬muWorkWaits s.mp.reqs → s.workStopped.mu.op = some (.persist { p with stopping := true })) := by
  rw [← State.muWorkWaits_enginesStopped]
  exact State.stopPersist_persist (s := s.enginesStopped) op

theorem State.workStopped_mu (other : ∀ p, s.mu.op ≠ some (.persist p)) : s.workStopped.mu = s.mu :=
  congrArg State.mu (a₂ := s.enginesStopped) (State.stopPersist_of_other other)

end

end Sys2Proof.Machine
end

section
/-! PFAIL asserted, by the operating state (R156, R165, R166). -/

namespace Sys2Proof.Machine

/- One theorem after another: waiting ones would each hold a thread. -/
set_option Elab.async false

section
variable {s : State} {d : Dev} {c : Ctx} {q : Request}

/-! ### The held access (R112) -/

theorem State.refuseHeld_of_none (idle : s.heldPhase = none) : s.refuseHeld = s := by
  unfold State.refuseHeld
  rw [idle]

theorem State.refuseHeld_of_held {a : Access} (access : s.hp.access = some a) (held : a.phase ≠ .complete) :
    s.refuseHeld.hp = { access := some a.failed, lastErr := some { cause := .notReady, addr := a.addr, dir := a.dir } } ∧
      s.refuseHeld.mgp = { s.mgp with counters := s.mgp.counters.raise .errCompletions 1 } ∧
      (a.phase = .heldBuffer → s.refuseHeld.pwb.waiting = none) ∧ (a.phase = .heldWt → s.refuseHeld.fu.wait = none) := by
  have phase := State.heldPhase_of_access access held
  unfold State.refuseHeld
  rw [phase]
  split
  · next h => exact nomatch h
  · next h =>
    have failed := State.complete_failed (s := s.dropPending) access .notReady 0
    rw [failed]
    exact ⟨rfl, rfl, fun _ => rfl, fun own => by simp_all⟩
  · next h =>
    have failed := State.complete_failed (s := s.setFu { s.fu with wait := none }) access .notReady 0
    rw [failed]
    exact ⟨rfl, rfl, fun own => by simp_all, fun _ => rfl⟩
  · next buffer wt h =>
    rw [State.complete_failed access .notReady 0]
    exact ⟨rfl, rfl, fun own => absurd (h.symm.trans (congrArg some own)) (by simp_all), fun own => by simp_all⟩

/-! ### HOLDUP entered (R166) -/

/-- The line and the state controller have taken the level. -/
def State.pfailTaken (s : State) (x : StateController) : State := { s with pins := { s.pins with pfail := true }, sc := x }

/-- The controller in HOLDUP. -/
def StateController.inHoldup (x : StateController) : StateController :=
  { x with state := .holdup, pfail := true, step := none, returnWrite := false, plan := none }

/-- The entries are sealed and the held access has been refused. -/
def State.hostRefused (s : State) : State := (s.pfailTaken s.sc.inHoldup).sealAll.refuseHeld

/-- HOLDUP has been entered. -/
def State.holdupEntered (s : State) : State := s.hostRefused.leaveRunReads.workStopped

theorem State.exec_pfailAssert {t : State} (alive : s.alive = true) (line : s.pins.pfail = false)
    (rises : (s.pfailLine true).pfailRises = t) : exec .pfailAssert s = .next t.settle := by
  have alive' : (s.pfailLine true).alive = true := alive
  show execPfailAssert s = _
  rw [execPfailAssert, line, State.event_of_alive alive', rises]
  rfl

theorem State.pfailRises_holdup (state : s.sc.state = .run ∨ s.sc.state = .restarting) :
    (s.pfailLine true).pfailRises = s.holdupEntered := by
  have enters : (s.pfailLine true).pfailRises = ((s.pfailLine true).setPfail true).enterHoldup := by
    rcases state with state | state <;> (unfold State.pfailRises; simp [state, State.setPfail, State.pfailLine])
  rw [enters, State.enterHoldup, State.stopWork_eq]
  rfl

theorem State.hostRefused_rest (s : State) : s.hostRefused.mp = s.mp ∧ s.hostRefused.rp = s.rp ∧ s.hostRefused.de = s.de ∧
    s.hostRefused.mu = s.mu ∧ s.hostRefused.sc = s.sc.inHoldup ∧ s.hostRefused.pins = { s.pins with pfail := true } ∧
    s.hostRefused.wd = s.wd ∧ s.hostRefused.ru = s.ru ∧ s.hostRefused.nvm = s.nvm := by
  simp [State.hostRefused, State.pfailTaken]

theorem State.refuseHeld_counter (s : State) : s.refuseHeld.pwb.counter = s.pwb.counter := by
  unfold State.refuseHeld
  split <;> simp [State.dropPending]

theorem State.holdupEntered_rest (s : State) : s.holdupEntered.pins = { s.pins with pfail := true } ∧
    s.holdupEntered.sc = s.sc.inHoldup ∧ s.holdupEntered.rp = { s.rp with host := none, fetch := none, refill := none } ∧
    s.holdupEntered.wd = s.wd ∧ s.holdupEntered.ru = s.ru ∧ s.holdupEntered.nvm = s.nvm := by
  simp [State.holdupEntered, State.workStopped_frame, State.leaveRunReads_rp, State.hostRefused_rest]

/-- The host's side is as the refusal of the held access leaves it. -/
theorem State.holdupEntered_host (s : State) : s.holdupEntered.hp = s.hostRefused.hp ∧ s.holdupEntered.mgp = s.hostRefused.mgp ∧
    s.holdupEntered.fu = s.hostRefused.fu ∧ s.holdupEntered.pwb = s.hostRefused.pwb := by
  simp [State.holdupEntered, State.workStopped_frame]

theorem State.holdupEntered_entries (s : State) : s.holdupEntered.pwb.entries = s.pwb.entries.map sealedEntry ∧
    s.holdupEntered.pwb.counter = s.pwb.counter := by
  obtain ⟨_, _, _, pwb⟩ := s.holdupEntered_host
  rw [pwb, State.hostRefused, State.refuseHeld_entries, State.refuseHeld_counter]
  exact ⟨rfl, rfl⟩

theorem State.holdupEntered_of_none (idle : s.heldPhase = none) : s.holdupEntered.hp = s.hp ∧
    s.holdupEntered.mgp = s.mgp ∧ s.holdupEntered.fu = s.fu ∧ s.holdupEntered.pwb.waiting = s.pwb.waiting := by
  have refused : s.hostRefused = (s.pfailTaken s.sc.inHoldup).sealAll := State.refuseHeld_of_none idle
  obtain ⟨hp, mgp, fu, pwb⟩ := s.holdupEntered_host
  rw [hp, mgp, fu, pwb, refused]
  exact ⟨rfl, rfl, rfl, rfl⟩

theorem State.holdupEntered_of_held {a : Access} (access : s.hp.access = some a) (held : a.phase ≠ .complete) :
    s.holdupEntered.hp = { access := some a.failed, lastErr := some { cause := .notReady, addr := a.addr, dir := a.dir } } ∧
      s.holdupEntered.mgp = { s.mgp with counters := s.mgp.counters.raise .errCompletions 1 } ∧
      (a.phase = .heldBuffer → s.holdupEntered.pwb.waiting = none) ∧
      (a.phase = .heldWt → s.holdupEntered.fu.wait = none) := by
  obtain ⟨hp, mgp, fu, pwb⟩ := s.holdupEntered_host
  rw [hp, mgp, fu, pwb]
  exact State.refuseHeld_of_held (s := (s.pfailTaken s.sc.inHoldup).sealAll) access held

/-! #### Its requests -/

theorem State.hostRefused_readsGo (s : State) : s.ReadsGo s.hostRefused.leaveRunReads :=
  (State.ReadsGo.of_mp s.hostRefused_rest.1).trans s.hostRefused.leaveRunReads_readsGo

theorem State.holdupEntered_bus (s : State) : s.holdupEntered.mp.bus = s.mp.bus :=
  (State.workStopped_bus _).trans s.hostRefused_readsGo.bus

theorem State.holdupEntered_devs (s : State) : s.holdupEntered.mp.devs = s.mp.devs :=
  (State.workStopped_devs _).trans s.hostRefused_readsGo.devs

theorem State.holdupEntered_requests (hq : q ∈ s.holdupEntered.mp.reqs) :
    (q ∈ s.mp.reqs ∨ ∃ d, q = ⟨.engine, d, .resume⟩) ∧
      ¬(q.requester = .hostRead ∧ ∃ r, s.rp.host = some r ∧ r.phase ≠ .transfer) ∧
      ¬(q.requester = .fetch ∧ s.rp.fetch ≠ none) ∧ ¬(q.requester = .refill ∧ s.rp.refill ≠ none) := by
  have left := State.workStopped_old hq
  have closed := State.leaveRunReads_withdraws left
  rw [s.hostRefused_rest.2.1] at closed
  exact ⟨s.hostRefused_readsGo.old q left, closed⟩

theorem State.holdupEntered_port (hq : q ∈ s.mp.reqs) (port : q.requester = .port) (cmd : q.cmd ≠ .suspend) :
    q ∈ s.holdupEntered.mp.reqs :=
  State.workStopped_kept (s.hostRefused_readsGo.kept q hq (by simp [port, Requester.isRead]) cmd) (by simp [port])
    (by simp [State.stopsRequest, isFrom, port])

/-! #### Its contexts (R45, R65) -/

theorem State.hostRefused_ctx (s : State) (d : Dev) : s.hostRefused.ctx d = s.ctx d := by
  simp [State.ctx, s.hostRefused_rest]

theorem State.holdupEntered_ctx_none (ctx : s.ctx d = none) : s.holdupEntered.ctx d = none := by
  have none : s.hostRefused.ctx d = none := (s.hostRefused_ctx d).trans ctx
  have left := (State.leaveRunReads_of_unsuspended (s := s.hostRefused) (d := d) (by simp [none])).1
  rw [State.holdupEntered, State.workStopped_ctx, left, none]
  rfl

theorem State.holdupEntered_stops (ctx : s.ctx d = some c) (phase : c.phase ≠ .suspended) :
    (c.stopsAmid d s.mp.reqs → s.holdupEntered.ctx d = some { c with phase := .stopped, before := some c.phase } ∧
      (c.phase ≠ .awaitPersist → ∀ q ∈ s.holdupEntered.mp.reqs, ¬(q.requester = .engine ∧ q.dev = d))) ∧
    (¬c.stopsAmid d s.mp.reqs → s.holdupEntered.ctx d = some c) := by
  have refused : s.hostRefused.ctx d = some c := (s.hostRefused_ctx d).trans ctx
  obtain ⟨left, same⟩ := State.leaveRunReads_of_unsuspended (s := s.hostRefused) (d := d) (by simp [refused, phase])
  rw [s.hostRefused_rest.1] at same
  exact State.workStopped_stops (left.trans refused) same

theorem Ctx.stopsWork_of_suspended (phase : c.phase = .suspended) : c.stopsWork = false := by simp [Ctx.stopsWork, phase]

theorem State.asksOn_hostRefused :
    (s.hostRefused.hostAsksOn d ∨ s.hostRefused.fetchAsksOn d) ↔ (s.hostAsksOn d ∨ s.fetchAsksOn d) := by
  simp only [State.hostAsksOn, State.fetchAsksOn, s.hostRefused_rest.2.1]

section
variable (ctx : s.ctx d = some c) (phase : c.phase = .suspended)
include ctx phase

theorem State.holdupEntered_of_not_asked (quiet : ¬(s.hostAsksOn d ∨ s.fetchAsksOn d)) : s.holdupEntered.ctx d = some c := by
  have left := State.leaveRunReads_of_not_asked (State.asksOn_hostRefused.not.2 quiet)
  exact State.workStopped_ctx_of_goesOn (left.trans ((s.hostRefused_ctx d).trans ctx)) (by simp [phase])
    (Ctx.stopsWork_of_suspended phase)

theorem State.holdupEntered_of_sent (step : c.suspendStep = some .asked) (sent : noSuspend d s.mp.reqs) :
    s.holdupEntered.ctx d = some c := by
  have left := State.leaveRunReads_of_sent ((s.hostRefused_ctx d).trans ctx) phase step (s.hostRefused_rest.1 ▸ sent)
  exact State.workStopped_ctx_of_goesOn left (by simp [phase]) (Ctx.stopsWork_of_suspended phase)

theorem State.holdupEntered_of_waiting (started : c.started = true) (step : c.suspendStep = some .asked)
    (waits : suspendWaits d s.mp.reqs) (asks : s.hostAsksOn d ∨ s.fetchAsksOn d) :
    s.holdupEntered.ctx d = some { c with phase := .programming, suspendStep := none } ∧
      noSuspend d s.holdupEntered.mp.reqs := by
  obtain ⟨left, gone⟩ := State.leaveRunReads_of_waiting ((s.hostRefused_ctx d).trans ctx) phase step
    (s.hostRefused_rest.1 ▸ waits) (State.asksOn_hostRefused.2 asks)
  exact ⟨State.workStopped_ctx_of_goesOn left (by simp) (by simp [Ctx.stopsWork, started]),
    fun q hq => gone q (State.workStopped_old hq)⟩

theorem State.holdupEntered_of_suspendHeld (step : c.suspendStep = some .held) (asks : s.hostAsksOn d ∨ s.fetchAsksOn d) :
    s.holdupEntered.ctx d = some { c with suspendStep := some .resuming } ∧
      ((s.dev d).takes = true → ⟨.engine, d, .resume⟩ ∈ s.holdupEntered.mp.reqs) := by
  obtain ⟨left, resumes⟩ := State.leaveRunReads_of_held ((s.hostRefused_ctx d).trans ctx) phase step
    (State.asksOn_hostRefused.2 asks)
  refine ⟨State.workStopped_ctx_of_goesOn left (by simp [phase]) (Ctx.stopsWork_of_suspended phase), fun takes => ?_⟩
  have dev : s.hostRefused.dev d = s.dev d := by simp [State.dev, s.hostRefused_rest]
  refine State.workStopped_kept (resumes (dev ▸ takes)) (by simp) fun e => ?_
  by_cases here : e = d
  · simp [here, State.stopsRequest, left, Ctx.stopsWork, phase]
  · simp [State.stopsRequest, isFrom, Ne.symm here]

end

/-! #### Its metadata unit (R150) -/

theorem State.leaveRunReads_muWorkWaits (suspend : ∀ q ∈ s.mp.reqs, q.requester = .mu → q.cmd ≠ .suspend) :
    muWorkWaits s.hostRefused.leaveRunReads.mp.reqs ↔ muWorkWaits s.mp.reqs := by
  constructor
  · rintro ⟨q, hq, own, work⟩
    rcases s.hostRefused_readsGo.old q hq with old | ⟨d, rfl⟩
    · exact ⟨q, old, own, work⟩
    · exact nomatch own
  · rintro ⟨q, hq, own, work⟩
    exact ⟨q, s.hostRefused_readsGo.kept q hq (by simp [own, Requester.isRead]) (suspend q hq own), own, work⟩

theorem State.leaveRunReads_hostRefused_mu (s : State) : s.hostRefused.leaveRunReads.mu = s.mu := by
  simp [s.hostRefused_rest]

theorem State.holdupEntered_persist (suspend : ∀ q ∈ s.mp.reqs, q.requester = .mu → q.cmd ≠ .suspend) {p : Persist}
    (op : s.mu.op = some (.persist p)) :
    (muWorkWaits s.mp.reqs → s.holdupEntered.mu.op = none ∧ (s.holdupEntered.mu.slot p.snapshot.kind).pending = true) ∧
      (¬muWorkWaits s.mp.reqs → s.holdupEntered.mu.op = some (.persist { p with stopping := true })) := by
  rw [← State.leaveRunReads_muWorkWaits suspend]
  exact State.workStopped_persist (s.leaveRunReads_hostRefused_mu ▸ op)

theorem State.holdupEntered_mu (other : ∀ p, s.mu.op ≠ some (.persist p)) : s.holdupEntered.mu = s.mu :=
  (State.workStopped_mu (s.leaveRunReads_hostRefused_mu ▸ other)).trans s.leaveRunReads_hostRefused_mu

end

end Sys2Proof.Machine
end

section
/-! PFAIL asserted in BOOT or REPLAY, and its statement (R156, R165). -/

namespace Sys2Proof.Machine

/- One theorem after another: waiting ones would each hold a thread. -/
set_option Elab.async false

section
variable {s : State} {d : Dev} {c : Ctx} {q : Request}

/-! ### STOPPED entered (R165) -/

theorem State.stopBootReads_of_persist (op : s.mu.op = none ∨ ∃ p, s.mu.op = some (.persist p)) : s.stopBootReads = s := by
  unfold State.stopBootReads
  rcases op with op | ⟨p, op⟩ <;> simp only [op]

theorem State.stopBootReads_muGoes (s : State) : s.MuGoes s.stopBootReads := by
  have withdrawn (op : Option MuOp) : s.MuGoes ((s.withdraw isMuWork).setOp op) :=
    ⟨rfl, rfl, s.withdraw_muGoes.old, s.withdraw_muGoes.kept⟩
  unfold State.stopBootReads
  (repeat' split)
  · exact withdrawn none
  · exact .of_mp rfl
  · exact withdrawn none
  · exact .of_mp rfl
  · exact withdrawn none
  · exact .of_mp rfl
  · exact .of_mp rfl

/-- The controller in STOPPED. -/
def StateController.inStopped (x : StateController) : StateController :=
  { x with state := .stopped, pfail := true, step := none }

/-- The engines and the metadata unit have stopped. -/
def State.bootWorkStopped (s : State) : State := (s.pfailTaken s.sc.inStopped).workStopped.stopBootReads

/-- STOPPED has been entered from BOOT or REPLAY. -/
def State.bootStopped (s : State) : State := { s.bootWorkStopped with
  mp := { s.bootWorkStopped.mp with
    reqs := s.bootWorkStopped.mp.reqs.filter (fun q => q.requester ≠ .probe)
    probe := none }
  mu := { s.bootWorkStopped.mu with waiting := none } }

theorem State.pfailRises_boot (state : s.sc.state = .boot ∨ s.sc.state = .replay) :
    (s.pfailLine true).pfailRises = s.bootStopped := by
  have enters : (s.pfailLine true).pfailRises = ((s.pfailLine true).setPfail true).enterStopped := by
    rcases state with state | state <;> (unfold State.pfailRises; simp [state, State.setPfail, State.pfailLine])
  simp only [enters, State.enterStopped, State.stopWork_eq, State.withdraw_from]
  rfl

theorem State.bootStopped_rest (s : State) : s.bootStopped.pins = { s.pins with pfail := true } ∧
    s.bootStopped.sc = s.sc.inStopped ∧ s.bootStopped.hp = s.hp ∧ s.bootStopped.wd = s.wd ∧ s.bootStopped.pwb = s.pwb ∧
    s.bootStopped.rp = s.rp ∧ s.bootStopped.fu = s.fu ∧ s.bootStopped.ru = s.ru ∧ s.bootStopped.mgp = s.mgp ∧
    s.bootStopped.nvm = s.nvm := by
  simp [State.bootStopped, State.bootWorkStopped, State.workStopped_frame, State.pfailTaken]

theorem State.bootStopped_de (s : State) : s.bootStopped.de = (s.pfailTaken s.sc.inStopped).workStopped.de := by
  simp [State.bootStopped, State.bootWorkStopped]

theorem State.bootStopped_stopping (s : State) (d : Dev) : (s.bootStopped.de.get d).stopping = true :=
  s.bootStopped_de ▸ State.workStopped_stopping _ d

theorem State.bootStopped_ctx (s : State) (d : Dev) :
    s.bootStopped.ctx d = (s.pfailTaken s.sc.inStopped).workStopped.ctx d :=
  congrArg (fun e => (e.get d).ctx) s.bootStopped_de

theorem State.bootStopped_ctx_none (ctx : s.ctx d = none) : s.bootStopped.ctx d = none := by
  have none : (s.pfailTaken s.sc.inStopped).ctx d = none := ctx
  rw [s.bootStopped_ctx d, State.workStopped_ctx, none]
  rfl

theorem State.bootStopped_bus (s : State) : s.bootStopped.mp.bus = s.mp.bus :=
  (State.stopBootReads_muGoes _).bus.trans (State.workStopped_bus _)

theorem State.bootStopped_devs (s : State) : s.bootStopped.mp.devs = s.mp.devs :=
  (State.stopBootReads_muGoes _).devs.trans (State.workStopped_devs _)

theorem State.bootStopped_work (hq : q ∈ s.bootStopped.mp.reqs) :
    q ∈ (s.pfailTaken s.sc.inStopped).workStopped.mp.reqs ∧ q.requester ≠ .probe := by
  obtain ⟨stopped, other⟩ := List.mem_filter.1 hq
  exact ⟨(State.stopBootReads_muGoes _).old q stopped, of_decide_eq_true other⟩

theorem State.bootStopped_requests (hq : q ∈ s.bootStopped.mp.reqs) : q ∈ s.mp.reqs ∧ q.requester ≠ .probe :=
  (State.bootStopped_work hq).imp_left fun work => State.workStopped_old (s := s.pfailTaken s.sc.inStopped) work

theorem State.bootStopped_stops (ctx : s.ctx d = some c) :
    (c.stopsAmid d s.mp.reqs → s.bootStopped.ctx d = some { c with phase := .stopped, before := some c.phase } ∧
      (c.phase ≠ .awaitPersist → ∀ q ∈ s.bootStopped.mp.reqs, ¬(q.requester = .engine ∧ q.dev = d))) ∧
    (¬c.stopsAmid d s.mp.reqs → s.bootStopped.ctx d = some c) := by
  rw [s.bootStopped_ctx d]
  obtain ⟨stops, goes⟩ := State.workStopped_stops (s := s.pfailTaken s.sc.inStopped) (l := s.mp.reqs) ctx fun _ _ _ => .rfl
  refine ⟨fun amid => ?_, goes⟩
  obtain ⟨stopped, gone⟩ := stops amid
  exact ⟨stopped, fun persist q hq => gone persist q (State.bootStopped_work hq).1⟩

theorem MetadataUnit.slot_waiting (m : MetadataUnit) (w : Option ScWrite) (k : Kind) :
    ({ m with waiting := w } : MetadataUnit).slot k = m.slot k := by
  cases k <;> rfl

/-- A persist that has been brought to a stop is none of boot's reads. -/
theorem State.bootStopped_persist {p : Persist} (op : s.mu.op = some (.persist p)) :
    (muWorkWaits s.mp.reqs → s.bootStopped.mu.op = none ∧ (s.bootStopped.mu.slot p.snapshot.kind).pending = true) ∧
      (¬muWorkWaits s.mp.reqs → s.bootStopped.mu.op = some (.persist { p with stopping := true })) := by
  obtain ⟨waits, granted⟩ := State.workStopped_persist (s := s.pfailTaken s.sc.inStopped) op
  have unread (op : (s.pfailTaken s.sc.inStopped).workStopped.mu.op = none ∨
      ∃ p, (s.pfailTaken s.sc.inStopped).workStopped.mu.op = some (.persist p)) :
      s.bootStopped.mu = { (s.pfailTaken s.sc.inStopped).workStopped.mu with waiting := none } := by
    rw [State.bootStopped, State.bootWorkStopped, State.stopBootReads_of_persist op]
  constructor
  · intro work
    obtain ⟨op, pending⟩ := waits work
    rw [unread (.inl op)]
    exact ⟨op, (congrArg SlotStatus.pending (MetadataUnit.slot_waiting _ _ _)).trans pending⟩
  · intro work
    rw [unread (.inr ⟨_, granted work⟩)]
    exact granted work

/-! ### The other states (R156) -/

theorem State.pfailRises_other (state : s.sc.state = .holdup ∨ s.sc.state = .dumping ∨ s.sc.state = .dumped ∨
    s.sc.state = .stopped ∨ s.sc.state = .halted) :
    (s.pfailLine true).pfailRises = s.pfailTaken { s.sc with pfail := true } := by
  unfold State.pfailRises
  rcases state with state | state | state | state | state <;> simp [state, State.setPfail, State.pfailLine] <;> rfl

end

/-- Settles O52: by the operating state that the assertion finds. -/
theorem pfailAsserted : Obligations.PfailAsserted := by
  intro s alive line
  refine ⟨fun state => ⟨s.holdupEntered, State.exec_pfailAssert alive line (State.pfailRises_holdup state), ?_⟩,
    fun state => ⟨s.bootStopped, State.exec_pfailAssert alive line (State.pfailRises_boot state), ?_⟩,
    fun state => State.exec_pfailAssert alive line (State.pfailRises_other state)⟩
  · obtain ⟨pins, sc, rp, wd, ru, nvm⟩ := s.holdupEntered_rest
    obtain ⟨entries, counter⟩ := s.holdupEntered_entries
    refine ⟨pins, sc, entries, counter, State.holdupEntered_of_none, fun a => State.holdupEntered_of_held, rp,
      fun q => State.holdupEntered_requests, fun q => State.holdupEntered_port, s.holdupEntered_bus, s.holdupEntered_devs,
      State.workStopped_stopping _ .d0, State.workStopped_stopping _ .d1, fun d => State.holdupEntered_ctx_none,
      fun d c => State.holdupEntered_stops, fun d c ctx phase started => ?_,
      fun suspend p => State.holdupEntered_persist suspend, State.holdupEntered_mu, wd, ru, nvm⟩
    exact ⟨State.holdupEntered_of_not_asked ctx phase,
      fun asks step => ⟨fun waits => State.holdupEntered_of_waiting ctx phase started step waits asks,
        State.holdupEntered_of_sent ctx phase step⟩,
      fun asks step => State.holdupEntered_of_suspendHeld ctx phase step asks⟩
  · obtain ⟨pins, sc, hp, wd, pwb, rp, fu, ru, mgp, nvm⟩ := s.bootStopped_rest
    exact ⟨pins, sc, s.bootStopped_stopping .d0, s.bootStopped_stopping .d1, fun d => State.bootStopped_ctx_none,
      fun d c => State.bootStopped_stops, fun p => State.bootStopped_persist, rfl, rfl,
      fun q => State.bootStopped_requests, s.bootStopped_bus, s.bootStopped_devs, hp, wd, pwb, rp, fu, ru, mgp, nvm⟩

end Sys2Proof.Machine
end

section
/-! The end of a program in a memory device: the bytes it names and the others (R121). -/

namespace Sys2Proof.Machine

/- One theorem after another: waiting ones would each hold a thread. -/
set_option Elab.async false

/-! ### The bytes of a page (R121) -/

theorem getElem?_programmed {old : List NvmByte} {bytes : List (Option Byte)} (same : old.length = bytes.length) (k : Nat) :
    (programmed old bytes)[k]? = match byteAt bytes k with
      | some v => some (.val v)
      | none => old[k]? := by
  unfold programmed
  rw [List.getElem?_zipWith]
  by_cases hk : k < old.length
  · rw [byteAt_of_lt (same ▸ hk), List.getElem?_eq_getElem hk, List.getElem?_eq_getElem (same ▸ hk)]
    cases bytes[k] <;> rfl
  · rw [byteAt_of_length_le (by omega), List.getElem?_eq_none (by omega)]

/-- A byte that a failed program does not name is as it was. -/
theorem getElem?_spoiled_of_unnamed (n : Nat) {old : List NvmByte} {bytes : List (Option Byte)}
    (same : old.length = bytes.length) {k : Nat} (unnamed : byteAt bytes k = none) : (spoiled n old bytes)[k]? = old[k]? := by
  induction old generalizing n bytes k with
  | nil => cases bytes <;> rfl
  | cons o os ih =>
    cases bytes with
    | nil => exact absurd same (by simp)
    | cons b bs =>
      cases k with
      | zero =>
        have none_there : b = none := unnamed
        simp [spoiled, none_there]
      | succ k => exact ih (n + 1) (by simpa using same) unnamed

/-! ### The device -/

section
variable {s : State} {d : Dev} {r : NvmProgram} (runs : (s.nvm.get d).running = some r)
include runs

theorem State.nvmPass_get : (s.nvmPass d).nvm.get d = {
    pages := putPage (s.nvm.get d).pages r.page (programmed ((s.nvm.get d).page r.page) r.bytes), running := none } := by
  simp only [State.nvmPass, runs, State.setNvm_nvm, PerDev.get_set_same]

theorem State.nvmSpoil_get : (s.nvmSpoil d).nvm.get d = {
    pages := putPage (s.nvm.get d).pages r.page (spoiled (256 * s.indet) ((s.nvm.get d).page r.page) r.bytes)
    running := none } := by
  simp only [State.nvmSpoil, runs, State.setIndet_nvm, State.setNvm_nvm, PerDev.get_set_same]

end

/-- Settles O19: the program's page is the one put anew, and each of its bytes by whether the program names it. -/
theorem programsEnd : Obligations.ProgramsEnd := by
  intro s d r form runs named whole
  have same : ((s.nvm.get d).page r.page).length = r.bytes.length := whole.trans named.symm
  rw [State.nvmPass_get runs, State.nvmSpoil_get runs]
  refine ⟨⟨rfl, fun p k => ?pass⟩, ⟨rfl, fun p k kept => ?fail⟩⟩
  case pass =>
    rw [Nvm.page_putPage (form.get d)]
    by_cases own : p = r.page
    · rw [if_pos own, if_pos own, own]
      exact getElem?_programmed same k
    · rw [if_neg own, if_neg own]
  case fail =>
    rw [Nvm.page_putPage (form.get d)]
    by_cases own : p = r.page
    · rw [if_pos own, own]
      exact getElem?_spoiled_of_unnamed _ same (kept.resolve_left (not_not_intro own))
    · rw [if_neg own]

end Sys2Proof.Machine
end

section
/-! The remap table: what it answers, and how an entry takes a home page's place (R84, R86, R88, R93, R95). -/

namespace Sys2Proof.Machine

/- One theorem after another: waiting ones would each hold a thread. -/
set_option Elab.async false

/-! ### The answers (R88) -/

theorem RemapUnit.isFailed_iff (u : RemapUnit) (d : Dev) (page : Nat) :
    u.isFailed d page = true ↔ RemapEntry.failed d page ∈ u.table := by
  simp [RemapUnit.isFailed]

theorem RemapUnit.physical_eq (u : RemapUnit) (d : Dev) (page : Nat) :
    u.physical d page = (remapTarget u.table d page).getD page := by
  unfold RemapUnit.physical remapTarget
  split
  · next spare h => exact (congrArg (Option.getD · page) h).symm
  · next h => exact (congrArg (Option.getD · page) h).symm

section
variable {d : Dev} {home : Nat} {before after table : List RemapEntry}

theorem remapTarget_of_none (apart : ∀ q, RemapEntry.remap d home q ∉ table) : remapTarget table d home = none := by
  refine List.findSome?_eq_none_iff.2 fun x hx => ?_
  cases x with
  | remap d' h q =>
    refine if_neg ?_
    rintro ⟨rfl, rfl⟩
    exact apart q hx
  | failed | retiredSpare => rfl

theorem remapTarget_of_first (apart : ∀ q, RemapEntry.remap d home q ∉ before) (spare : Nat) :
    remapTarget (before ++ .remap d home spare :: after) d home = some spare := by
  have earlier := remapTarget_of_none apart
  unfold remapTarget at earlier ⊢
  rw [List.findSome?_append, earlier, Option.none_or, List.findSome?_cons]
  simp

/-! ### An entry takes the page's place (R86, R93, R95) -/

theorem replaceRemap_of_none (apart : ∀ q, RemapEntry.remap d home q ∉ table) (e : RemapEntry) :
    replaceRemap table d home e = table := by
  refine (List.map_congr_left fun x hx => ?_).trans (List.map_id _)
  cases x with
  | remap d' h q =>
    refine if_neg ?_
    rintro ⟨rfl, rfl⟩
    exact apart q hx
  | failed | retiredSpare => rfl

theorem replaceRemap_of_first (first : ∀ q, RemapEntry.remap d home q ∉ before)
    (last : ∀ q, RemapEntry.remap d home q ∉ after) (spare : Nat) (e : RemapEntry) :
    replaceRemap (before ++ .remap d home spare :: after) d home e = before ++ e :: after := by
  have split : replaceRemap (before ++ .remap d home spare :: after) d home e =
      replaceRemap before d home e ++ replaceRemap [.remap d home spare] d home e ++ replaceRemap after d home e := by
    simp [replaceRemap]
  rw [split, replaceRemap_of_none first, replaceRemap_of_none last]
  simp [replaceRemap]

/-- `table'` is `table` with `e` in the place of the page's one REMAP entry, whose spare is retired, or at the end. -/
def PageSettles (d : Dev) (home : Nat) (e : RemapEntry) (table table' : List RemapEntry) : Prop :=
  ((∀ q, RemapEntry.remap d home q ∉ table) ∧ table' = table ++ [e]) ∨
    (∃ before old after, table = before ++ .remap d home old :: after ∧
      (∀ q, RemapEntry.remap d home q ∉ before ∧ RemapEntry.remap d home q ∉ after) ∧
      table' = before ++ e :: after ++ [.retiredSpare d old])

variable {e : RemapEntry} {table' : List RemapEntry}

theorem PageSettles.settlePage_eq (h : PageSettles d home e table table') : settlePage table d home e = table' := by
  obtain ⟨apart, rfl⟩ | ⟨before, old, after, rfl, apart, rfl⟩ := h
  · simp only [settlePage, remapTarget_of_none apart]
  · simp only [settlePage, remapTarget_of_first (fun q => (apart q).1),
      replaceRemap_of_first (fun q => (apart q).1) (fun q => (apart q).2)]

theorem PageSettles.mem (h : PageSettles d home e table table') : e ∈ table' := by
  obtain ⟨-, rfl⟩ | ⟨before, old, after, -, -, rfl⟩ := h <;> simp

/-- No page becomes FAILED by another entry. -/
theorem PageSettles.failed_of_mem (h : PageSettles d home e table table') {d' : Dev} {page : Nat}
    (other : e ≠ .failed d' page) (mem : RemapEntry.failed d' page ∈ table') : RemapEntry.failed d' page ∈ table := by
  obtain ⟨-, rfl⟩ | ⟨before, old, after, rfl, -, rfl⟩ := h
  · simpa [other.symm] using mem
  · simpa [other.symm] using mem

end

end Sys2Proof.Machine
end

section
/-! The flow of a retirement past its beginning: a page that cannot be remapped, and the outcomes of a spare's program (R65, R84,
R86, R87, R91 to R97). -/

namespace Sys2Proof.Machine

/- One theorem after another: waiting ones would each hold a thread. -/
set_option Elab.async false

/-! ### Updates of a block that another operation has left alone -/

section
variable {s u : State} {d : Dev}

theorem State.setCtx_of_de (de : u.de = s.de) (c : Option Ctx) :
    u.setCtx d c = { u with de := s.de.set d { s.de.get d with ctx := c } } := by
  rw [State.setCtx, de]
  rfl

theorem State.setDevState_of_mp (mp : u.mp = s.mp) (x : DevState) : u.setDev d { u.dev d with state := x } =
    { u with mp := { s.mp with devs := s.mp.devs.set d { s.dev d with state := x } } } := by
  rw [State.setDev, State.dev, mp]
  rfl

end

section
variable (s : State) (p : Loc → Bool)

theorem State.dropRefill_retireCandidate (d : Dev) (spare : Nat) :
    (s.dropRefill p).retireCandidate d spare = (s.retireCandidate d spare).dropRefill p := by
  rw [s.dropRefill_eq, (s.retireCandidate d spare).dropRefill_eq]
  rfl

theorem State.dropRefill_remapTo (d : Dev) (home spare : Nat) :
    (s.dropRefill p).remapTo d home spare = (s.remapTo d home spare).dropRefill p := by
  rw [s.dropRefill_eq, (s.remapTo d home spare).dropRefill_eq]
  rfl

@[simp] theorem State.dropRefill_dev (d : Dev) : (s.dropRefill p).dev d = s.dev d := by
  rw [s.dropRefill_eq]
  rfl

end

section
variable {s : State} {d : Dev} {c : Ctx}

/-! ### The entries of a context are LOST (R96, R97) -/

theorem State.loseContext_eq (s : State) (d : Dev) (c : Ctx) (kind : FaultKind) : s.loseContext d c kind = ({ s with
    pwb := { s.pwb with entries := s.pwb.entries.filter (fun e => !inSet d c.entrySet e) }
    fu := s.fu.markLost ((s.pwb.entries.filter (inSet d c.entrySet)).map Entry.seq)
    de := s.de.set d { s.de.get d with ctx := none }
    mgp := { s.mgp with counters :=
      s.mgp.counters.raise .entriesLost (s.pwb.entries.countP (inSet d c.entrySet)) } } : State).postFault kind (some d)
        (some c.home) (some (s.pwb.entries.countP (inSet d c.entrySet))) := by
  unfold State.loseContext
  dsimp only
  rw [State.postFault_setCtx, State.declareLost, ← List.countP_eq_length_filter]
  rfl

/-! ### AWAIT_PERSIST (R65, R93, R96) -/

/-- The context once it awaits the persist of a change. -/
def Ctx.awaits (c : Ctx) (change : Word32) : Ctx :=
  { c with phase := .awaitPersist, awaited := some change, candidate := none, image := none }

theorem State.enterAwait_of_lost (failed : s.ru.isFailed d c.home = true) (fault : s.mu.remap.fault = true) :
    s.enterAwait d c = s.loseContext d c .retireFail :=
  if_pos (by simp [failed, fault])

section
variable (persists : s.ru.isFailed d c.home = false ∨ s.mu.remap.fault = false)
include persists

theorem State.enterAwait_of_running (running : (s.de.get d).stopping = false) :
    s.enterAwait d c = s.setCtx d (some (c.awaits s.ru.change)) :=
  (if_neg (by rcases persists with h | h <;> simp [h])).trans (if_neg (by simp [running]))

theorem State.enterAwait_of_stopping (stopping : (s.de.get d).stopping = true) : s.enterAwait d c =
    s.setCtx d (some { c.awaits s.ru.change with phase := .stopped, before := some .awaitPersist }) :=
  (if_neg (by rcases persists with h | h <;> simp [h])).trans (if_pos stopping)

end

/-! ### A page that cannot be remapped (R87, R95 to R97) -/

/-- The page has become FAILED: its lines are gone from the read-ahead buffer, and the table has changed. -/
def State.pageFails (s : State) (d : Dev) (home : Nat) (table : List RemapEntry) (changed : Bool) : State :=
  ({ s with
    rp := { s.rp with lines := s.rp.lines.filter (fun r => !(r.loc.dev = d && r.loc.page = home)) }
    ru := { s.ru with table := table, change := if changed then s.ru.change else s.ru.change + 1 }
    mu := if changed then s.mu else { s.mu with remap := { s.mu.remap with pending := true } } } : State).dropRefill
      (fun l => l.dev = d && l.page = home)

theorem State.unremappable_of_room (room : failedCount s.ru.table < 8) {table : List RemapEntry}
    (settles : PageSettles d c.home (.failed d c.home) s.ru.table table) (changed : Bool) :
    s.unremappable d c changed = (s.pageFails d c.home table changed).enterAwait d c := by
  refine (if_pos room).trans ?_
  cases changed <;> rw [State.markFailed, settles.settlePage_eq] <;> rfl

theorem State.unremappable_of_full (full : 8 ≤ failedCount s.ru.table) (changed : Bool) : s.unremappable d c changed =
    { s.loseContext d c .deviceWriteLocked with
      mp := { s.mp with devs := s.mp.devs.set d { s.dev d with state := .writeLocked } } } := by
  refine (if_neg (Nat.not_lt.2 full)).trans (State.setDevState_of_mp ?_ _)
  rw [State.loseContext_eq]
  simp

theorem State.pageFails_ru (home : Nat) (table : List RemapEntry) (changed : Bool) : (s.pageFails d home table changed).ru =
    { s.ru with table := table, change := if changed then s.ru.change else s.ru.change + 1 } := by
  simp [State.pageFails]

theorem State.pageFails_fault (home : Nat) (table : List RemapEntry) (changed : Bool) :
    (s.pageFails d home table changed).mu.remap.fault = s.mu.remap.fault := by
  cases changed <;> simp [State.pageFails]

theorem State.pageFails_rest (home : Nat) (table : List RemapEntry) (changed : Bool) :
    (s.pageFails d home table changed).pwb = s.pwb ∧ (s.pageFails d home table changed).fu = s.fu ∧
      (s.pageFails d home table changed).de = s.de ∧ (s.pageFails d home table changed).mgp = s.mgp := by
  simp [State.pageFails]

/-! ### The program of a candidate spare fails (R84, R91, R92) -/

/-- The candidate spare is retired: the page's lines are gone from the read-ahead buffer, and the table has changed. -/
def State.spareRetired (s : State) (d : Dev) (home spare : Nat) : State :=
  ({ s with
    rp := { s.rp with lines := s.rp.lines.filter (fun r => !(r.loc.dev = d && r.loc.page = home)) }
    ru := { s.ru with
      table := s.ru.table ++ [.retiredSpare d spare], hold := s.ru.hold.set d none, change := s.ru.change + 1 }
    mu := { s.mu with remap := { s.mu.remap with pending := true } } } : State).dropRefill
      (fun l => l.dev = d && l.page = home)

theorem State.spareRetired_ru (home spare : Nat) : (s.spareRetired d home spare).ru = { s.ru with
    table := s.ru.table ++ [.retiredSpare d spare], hold := s.ru.hold.set d none, change := s.ru.change + 1 } := by
  simp [State.spareRetired]

theorem State.spareRetired_de (home spare : Nat) : (s.spareRetired d home spare).de = s.de := by
  simp [State.spareRetired]

theorem State.spareRetired_takes (home spare : Nat) (e : Dev) :
    ((s.spareRetired d home spare).dev e).takes = (s.dev e).takes := by
  rw [State.spareRetired, State.dropRefill_dev]
  rfl

theorem State.spareFails_eq (s : State) (d : Dev) (c : Ctx) (spare : Nat) : s.spareFails d c spare =
    (s.spareRetired d c.home spare).retireRead d { c with candidate := none, attempts := c.attempts + 1 } true := by
  rw [State.spareFails, State.invalidate, State.dropRefill_retireCandidate]
  rfl

theorem State.retireRead_of_spent (spent : s.ru.free.get d = [] ∨ Config.spareAttempts ≤ c.attempts) (changed : Bool) :
    s.retireRead d c changed = s.unremappable d c changed :=
  if_pos spent

theorem State.retireRead_of_image (free : s.ru.free.get d ≠ []) (left : c.attempts < Config.spareAttempts)
    {image : List Byte} (held : c.image = some image) (changed : Bool) :
    s.retireRead d c changed = s.retireProgram d c image := by
  refine (if_neg ?_).trans ?_
  · rintro (none_free | spent)
    · exact free none_free
    · omega
  · simp only [held]

/-- The next spare goes from the free list into the hold that the failed one has left. -/
theorem State.spareRetired_holdsSpare (home spare next : Nat) (rest : List Nat) :
    (s.spareRetired d home spare).holdsSpare d next rest = { s.spareRetired d home spare with
      ru := { (s.spareRetired d home spare).ru with
        free := s.ru.free.set d rest, hold := s.ru.hold.set d (some next) } } := by
  rw [State.holdsSpare, State.spareRetired_ru]
  dsimp only
  rw [PerDev.set_set]
  rfl

/-! ### It passes (R93) -/

/-- The candidate spare has taken the page's place, but for a refill of the page that is withdrawn. -/
def State.spareTaken (s : State) (d : Dev) (home : Nat) (table : List RemapEntry) : State := { s with
  rp := { s.rp with lines := s.rp.lines.filter (fun r => !(r.loc.dev = d && r.loc.page = home)) }
  ru := { s.ru with table := table, hold := s.ru.hold.set d none, change := s.ru.change + 1 }
  mu := { s.mu with remap := { s.mu.remap with pending := true } }
  mgp := { s.mgp with counters := s.mgp.counters.raise .retirements 1 } }

/-- PROGRAM_FAIL is queued for a drain batch alone. -/
def State.postProgramFail (s : State) (d : Dev) (c : Ctx) (spare : Nat) : State :=
  if c.kind = .drain then s.postFault .programFail (some d) (some c.home) (some spare) else s

theorem State.sparePasses_eq {p : Nat} {table : List RemapEntry}
    (settles : PageSettles d c.home (.remap d c.home p) s.ru.table table) : s.sparePasses d c p =
      (((s.spareTaken d c.home table).dropRefill (fun l => l.dev = d && l.page = c.home)).postProgramFail d c p).enterAwait
        d c := by
  have taken : ((s.invalidate d c.home).remapTo d c.home p).count .retirements 1 =
      (s.spareTaken d c.home table).dropRefill (fun l => l.dev = d && l.page = c.home) := by
    rw [State.invalidate, State.dropRefill_remapTo, State.dropRefill_count, State.remapTo]
    simp only [State.setRp_ru]
    rw [settles.settlePage_eq]
    rfl
  unfold State.sparePasses State.postProgramFail
  simp only [taken]
  cases c.kind <;> rfl

theorem State.postProgramFail_setCtx (s : State) (d : Dev) (c : Ctx) (p : Nat) (x : Option Ctx) :
    (s.postProgramFail d c p).setCtx d x = (s.setCtx d x).postProgramFail d c p := by
  unfold State.postProgramFail
  split
  · exact s.postFault_setCtx ..
  · rfl

theorem State.postProgramFail_rest (s : State) (d : Dev) (c : Ctx) (p : Nat) :
    (s.postProgramFail d c p).ru = s.ru ∧ (s.postProgramFail d c p).de = s.de := by
  unfold State.postProgramFail
  split <;> simp

/-- The page that a spare has taken is not FAILED, and the context awaits the change. -/
theorem State.sparePasses_awaits {p : Nat} {table : List RemapEntry} (kept : s.ru.isFailed d c.home = false)
    (settles : PageSettles d c.home (.remap d c.home p) s.ru.table table) :
    let passed (x : Ctx) : State := (((s.spareTaken d c.home table).setCtx d (some x)).dropRefill
      (fun l => l.dev = d && l.page = c.home)).postProgramFail d c p
    ((s.de.get d).stopping = false → s.sparePasses d c p = passed (c.awaits (s.ru.change + 1))) ∧
      ((s.de.get d).stopping = true → s.sparePasses d c p =
        passed { c.awaits (s.ru.change + 1) with phase := .stopped, before := some .awaitPersist }) := by
  intro passed
  rw [State.sparePasses_eq settles]
  generalize hu : ((s.spareTaken d c.home table).dropRefill (fun l => l.dev = d && l.page = c.home)).postProgramFail d c p = u
  obtain ⟨ru, de⟩ := ((s.spareTaken d c.home table).dropRefill
    (fun l => l.dev = d && l.page = c.home)).postProgramFail_rest d c p
  rw [hu] at ru de
  have table' : u.ru = (s.spareTaken d c.home table).ru := ru.trans (by simp)
  have engines : u.de = s.de := de.trans (by simp [State.spareTaken])
  have notFailed : u.ru.isFailed d c.home = false := by
    rw [← Bool.not_eq_true, RemapUnit.isFailed_iff] at kept ⊢
    rw [table']
    exact fun mem => kept (settles.failed_of_mem (by simp) mem)
  have ends (x : Ctx) : u.setCtx d (some x) = passed x := by
    rw [← hu, State.postProgramFail_setCtx, State.dropRefill_setCtx]
  refine ⟨fun running => ?_, fun stopping => ?_⟩
  · rw [State.enterAwait_of_running (.inl notFailed) (engines ▸ running), ends, table']
    rfl
  · rw [State.enterAwait_of_stopping (.inl notFailed) (engines ▸ stopping), ends, table']
    rfl

/-! ### The events that bring the outcome -/

theorem State.programCompletes_spare {p : Nat} (ctx : s.ctx d = some c) (phase : c.phase = .retireProgram)
    (candidate : c.candidate = some p) (pass : Bool) :
    s.programCompletes d pass = if pass then s.sparePasses d c p else s.spareFails d c p := by
  simp only [State.programCompletes, ctx, phase, candidate]

theorem State.engineResetDone_spare {p : Nat} (ctx : s.ctx d = some c) (phase : c.phase = .resetting)
    (candidate : c.candidate = some p) : s.engineResetDone d = s.spareFails d c p := by
  simp only [State.engineResetDone, ctx, phase, candidate, if_true]

end

end Sys2Proof.Machine
end

section
/-! What the remap unit answers, and how a spare's outcome or a page that cannot be remapped changes it (R84 to R97). -/

namespace Sys2Proof.Machine

/- One theorem after another: waiting ones would each hold a thread. -/
set_option Elab.async false

section
variable {s : State} {d : Dev} {c : Ctx}

/-- A page that cannot be remapped, with room for it among the FAILED pages (R95, R96). -/
theorem State.unremappable_fails (room : failedCount s.ru.table < 8) {table : List RemapEntry} {changed : Bool}
    (settles : PageSettles d c.home (.failed d c.home) s.ru.table table) :
    let failed := s.pageFails d c.home table changed
    let waits := c.awaits (if changed then s.ru.change else s.ru.change + 1)
    let held (x : Ctx) : State := { failed with de := s.de.set d { s.de.get d with ctx := some x } }
    (s.mu.remap.fault = false → (s.de.get d).stopping = false → s.unremappable d c changed = held waits) ∧
      (s.mu.remap.fault = false → (s.de.get d).stopping = true → s.unremappable d c changed =
        held { waits with phase := .stopped, before := some .awaitPersist }) ∧
      (s.mu.remap.fault = true → s.unremappable d c changed = failed.loseContext d c .retireFail) := by
  dsimp only
  obtain ⟨-, -, de, -⟩ := s.pageFails_rest (d := d) c.home table changed
  have change := congrArg RemapUnit.change (s.pageFails_ru (d := d) c.home table changed)
  rw [State.unremappable_of_room room settles]
  refine ⟨fun fault running => ?_, fun fault stopping => ?_, fun fault => ?_⟩
  · rw [State.enterAwait_of_running (.inr ((s.pageFails_fault ..).trans fault)) (de ▸ running), State.setCtx_of_de de, change]
  · rw [State.enterAwait_of_stopping (.inr ((s.pageFails_fault ..).trans fault)) (de ▸ stopping), State.setCtx_of_de de, change]
  · refine State.enterAwait_of_lost ?_ ((s.pageFails_fault ..).trans fault)
    rw [RemapUnit.isFailed_iff, State.pageFails_ru]
    exact settles.mem

/-- A candidate that fails with a free spare and an attempt left gives its place to the next (R91, R92). -/
theorem State.spareFails_next {p q : Nat} {rest : List Nat} {image : List Byte} (left : c.attempts < 2)
    (held : c.image = some image) (free : s.ru.free.get d = q :: rest) :
    let next := s.spareRetired d c.home p
    let tries : Ctx := { c with phase := .retireProgram, candidate := some q, attempts := c.attempts + 1, programTime := 0 }
    let took (x : Ctx) (reqs : List Request) : State := { next with
      ru := { next.ru with free := s.ru.free.set d rest, hold := s.ru.hold.set d (some q) }
      de := s.de.set d { s.de.get d with ctx := some x }
      mp := { next.mp with reqs := next.mp.reqs ++ reqs } }
    let low (u : State) : State := if rest.length = 4 then u.postFault .sparesLow (some d) none (some 4) else u
    ((s.de.get d).stopping = false → (s.dev d).takes = true → s.spareFails d c p =
        low (took tries [⟨.engine, d, .programPage q (overlayBytes image c.batch)⟩])) ∧
      ((s.de.get d).stopping = true → s.spareFails d c p =
        low (took { tries with phase := .stopped, before := some .retireProgram } [])) := by
  intro next tries took low
  have de : next.de = s.de := s.spareRetired_de c.home p
  have free' : next.ru.free.get d = q :: rest := by rw [State.spareRetired_ru]; exact free
  have holds : next.holdsSpare d q rest = { next with
      ru := { next.ru with free := s.ru.free.set d rest, hold := s.ru.hold.set d (some q) } } :=
    s.spareRetired_holdsSpare c.home p q rest
  have retries : s.spareFails d c p = low ((next.holdsSpare d q rest).memoryStep d tries
      (.programPage q (overlayBytes image c.batch))) := by
    have attempts : c.attempts + 1 < Config.spareAttempts := Nat.add_lt_add_right left 1
    rw [State.spareFails_eq, State.retireRead_of_image (by rw [free']; simp) (by exact attempts) (by exact held),
      State.retireProgram_of_free rfl free']
  refine ⟨fun running takes => ?_, fun stopping => ?_⟩
  · have takes' : (next.dev d).takes = true := (s.spareRetired_takes c.home p d).trans takes
    rw [retries, State.memoryStep_of_running (by rw [holds]; exact de ▸ running) (by exact takes'), holds]
    dsimp only
    rw [de]
  · rw [retries, State.memoryStep_of_stopping (by rw [holds]; exact de ▸ stopping), holds]
    dsimp only [took]
    rw [de, List.append_nil]

end

/-- Settles O41: the answers by the table's REMAP and FAILED entries, a page that cannot be remapped and a spare that fails over
every state, and the events by the outcome they bring. -/
theorem remapChanges : Obligations.RemapChanges := by
  refine ⟨RemapUnit.isFailed_iff, ?itself, ?spare, fun s d c => ⟨?failed, ?full, fun p => ⟨?spent, ?next⟩⟩, ?events⟩
  case itself =>
    intro u d page apart
    rw [RemapUnit.physical_eq, remapTarget_of_none apart, Option.getD_none]
  case spare =>
    intro u d page p before after table apart
    rw [RemapUnit.physical_eq, table, remapTarget_of_first apart, Option.getD_some]
  case failed =>
    intro table changed room settles
    obtain ⟨running, stopping, lost⟩ := State.unremappable_fails (s := s) (d := d) (c := c) (changed := changed) room settles
    refine ⟨running, stopping, fun fault => (lost fault).trans ?_⟩
    obtain ⟨pwb, fu, de, mgp⟩ := s.pageFails_rest (d := d) c.home table changed
    rw [State.loseContext_eq, pwb, fu, de, mgp]
    rfl
  case full =>
    intro changed full
    rw [State.unremappable_of_full full, State.loseContext_eq]
    rfl
  case spent =>
    intro spent
    have enough : (s.spareRetired d c.home p).ru.free.get d = [] ∨ Config.spareAttempts ≤ c.attempts + 1 := by
      rw [State.spareRetired_ru]
      exact spent.imp_right fun many => Nat.add_le_add_right many 1
    rw [State.spareFails_eq, State.retireRead_of_spent enough]
    rfl
  case next => exact fun q rest image left held free => State.spareFails_next left held free
  case events =>
    rintro s t d c p alive bus cmd rfl owner ctx candidate
    dsimp only
    have returns (r : StatusResult) := State.transferEnds_readStatus bus cmd (.status r)
    refine ⟨fun r resetting phase ready => State.exec_transferEnd alive ?_, fun programming unordered phase =>
      ⟨State.exec_transferEnd alive ?_, fun table kept settles => ?_⟩⟩
    · rw [returns, answerStatus, State.statusReturned_reset (by exact resetting) ready,
        State.resetCompletes_engine (by exact owner), State.engineResetDone_spare (by exact ctx) phase candidate]
      rfl
    · have busy : (s.busFree.dev t.req.dev).activity = .programming := programming
      rw [returns]
      simp only [State.statusReturned, busy, answerStatus]
      rw [State.programReady_fails (by exact owner) (State.busFree_resetOrdered unordered), State.busFree,
        State.nvmSpoil_setMp, State.programCompletes_spare (by exact ctx) phase candidate, if_neg (by simp)]
      rfl
    · have busy : (s.busFree.dev t.req.dev).activity = .programming := programming
      have ends := returns .readyPass
      simp only [State.statusReturned, busy, answerStatus] at ends
      rw [State.programReady_engine (by exact owner) (State.busFree_resetOrdered unordered), State.busFree,
        State.nvmPass_setMp, State.programCompletes_spare (by exact ctx) phase candidate, if_pos rfl] at ends
      obtain ⟨running, stopping⟩ := State.sparePasses_awaits (s := ({ s with
        nvm := (s.nvmPass t.req.dev).nvm, mp := { s.mp with bus := none } } : State).setDev t.req.dev
          (s.dev t.req.dev).toIdle) (by exact kept) (by exact settles)
      exact ⟨fun h => State.exec_transferEnd alive (ends.trans (running h)),
        fun h => State.exec_transferEnd alive (ends.trans (stopping h))⟩

end Sys2Proof.Machine
end

section
/-! RUN left (R18, R45, R112), and HOLDUP entered with contexts that are STOPPED already (R66, R166, R172). -/

namespace Sys2Proof.Machine

/- One theorem after another: waiting ones would each hold a thread. -/
set_option Elab.async false

section
variable {s : State} {d : Dev}

/-! ### RUN is left -/

theorem State.leaveRun_entries (s : State) :
    s.leaveRun.pwb.entries = s.pwb.entries.map sealedEntry ∧ s.leaveRun.pwb.counter = s.pwb.counter := by
  have pwb : s.leaveRun.pwb = s.sealAll.refuseHeld.pwb := by simp [State.leaveRun]
  rw [pwb, State.refuseHeld_entries, State.refuseHeld_counter]
  exact ⟨rfl, rfl⟩

/-- The host's side is as the refusal of the held access leaves it. -/
theorem State.leaveRun_host (s : State) : s.leaveRun.hp = s.sealAll.refuseHeld.hp ∧ s.leaveRun.fu = s.sealAll.refuseHeld.fu ∧
    s.leaveRun.mgp = s.sealAll.refuseHeld.mgp := by
  simp [State.leaveRun]

theorem State.leaveRun_of_none (idle : s.heldPhase = none) :
    s.leaveRun.hp = s.hp ∧ s.leaveRun.fu = s.fu ∧ s.leaveRun.mgp = s.mgp := by
  have refused : s.sealAll.refuseHeld = s.sealAll := State.refuseHeld_of_none idle
  obtain ⟨hp, fu, mgp⟩ := s.leaveRun_host
  rw [hp, fu, mgp, refused]
  exact ⟨rfl, rfl, rfl⟩

theorem State.leaveRun_of_held {a : Access} (access : s.hp.access = some a) (held : a.phase ≠ .complete) :
    s.leaveRun.hp = { access := some a.failed, lastErr := some { cause := .notReady, addr := a.addr, dir := a.dir } } ∧
      s.leaveRun.mgp = { s.mgp with counters := s.mgp.counters.raise .errCompletions 1 } := by
  obtain ⟨refusedHp, refusedMgp, -⟩ := State.refuseHeld_of_held (s := s.sealAll) access held
  obtain ⟨hp, -, mgp⟩ := s.leaveRun_host
  exact ⟨hp.trans refusedHp, mgp.trans refusedMgp⟩

theorem State.leaveRun_readsGo (s : State) : s.ReadsGo s.leaveRun :=
  (State.ReadsGo.of_mp (by simp)).trans s.sealAll.refuseHeld.leaveRunReads_readsGo

theorem State.leaveRun_ctx (apart : ∀ x, s.ctx d = some x → x.phase ≠ .suspended) : s.leaveRun.ctx d = s.ctx d := by
  have same : s.sealAll.refuseHeld.ctx d = s.ctx d := by simp [State.ctx]
  exact (State.leaveRunReads_of_unsuspended fun x ctx => apart x (same.symm.trans ctx)).1.trans same

/-! ### HOLDUP is entered -/

/-- The controller has gone to HOLDUP. -/
def State.holdupSet (s : State) : State :=
  s.setSc { s.sc with state := .holdup, step := none, returnWrite := false, plan := none }

/-- The controller has gone to HOLDUP, and RUN has been left. -/
def State.holdupLeft (s : State) : State := s.holdupSet.leaveRun

theorem State.enterHoldup_eq (s : State) : s.enterHoldup = s.holdupLeft.workStopped := State.stopWork_eq _

/-- A context that is STOPPED already stays as it is (R66). -/
theorem State.engineTold_of_stopped (stopped : ∀ c, s.ctx d = some c → c.phase = .stopped) :
    s.engineTold d = { s.de.get d with stopping := true } := by
  have same : (s.ctx d).map (·.told (s.engineWaits d)) = s.ctx d := by
    cases ctx : s.ctx d with
    | none => rfl
    | some c => exact congrArg some (if_neg (by simp [stopped c ctx, Ctx.stopsWork]))
  rw [State.engineTold, same]
  rfl

theorem State.enterHoldup_de (stopped : ∀ d c, s.ctx d = some c → c.phase = .stopped) :
    s.enterHoldup.de = ⟨{ s.de.d0 with stopping := true }, { s.de.d1 with stopping := true }⟩ := by
  have kept (d : Dev) : s.holdupLeft.ctx d = s.ctx d := State.leaveRun_ctx fun x ctx => by simp [stopped d x ctx]
  have engines : s.enterHoldup.de = ⟨s.holdupLeft.engineTold .d0, s.holdupLeft.engineTold .d1⟩ := by
    simp [State.enterHoldup_eq, State.workStopped, State.enginesStopped]
  have told (d : Dev) : s.holdupLeft.engineTold d = { ctx := s.ctx d, stopping := true } := by
    rw [State.engineTold_of_stopped fun c ctx => stopped d c ((kept d).symm.trans ctx), ← kept d]
    rfl
  rw [engines, told, told]
  rfl

theorem State.enterHoldup_mp (s : State) : s.enterHoldup.mp.devs = s.mp.devs ∧ s.enterHoldup.mp.bus = s.mp.bus := by
  have left := s.holdupSet.leaveRun_readsGo
  rw [State.enterHoldup_eq, State.workStopped_devs, State.workStopped_bus]
  exact ⟨left.devs, left.bus⟩

theorem State.enterHoldup_mu (other : ∀ p, s.mu.op ≠ some (.persist p)) : s.enterHoldup.mu = s.mu := by
  have mu : s.holdupLeft.mu = s.mu := by simp [State.holdupLeft, State.holdupSet]
  rw [State.enterHoldup_eq, State.workStopped_mu (mu ▸ other), mu]

theorem State.enterHoldup_rest (s : State) :
    s.enterHoldup.sc = { s.sc with state := .holdup, step := none, returnWrite := false, plan := none } ∧
      s.enterHoldup.pwb.entries = s.pwb.entries.map sealedEntry ∧ s.enterHoldup.pwb.counter = s.pwb.counter ∧
      s.enterHoldup.wd = s.wd ∧ s.enterHoldup.ru = s.ru ∧ s.enterHoldup.nvm = s.nvm := by
  have entries := s.holdupSet.leaveRun_entries
  rw [State.enterHoldup_eq]
  simp only [State.workStopped_frame]
  simpa [State.holdupLeft, State.holdupSet] using entries

theorem State.enterHoldup_of_none (idle : s.heldPhase = none) :
    s.enterHoldup.hp = s.hp ∧ s.enterHoldup.fu = s.fu ∧ s.enterHoldup.mgp = s.mgp := by
  rw [State.enterHoldup_eq]
  simp only [State.workStopped_frame]
  exact State.leaveRun_of_none (s := s.holdupSet) idle

end

end Sys2Proof.Machine
end

section
/-! The outcomes of the state controller's writes, and where they lead (R153, R159, R161, R165, R169 to R173). -/

namespace Sys2Proof.Machine

/- One theorem after another: waiting ones would each hold a thread. -/
set_option Elab.async false

/-! ### The metadata unit takes the outcome (R128, R153) -/

section
variable {s : State} {w : ScWrite} {attempt : Nat}

theorem State.programReady_mu {d : Dev} (owner : (s.dev d).owner = some .mu) (unordered : s.resetOrdered d = false)
    (pass : Bool) : s.programReady d pass =
      ((if pass then s.nvmPass d else s.nvmSpoil d).setDev d (s.dev d).toIdle).muProgramEnds pass := by
  refine (if_neg (by simp [unordered])).trans ?_
  simp only [owner]

theorem State.muProgramEnds_write (op : s.mu.op = some (.write w attempt)) (pass : Bool) :
    s.muProgramEnds pass = if pass then (s.setOp none).writeDone w else s.writeFails w attempt := by
  simp only [State.muProgramEnds, op]

/-- The write's program has passed, and its outcome is not yet reported. -/
def State.writePassed (s : State) : State := { s with
  nvm := (s.nvmPass .d0).nvm
  mp := { s.mp with bus := none, devs := { s.mp.devs with d0 := (s.dev .d0).toIdle } }
  mu := { s.mu with op := none } }

/-- The write's program has failed, and its outcome is not yet acted on. -/
def State.writeSpoiled (s : State) : State := { s with
  nvm := (s.nvmSpoil .d0).nvm, indet := (s.nvmSpoil .d0).indet
  mp := { s.mp with bus := none, devs := { s.mp.devs with d0 := (s.dev .d0).toIdle } } }

section
variable {t : Transfer} (bus : s.mp.bus = some t) (cmd : t.req.cmd = .readStatus) (dev : t.req.dev = .d0)
  (programming : (s.dev .d0).activity = .programming) (owner : (s.dev .d0).owner = some .mu)
  (unordered : s.waits (isResetOf .d0) = false) (op : s.mu.op = some (.write w attempt))
include bus cmd dev programming owner unordered op

theorem State.transferEnds_writePass : s.transferEnds (.status .readyPass) = s.writePassed.writeDone w := by
  have busy : (s.busFree.dev .d0).activity = .programming := programming
  rw [State.transferEnds_readStatus bus cmd, dev]
  simp only [State.statusReturned, busy, answerStatus]
  rw [State.programReady_mu (by exact owner) (State.busFree_resetOrdered unordered), if_pos rfl, State.busFree,
    State.nvmPass_setMp, State.muProgramEnds_write (by exact op), if_pos rfl]
  rfl

theorem State.transferEnds_writeFail : s.transferEnds (.status .readyFail) = s.writeSpoiled.writeFails w attempt := by
  have busy : (s.busFree.dev .d0).activity = .programming := programming
  rw [State.transferEnds_readStatus bus cmd, dev]
  simp only [State.statusReturned, busy, answerStatus]
  rw [State.programReady_mu (by exact owner) (State.busFree_resetOrdered unordered), if_neg (by simp), State.busFree,
    State.nvmSpoil_setMp, State.muProgramEnds_write (by exact op), if_neg (by simp)]
  rfl

end

/-! ### A write is done (R159, R161, R169, R171, R172) -/

/-- With the PFAIL view released and a dump on device 0 the return begins with the CLEAN write (R171). -/
theorem State.enterDumped_of_released (released : s.sc.pfail = false) (dump : s.sc.header ≠ some .clean) :
    s.enterDumped = { s with
      sc := { s.sc with state := .dumped, step := none, plan := none, returnWrite := true }
      mu := { s.mu with waiting := some .toClean } } := by
  refine (if_neg (by simp [released])).trans ?_
  exact if_neg dump

theorem State.writeDone_dumpPage (state : s.sc.state = .dumping) {plan : DumpPlan} (planned : s.sc.plan = some plan) (k : Nat) :
    s.writeDone (.dumpPage k) =
      let next : ScWrite := if 10 * (k + 1) ≤ plan.records.length then .dumpPage (k + 1) else .toValid
      { s with
        sc := { s.sc with
          header := if k = 0 then some .openDump else s.sc.header
          plan := some { plan with reached := next } }
        mu := { s.mu with waiting := some next } } := by
  have acts : s.writeDone (.dumpPage k) =
      (if k = 0 then s.setHeader .openDump else s).dumpNext plan (nextDumpWrite plan.records.length k) := by
    simp only [State.writeDone, state, planned]
  rw [acts]
  split <;> rfl

theorem State.writeDone_toValid (state : s.sc.state = .dumping) : s.writeDone .toValid = (s.setHeader .valid).enterDumped := by
  simp only [State.writeDone, state]
  cases s.sc.plan <;> rfl

/-- The header is CLEAN, and RUN is entered: from BOOT, from REPLAY with RESTORED flagged, or on the return. -/
theorem State.writeDone_enterRun (state : s.sc.state = .boot ∨ s.sc.state = .replay ∨ s.sc.state = .dumped ∧ s.sc.pfail = false) :
    s.writeDone w = (({ s with
      mgp := if s.sc.state = .replay then { s.mgp with restored := true } else s.mgp
      sc := { s.sc with header := some .clean, state := .run, step := none, returnWrite := false, plan := none } } :
        State).resumeEngine .d0).resumeEngine .d1 := by
  rcases state with state | state | ⟨state, released⟩
  · simp only [State.writeDone, state]
    rfl
  · simp only [State.writeDone, state]
    rfl
  · simp only [State.writeDone, state]
    refine (if_neg (by exact Bool.not_eq_true _ ▸ released)).trans ?_
    rfl

/-- The header is CLEAN, and the return is over. -/
def State.headerCleaned (s : State) : State := s.setSc { s.sc with header := some .clean, returnWrite := false }

theorem State.writeDone_enterHoldup (state : s.sc.state = .dumped) (pfail : s.sc.pfail = true) :
    s.writeDone w = s.headerCleaned.enterHoldup := by
  simp only [State.writeDone, state]
  exact if_pos pfail

theorem State.writeDone_stopped (state : s.sc.state = .stopped) : s.writeDone w = s := by
  simp only [State.writeDone, state]

/-! ### A write fails (R153, R159, R161, R165, R170, R171) -/

theorem State.writeFails_again (first : attempt = 1) (state : s.sc.state ≠ .stopped) (takes : (s.dev .d0).takes = true) :
    s.writeFails w attempt = { s with
      mp := { s.mp with reqs := s.mp.reqs ++ [⟨.mu, .d0, s.writeCmd w⟩] }
      mu := { s.mu with op := some (.write w 2) } } := by
  refine (if_pos ⟨by omega, state⟩).trans ?_
  exact State.muRequest_of_takes (by exact takes) _

theorem State.writeFails_last (last : attempt = 2 ∨ s.sc.state = .stopped) :
    s.writeFails w attempt = (s.setOp none).writeFailed w := by
  refine if_neg fun again => ?_
  rcases last with last | state
  · omega
  · exact again.2 state

/-- The header view once a write of the dump has failed: UNKNOWN, unless the write left page 8182 alone (R170). -/
def State.viewFailed (s : State) (w : ScWrite) : Option HeaderView := if w.page = 8182 then some .unknown else s.sc.header

/-- The number of records of the dump plan. -/
def State.planned (s : State) : List DumpRecord :=
  match s.sc.plan with
  | some plan => plan.records
  | none => []

theorem State.writeFailed_dumping (state : s.sc.state = .dumping) : s.writeFailed w =
    ((s.setSc { s.sc with header := s.viewFailed w }).postFault .dumpFailed (some .d0) (some w.page)
      (some s.planned.length)).enterDumped := by
  have header : (if w.page = Config.headerPage then s.setHeader .unknown else s) =
      s.setSc { s.sc with header := s.viewFailed w } := by
    by_cases header : w.page = 8182
    · rw [State.viewFailed, if_pos header]
      exact if_pos header
    · rw [State.viewFailed, if_neg header]
      exact if_neg header
  have count : (match s.sc.plan with
      | some plan => plan.records.length
      | none => 0) = s.planned.length := by
    unfold State.planned
    cases s.sc.plan <;> rfl
  simp only [State.writeFailed, state, header]
  exact congrArg (fun n => State.enterDumped (State.postFault _ _ _ _ (some n))) count

/-- The return may begin before the fault record is posted. -/
theorem State.postFault_enterDumped_of_released (released : s.sc.pfail = false) (dump : s.sc.header ≠ some .clean)
    (kind : FaultKind) (d : Option Dev) (page count : Option Nat) :
    (s.postFault kind d page count).enterDumped = s.enterDumped.postFault kind d page count := by
  have same : (s.postFault kind d page count).sc = s.sc := by simp
  rw [State.enterDumped_of_released released dump, State.enterDumped_of_released (same ▸ released) (same ▸ dump),
    State.postFault_eq, State.postFault_eq]
  rfl

theorem State.writeFailed_clean (state : s.sc.state = .boot ∨ s.sc.state = .replay ∨ s.sc.state = .dumped) :
    s.writeFailed w = ({ s with
      sc := { s.sc with header := some .unknown, state := .halted, step := none, returnWrite := false, plan := none } } :
        State).postFault .metadataWrite (some .d0) (some 8182) none := by
  have fails : s.writeFailed w = s.cleanFailed := by
    rcases state with state | state | state <;> simp only [State.writeFailed, state]
  rw [fails, State.cleanFailed, State.postFault_eq, State.postFault_eq]
  rfl

theorem State.writeFailed_stopped (state : s.sc.state = .stopped) : s.writeFailed w = s := by
  simp only [State.writeFailed, state]

end

/-- Settles O49: the outcome reaches the state controller, which acts by its state, or the write is made once more. -/
theorem writeOutcomes : Obligations.WriteOutcomes := by
  intro s t w attempt alive bus cmd dev programming owner takes unordered op
  have passes {u : State} (h : s.writePassed.writeDone w = u) :
      exec (.memoryTransferEnd (.status .readyPass)) s = .next u.settle :=
    State.exec_transferEnd alive ((State.transferEnds_writePass bus cmd dev programming owner unordered op).trans h)
  have fails {u : State} (h : s.writeSpoiled.writeFails w attempt = u) :
      exec (.memoryTransferEnd (.status .readyFail)) s = .next u.settle :=
    State.exec_transferEnd alive ((State.transferEnds_writeFail bus cmd dev programming owner unordered op).trans h)
  dsimp only
  simp only [List.append_nil]
  refine ⟨?dumpPage, ?valid, ?clean, ?released, ?holdup, ?again, ?dumpFails, ?cleanFails, fun state => ⟨?_, ?_⟩⟩
  case dumpPage =>
    rintro k plan rfl state planned
    exact passes (State.writeDone_dumpPage (by exact state) (by exact planned) k)
  case valid =>
    rintro rfl state pfail
    refine passes ((State.writeDone_toValid (by exact state)).trans ?_)
    exact State.enterDumped_of_pfail (by exact pfail)
  case clean =>
    rintro rfl state
    exact passes (State.writeDone_enterRun (by exact state))
  case released =>
    rintro rfl state released
    refine passes ((State.writeDone_toValid (by exact state)).trans ?_)
    exact State.enterDumped_of_released (by exact released) (by simp [State.setHeader])
  case holdup =>
    rintro rfl state pfail stopped
    refine ⟨_, passes (State.writeDone_enterHoldup (by exact state) (by exact pfail)), ?_⟩
    obtain ⟨sc, entries, counter, wd, ru, nvm⟩ := s.writePassed.headerCleaned.enterHoldup_rest
    obtain ⟨devs, bus⟩ := s.writePassed.headerCleaned.enterHoldup_mp
    have unit : ∀ p, s.writePassed.headerCleaned.mu.op ≠ some (.persist p) := fun _ => nofun
    exact ⟨sc, entries, counter, State.enterHoldup_de stopped, State.enterHoldup_mu unit, devs, bus,
      State.enterHoldup_of_none (s := s.writePassed.headerCleaned), wd, ru, nvm⟩
  case again =>
    intro first state
    refine fails ((State.writeFails_again first (by exact state) (by exact takes)).trans ?_)
    cases w <;> rfl
  case dumpFails =>
    intro last state
    have failed : s.writeSpoiled.writeFails w attempt = _ :=
      (State.writeFails_last (.inl last)).trans (State.writeFailed_dumping (by exact state))
    refine ⟨fun pfail => fails (failed.trans ?_), fun released view => fails (failed.trans ?_)⟩
    · rw [State.postFault_enterDumped (by exact pfail), State.enterDumped_of_pfail (by exact pfail)]
      cases w <;> rfl
    · have dump : s.writeSpoiled.viewFailed w ≠ some .clean := by cases w <;> exact view
      rw [State.postFault_enterDumped_of_released (by exact released) (by exact dump),
        State.enterDumped_of_released (by exact released) (by exact dump)]
      cases w <;> rfl
  case cleanFails =>
    rintro rfl last state
    refine fails ((State.writeFails_last (.inl last)).trans ?_)
    exact State.writeFailed_clean (by exact state)
  · exact passes (State.writeDone_stopped (by exact state))
  · exact fails ((State.writeFails_last (.inr (by exact state))).trans (State.writeFailed_stopped (by exact state)))

end Sys2Proof.Machine
end

section
/-! An engine resumes, by the phase before its stop (R67, R89, R96). -/

namespace Sys2Proof.Machine

/- One theorem after another: waiting ones would each hold a thread. -/
set_option Elab.async false

section
variable {s : State} {d : Dev} {c : Ctx}

/-- The engine no longer stops: it goes on with a context, and with requests that join. -/
def State.resumed (s : State) (d : Dev) (c : Option Ctx) (reqs : List Request) : State := { s with
  de := s.de.set d { ctx := c, stopping := false }, mp := { s.mp with reqs := s.mp.reqs ++ reqs } }

theorem State.resumed_nil (s : State) (d : Dev) (x : Option Ctx) :
    s.resumed d x [] = s.setDe (s.de.set d { ctx := x, stopping := false }) := by
  rw [State.resumed, List.append_nil]
  rfl

/-- The engine no longer stops, and its context has not yet taken up its phase. -/
def State.engineGoes (s : State) (d : Dev) : State := s.setDe (s.de.set d { s.de.get d with stopping := false })

theorem State.engineGoes_eq (s : State) (d : Dev) : s.engineGoes d = s.resumed d (s.ctx d) [] := (s.resumed_nil d _).symm

theorem State.engineGoes_setCtx (s : State) (d : Dev) (x : Option Ctx) : (s.engineGoes d).setCtx d x = s.resumed d x [] := by
  simp [State.resumed_nil, State.engineGoes, State.setCtx, State.setDe, PerDev.set_set]

/-- A resumed engine makes its request, as none stops it. -/
theorem State.engineGoes_memoryStep (takes : (s.dev d).takes = true) (cmd : Cmd) :
    (s.engineGoes d).memoryStep d c cmd = s.resumed d (some c) [⟨.engine, d, cmd⟩] := by
  refine (if_neg (by simp [State.engineGoes])).trans ?_
  rw [State.engineGoes_setCtx, State.resumed_nil]
  exact State.join_of_takes (by exact takes)

theorem State.retireProgram_of_candidate {spare : Nat} (candidate : c.candidate = some spare) (image : List Byte) :
    s.retireProgram d c image = s.memoryStep d { c with phase := .retireProgram, programTime := 0 }
      (.programPage spare (overlayBytes image c.batch)) := by
  simp only [State.retireProgram, candidate]

/-! ### The phase before the stop -/

section
variable (ctx : s.ctx d = some c)
include ctx

theorem State.resumeEngine_of_busy (phase : c.phase ≠ .stopped) : s.resumeEngine d = s.engineGoes d := by
  simp only [State.resumeEngine, State.setStopping_ctx, ctx]
  exact if_neg phase

variable (stopped : c.phase = .stopped)
include stopped

theorem State.resumeEngine_programming (before : c.before = some .programming) : s.resumeEngine d =
    (s.engineGoes d).memoryStep d { c with
      phase := .programming, before := none, started := false, suspendsUsed := 0, programTime := 0 }
        (.programMasked c.phys c.batch) := by
  simp only [State.resumeEngine, State.setStopping_ctx, ctx, before]
  exact if_pos stopped

theorem State.resumeEngine_retireRead (before : c.before = some .retireRead) :
    s.resumeEngine d = (s.engineGoes d).retireRead d { c with phase := .retireRead, before := none } false := by
  simp only [State.resumeEngine, State.setStopping_ctx, ctx, before]
  exact if_pos stopped

theorem State.resumeEngine_retireProgram (before : c.before = some .retireProgram) {image : List Byte}
    (held : c.image = some image) : s.resumeEngine d =
      (s.engineGoes d).retireProgram d { c with phase := .retireProgram, before := none } image := by
  simp only [State.resumeEngine, State.setStopping_ctx, ctx, before, held]
  exact if_pos stopped

theorem State.resumeEngine_awaitPersist (before : c.before = some .awaitPersist) :
    s.resumeEngine d = (s.engineGoes d).awaitAgain d { c with phase := .awaitPersist, before := none } := by
  simp only [State.resumeEngine, State.setStopping_ctx, ctx, before]
  exact if_pos stopped

end

/-! ### A context that waited for a persist (R96) -/

theorem State.awaitAgain_of_persists (persists : s.ru.isFailed d c.home = false ∨ s.mu.remap.fault = false) :
    s.awaitAgain d c = s.setCtx d (some c) :=
  if_neg (by rcases persists with h | h <;> simp [h])

theorem State.awaitAgain_of_lost (failed : s.ru.isFailed d c.home = true) (fault : s.mu.remap.fault = true) :
    s.awaitAgain d c = s.loseContext d c .retireFail :=
  if_pos (by simp [failed, fault])

end

end Sys2Proof.Machine
end

section
/-! PFAIL released, by the operating state (R156, R165, R171). -/

namespace Sys2Proof.Machine

/- One theorem after another: waiting ones would each hold a thread. -/
set_option Elab.async false

section
variable {s : State}

/-! ### The level (R156) -/

/-- The line is released, and the view has taken its level. -/
def State.pfailFree (s : State) : State :=
  { s with pins := { s.pins with pfail := false }, sc := { s.sc with pfail := false } }

theorem State.exec_pfailRelease {t : State} (alive : s.alive = true) (line : s.pins.pfail = true)
    (falls : (s.pfailLine false).pfailFalls = t) : exec .pfailRelease s = .next t.settle := by
  have alive' : (s.pfailLine false).alive = true := alive
  show execPfailRelease s = _
  rw [execPfailRelease, line, State.event_of_alive alive', falls]
  rfl

theorem State.pfailFalls_other (state : s.sc.state ≠ .dumped) : (s.pfailLine false).pfailFalls = s.pfailFree := by
  unfold State.pfailFalls
  dsimp only
  split
  · next dumped => exact absurd dumped state
  all_goals rfl

theorem State.pfailFalls_dumped (state : s.sc.state = .dumped) (free : s.sc.returnWrite = false) :
    (s.pfailLine false).pfailFalls = s.pfailFree.beginReturn := by
  unfold State.pfailFalls
  dsimp only
  split
  · exact if_neg (by exact Bool.not_eq_true _ ▸ free)
  all_goals next other => exact nomatch state.symm.trans other

/-! ### STOPPED (R165) -/

/-- In STOPPED nothing but the internal cold reset becomes due with the release. -/
theorem State.pfailFree_due (settled : s.settled) (stopped : s.sc.state = .stopped) (quiet : s.quiet = true) :
    firstDue followSteps s.pfailFree = some s.pfailFree.internalReset := by
  rw [State.settled_iff] at settled
  simp only [followSteps, List.forall_mem_cons, State.fillPending_eq_none_iff, State.completeHead_eq_none_iff,
    State.completeWait_eq_none_iff, State.swap_eq_none_iff, State.endContext_eq_none_iff,
    State.endByFault_eq_none_iff] at settled
  obtain ⟨-, fill, head, wait, swap, end0, end1, fault0, fault1, -⟩ := settled
  have boot' : s.pfailFree.bootStarts = none := (State.bootStarts_eq_none_iff _).2 fun h => nomatch stopped.symm.trans h.1
  have fill' : s.pfailFree.fillPending = none := (State.fillPending_eq_none_iff _).2 fill
  have head' : s.pfailFree.completeHead = none := (State.completeHead_eq_none_iff _).2 head
  have wait' : s.pfailFree.completeWait = none := (State.completeWait_eq_none_iff _).2 wait
  have swap' : s.pfailFree.swap = none := (State.swap_eq_none_iff _).2 swap
  have end0' : s.pfailFree.endContext .d0 = none := (State.endContext_eq_none_iff _ _).2 end0
  have end1' : s.pfailFree.endContext .d1 = none := (State.endContext_eq_none_iff _ _).2 end1
  have fault0' : s.pfailFree.endByFault .d0 = none := (State.endByFault_eq_none_iff _ _).2 fault0
  have fault1' : s.pfailFree.endByFault .d1 = none := (State.endByFault_eq_none_iff _ _).2 fault1
  have holdup' : s.pfailFree.holdupEnd = none := (State.holdupEnd_eq_none_iff _).2 fun h => nomatch stopped.symm.trans h.1
  have reset' : s.pfailFree.stoppedReset = some s.pfailFree.internalReset := if_pos ⟨stopped, quiet, rfl⟩
  simp only [firstDue, followSteps, List.findSome?_cons, boot', fill', head', wait', swap', end0', end1', fault0', fault1',
    holdup', reset']

/-- Nothing else looks at the view, so that in a part that is not quiet nothing becomes due. -/
theorem State.pfailFree_settled (settled : s.settled) (busy : s.quiet = false) : s.pfailFree.settled := by
  rw [State.settled_iff] at settled ⊢
  simp only [followSteps, List.forall_mem_cons, List.not_mem_nil, IsEmpty.forall_iff, implies_true, and_true,
    State.stoppedReset_eq_none_iff, State.bootStarts_eq_none_iff, State.fillPending_eq_none_iff,
    State.completeHead_eq_none_iff, State.completeWait_eq_none_iff, State.swap_eq_none_iff, State.endContext_eq_none_iff,
    State.endByFault_eq_none_iff, State.holdupEnd_eq_none_iff,
    State.replayEnd_eq_none_iff, State.restartEnd_eq_none_iff, State.gather_eq_none_iff, State.takeWrite_eq_none_iff,
    State.startPersist_eq_none_iff, State.hostAsks_eq_none_iff, State.fetchAsks_eq_none_iff,
    State.grant_eq_none_iff] at settled ⊢
  obtain ⟨boot, fill, head, wait, swap, end0, end1, fault0, fault1, holdup, -, later⟩ := settled
  exact ⟨boot, fill, head, wait, swap, end0, end1, fault0, fault1, holdup, fun h => Bool.false_ne_true (busy.symm.trans h.2.1),
    later⟩

/-- The first step due is made, and 127 at most are left. -/
theorem State.settle_of_due {t : State} (due : firstDue followSteps s = some t) : s.settle = settleFor 127 t := by
  have made (n : Nat) : settleFor (n + 1) s = settleFor n t := by simp only [settleFor, due]
  exact made 127

/-! ### DUMPED (R171) -/

theorem State.beginReturn_of_clean (clean : s.sc.header = some .clean) : s.beginReturn = s.enterRun := if_pos clean

theorem State.beginReturn_of_dump (dump : s.sc.header ≠ some .clean) : s.beginReturn = { s with
    sc := { s.sc with returnWrite := true }, mu := { s.mu with waiting := some .toClean } } :=
  if_neg dump

end

/-- Settles O53: the resumption by the phase before the stop, and the release by the operating state. -/
theorem pfailReleased : Obligations.PfailReleased := by
  refine ⟨fun s d => ⟨?idle, ?busy, fun c phase ctx stopped before takes => ⟨?programming, ?retireRead, ?unremappable,
    ?retireProgram, ?waits, ?lost⟩⟩, fun s alive line => ⟨?reset, ?settled, ?view, ?run, ?clean⟩⟩
  case idle =>
    intro ctx
    rw [State.resumeEngine_of_idle ctx]
    exact (s.resumed_nil d none).symm
  case busy =>
    intro c ctx phase
    rw [State.resumeEngine_of_busy ctx phase, State.engineGoes_eq, ctx]
    rfl
  case programming =>
    rintro rfl
    rw [State.resumeEngine_programming ctx stopped before]
    exact State.engineGoes_memoryStep takes _
  case retireRead =>
    rintro rfl image left free
    rw [State.resumeEngine_retireRead ctx stopped before,
      State.retireRead_of_free (by exact free) (by exact left) (by exact image)]
    exact State.engineGoes_memoryStep takes _
  case unremappable =>
    rintro rfl spent
    rw [State.resumeEngine_retireRead ctx stopped before, State.retireRead_of_spent (by exact spent.symm),
      State.engineGoes_eq, ctx]
    rfl
  case retireProgram =>
    rintro spare image rfl candidate held
    rw [State.resumeEngine_retireProgram ctx stopped before held, State.retireProgram_of_candidate (by exact candidate)]
    exact State.engineGoes_memoryStep takes _
  case waits =>
    rintro rfl persists
    rw [State.resumeEngine_awaitPersist ctx stopped before, State.awaitAgain_of_persists (by exact persists)]
    exact s.engineGoes_setCtx d _
  case lost =>
    rintro rfl failed fault
    rw [State.resumeEngine_awaitPersist ctx stopped before, State.awaitAgain_of_lost (by exact failed) (by exact fault),
      State.loseContext_eq]
    dsimp only
    rw [← List.countP_eq_length_filter]
    simp only [State.engineGoes, State.setDe_de, PerDev.set_set, PerDev.get_set_same]
    rfl
  case reset =>
    intro stopped quiet settled
    refine ⟨s.pfailFree.internalReset, ?_, s.pfailFree.internalReset_internalResetOf⟩
    refine (State.exec_pfailRelease alive line (State.pfailFalls_other (by simp [stopped]))).trans ?_
    exact congrArg _ (State.settle_of_due (State.pfailFree_due settled stopped quiet))
  case settled =>
    intro stopped busy settled
    refine (State.exec_pfailRelease alive line (State.pfailFalls_other (by simp [stopped]))).trans ?_
    exact congrArg _ (State.settle_of_settled (State.pfailFree_settled settled busy))
  case view =>
    intro state
    exact State.exec_pfailRelease alive line (State.pfailFalls_other (by rcases state with h | h | h <;> simp [h]))
  case run =>
    intro state free clean
    refine State.exec_pfailRelease alive line ((State.pfailFalls_dumped state free).trans ?_)
    rw [State.beginReturn_of_clean (by exact clean), State.enterRun]
    exact congrArg (fun write => ((s.pfailFree.setSc { s.pfailFree.sc with
      state := .run, step := none, returnWrite := write, plan := none }).resumeEngine .d0).resumeEngine .d1) free.symm
  case clean =>
    intro state free dump
    exact State.exec_pfailRelease alive line ((State.pfailFalls_dumped state free).trans (State.beginReturn_of_dump dump))

end Sys2Proof.Machine
end

section
/-! The byte of a management request (R176), and RESTART and RETIRE_PAGE with their refusals (R89, R95, R99, R100, R163). -/

namespace Sys2Proof.Machine

/- One theorem after another: waiting ones would each hold a thread. -/
set_option Elab.async false

/-! ### The byte is taken (R176) -/

/-- The port once it has taken a byte at an index: in a write transaction that stands there the index advances. -/
def ManagementPort.byteTaken (m : ManagementPort) (i : Byte) : ManagementPort := { m with
  index := if m.tx = .writing ∧ m.index = i then m.index + 1 else m.index
  acked := if m.tx = .writing ∧ m.index = i then true else m.acked }

theorem ManagementPort.faulted_byteTaken (m : ManagementPort) (i : Byte) (kind : FaultKind) (dev : Option Dev)
    (page count : Option Nat) : (m.faulted kind dev page count).byteTaken i = (m.byteTaken i).faulted kind dev page count := by
  by_cases room : m.faults.length < Config.faultRecords
  · rw [ManagementPort.faulted, if_pos room, ManagementPort.faulted, if_pos (by exact room)]
    rfl
  · rw [ManagementPort.faulted, if_neg room, ManagementPort.faulted, if_neg (by exact room)]
    rfl

section
variable {s : State} {d : Dev} {c : Ctx} (i : Byte)

theorem State.advanceAt_eq (s : State) (i : Byte) : s.advanceAt i = s.setMgp (s.mgp.byteTaken i) := by
  by_cases here : s.mgp.tx = .writing ∧ s.mgp.index = i
  · rw [ManagementPort.byteTaken, if_pos here, if_pos here]
    exact if_pos here
  · rw [ManagementPort.byteTaken, if_neg here, if_neg here]
    exact if_neg here

/-! A page that cannot be remapped does not look at the port's index or its transaction: the byte may be taken before it. -/

theorem State.loseContext_advanceAt (kind : FaultKind) :
    (s.loseContext d c kind).advanceAt i = (s.advanceAt i).loseContext d c kind := by
  rw [State.advanceAt_eq, State.advanceAt_eq, State.loseContext_eq, State.loseContext_eq, State.postFault_eq,
    State.postFault_eq, State.setMgp_mgp, ManagementPort.faulted_byteTaken]
  rfl

theorem State.markFailed_advanceAt (home : Nat) (changed : Bool) :
    (s.markFailed d home changed).advanceAt i = (s.advanceAt i).markFailed d home changed := by
  rw [State.advanceAt_eq, State.advanceAt_eq]
  cases changed <;> rfl

theorem State.invalidate_advanceAt (page : Nat) :
    (s.invalidate d page).advanceAt i = (s.advanceAt i).invalidate d page := by
  rw [State.advanceAt_eq, State.advanceAt_eq, State.invalidate, State.invalidate, State.dropRefill_eq, State.dropRefill_eq]
  rfl

theorem State.enterAwait_advanceAt : (s.enterAwait d c).advanceAt i = (s.advanceAt i).enterAwait d c := by
  have ru : (s.advanceAt i).ru = s.ru := by simp
  have mu : (s.advanceAt i).mu = s.mu := by simp
  have de : (s.advanceAt i).de = s.de := by simp
  unfold State.enterAwait
  rw [ru, mu, de]
  dsimp only
  split
  · exact State.loseContext_advanceAt i _
  · rw [State.advanceAt_eq, State.advanceAt_eq]
    split <;> rfl

theorem State.unremappable_advanceAt (changed : Bool) :
    (s.unremappable d c changed).advanceAt i = (s.advanceAt i).unremappable d c changed := by
  have ru : (s.advanceAt i).ru = s.ru := by simp
  unfold State.unremappable
  rw [ru]
  split
  · rw [State.enterAwait_advanceAt, State.invalidate_advanceAt, State.markFailed_advanceAt]
  · rw [← State.loseContext_advanceAt, State.advanceAt_eq, State.advanceAt_eq]
    rfl

end

/-! ### A request that is refused (R180) -/

section
variable {s : State} {code : Byte} {r : ReqResult} {take : State → State}

/-- The code is kept and the result set, and the byte is taken. -/
theorem State.answered_eq (s : State) (code i : Byte) (r : ReqResult) :
    ((s.setMgp { s.mgp with code := code }).setResult r).advanceAt i =
      s.setMgp { (s.byteTaken i).mgp with code := code, result := r } := by
  rw [State.byteTaken_eq, State.advanceAt_eq, State.advanceAt_eq]
  rfl

theorem State.request_refused (takes : s.takesRequest) (settled : s.settled)
    (refuses : take (s.setMgp { s.mgp with code := code }) = (s.setMgp { s.mgp with code := code }).setResult r) :
    (.next (s.event (fun s => (s.request code take).advanceAt 0x0C)) : Host.Outcome State Fault Refusal) =
      .next { s.byteTaken 0x0C with mgp := { (s.byteTaken 0x0C).mgp with code := code, result := r } } := by
  rw [State.event_of_alive takes.1, State.request_of_free takes.2, refuses, State.answered_eq,
    State.settle_of_settled ((s.setMgp_settled _).2 settled), State.byteTaken_eq, State.advanceAt_eq]
  rfl

end

/-! ### RESTART (R163) -/

section
variable {s : State}

theorem State.takeRestart_refused (refused : s.sc.state ≠ .run ∨ s.metadataFault = true) :
    s.takeRestart = s.setResult .refusedState :=
  if_neg fun ⟨run, fault⟩ => refused.elim (absurd run) (by simp [fault])

/-- RESTART has been accepted, and RUN left. -/
def State.restarted (s : State) : State :=
  (((s.setMgp { s.mgp with code := 3 }).setResult .accepted).enterRestarting).advanceAt 0x0C

theorem State.exec_restart (takes : s.takesRequest) (run : s.sc.state = .run) (fault : s.metadataFault = false) :
    exec .restart s = .next s.restarted.settle := by
  refine congrArg _ ((State.event_of_alive takes.1 _).trans (congrArg State.settle ?_))
  rw [State.request_of_free takes.2]
  exact congrArg (State.advanceAt · 0x0C) (if_pos ⟨run, fault⟩)

/-- The accepted request, with the controller in RESTARTING. -/
def State.restartTaken (s : State) : State :=
  (s.setMgp { s.mgp with code := 3, result := .accepted }).setSc { s.sc with state := .restarting, step := none }

theorem State.restarted_eq (s : State) : s.restarted = s.restartTaken.leaveRun.advanceAt 0x0C := rfl

theorem State.restarted_rest (s : State) : s.restarted.sc = { s.sc with state := .restarting, step := none } ∧
    s.restarted.pwb.entries = s.pwb.entries.map sealedEntry ∧ s.restarted.wd = s.wd ∧ s.restarted.ru = s.ru ∧
    s.restarted.mu = s.mu := by
  have entries := s.restartTaken.leaveRun_entries.1
  rw [State.restarted_eq]
  simpa [State.restartTaken] using entries

theorem State.restarted_mgp (s : State) : s.restarted.mgp = s.restartTaken.leaveRun.mgp.byteTaken 0x0C := by
  rw [State.restarted_eq, State.advanceAt_eq, State.setMgp_mgp]

theorem State.restarted_hp (s : State) : s.restarted.hp = s.restartTaken.leaveRun.hp := by
  simp [State.restarted_eq]

end

/-! ### RETIRE_PAGE (R99, R100) -/

section
variable {s : State} {d : Dev}

theorem isUserPage_iff (d : Dev) (page : Nat) : isUserPage d page = true ↔ page < Config.userPages d :=
  decide_eq_true_iff

theorem devOfNat_of_other {n : Nat} (zero : n ≠ 0) (one : n ≠ 1) : devOfNat n = none := by
  unfold devOfNat
  split
  · exact absurd rfl zero
  · exact absurd rfl one
  · rfl

theorem ManagementPort.retireTarget_none {m : ManagementPort} (refused : m.arg1 ≠ 0 ∧ m.arg1 ≠ 1 ∨
    m.arg1 = 0 ∧ 8150 ≤ m.arg2.toNat ∨ m.arg1 = 1 ∧ 8160 ≤ m.arg2.toNat) : m.retireTarget = none := by
  unfold ManagementPort.retireTarget
  rcases refused with ⟨zero, one⟩ | ⟨dev, beyond⟩ | ⟨dev, beyond⟩
  · rw [devOfNat_of_other (fun h => zero (BitVec.eq_of_toNat_eq h)) (fun h => one (BitVec.eq_of_toNat_eq h))]
  · rw [dev]
    exact if_neg (mt (isUserPage_iff _ _).1 (Nat.not_lt.2 beyond))
  · rw [dev]
    exact if_neg (mt (isUserPage_iff _ _).1 (Nat.not_lt.2 beyond))

theorem ManagementPort.retireTarget_some {m : ManagementPort} (named : m.arg1 = 0 ∧ d = .d0 ∧ m.arg2.toNat < 8150 ∨
    m.arg1 = 1 ∧ d = .d1 ∧ m.arg2.toNat < 8160) : m.retireTarget = some (d, m.arg2.toNat) := by
  unfold ManagementPort.retireTarget
  rcases named with ⟨dev, rfl, user⟩ | ⟨dev, rfl, user⟩
  · rw [dev]
    exact if_pos ((isUserPage_iff _ _).2 user)
  · rw [dev]
    exact if_pos ((isUserPage_iff _ _).2 user)

theorem State.takeRetirePage_of_other (state : s.sc.state ≠ .run) : s.takeRetirePage = s.setResult .refusedState :=
  if_pos state

theorem State.takeRetirePage_of_none (run : s.sc.state = .run) (target : s.mgp.retireTarget = none) :
    s.takeRetirePage = s.setResult .invalidArgument := by
  refine (if_neg (not_not_intro run)).trans ?_
  simp only [target]

section
variable {page : Nat} (run : s.sc.state = .run) (target : s.mgp.retireTarget = some (d, page))
include run target

theorem State.takeRetirePage_unchecked
    (fails : ¬((s.dev d).state = .online ∧ s.mu.remap.fault = false ∧ s.ru.isFailed d page = false)) :
    s.takeRetirePage = s.setResult .refusedState := by
  refine (if_neg (not_not_intro run)).trans ?_
  simp only [target]
  by_cases online : (s.dev d).state = .online
  · rw [if_neg (not_not_intro online)]
    by_cases fault : s.mu.remap.fault = true
    · rw [if_pos fault]
    · rw [if_neg fault]
      exact if_pos (by simpa [online, fault] using fails)
  · exact if_pos online

theorem State.takeRetirePage_checked
    (passes : (s.dev d).state = .online ∧ s.mu.remap.fault = false ∧ s.ru.isFailed d page = false) :
    s.takeRetirePage = if (s.ctx d).isSome = true then s.setResult .busy else s.retireOnRequest d page := by
  obtain ⟨online, fault, kept⟩ := passes
  refine (if_neg (not_not_intro run)).trans ?_
  simp only [target]
  rw [if_neg (not_not_intro online), if_neg (by simp [fault]), if_neg (by simp [kept])]

end

/-- The request past its checks: the entries of the page are gathered. -/
def State.retireAccepted (s : State) (d : Dev) (page : Nat) : State :=
  ((s.setMgp { s.mgp with code := 4 }).setResult .accepted).gatherPage d page

/-- The context of the request. -/
def State.retireCtx (s : State) (d : Dev) (page : Nat) : Ctx :=
  newCtx page (s.ru.physical d page) .retireRequest .retireRead (gatheredSet s.pwb.entries d page)

theorem State.exec_retirePage (takes : s.takesRequest) (run : s.sc.state = .run) {page : Nat}
    (target : s.mgp.retireTarget = some (d, page))
    (passes : (s.dev d).state = .online ∧ s.mu.remap.fault = false ∧ s.ru.isFailed d page = false) (idle : s.ctx d = none)
    {t : State} (begins : ((s.retireAccepted d page).retireRead d (s.retireCtx d page) false).advanceAt 0x0C = t) :
    exec .retirePage s = .next t.settle := by
  refine congrArg _ ((State.event_of_alive takes.1 _).trans (congrArg State.settle (Eq.trans ?_ begins)))
  rw [State.request_of_free takes.2]
  refine congrArg (State.advanceAt · 0x0C) ?_
  refine (State.takeRetirePage_checked (by exact run) (by exact target) (by exact passes)).trans ?_
  exact if_neg (by rw [show (s.setMgp { s.mgp with code := 4 }).ctx d = none from idle]; simp)

end

/-- Settles O56: each refusal by the first check that fails, and the accepted requests with the byte taken before or after. -/
theorem restartAndRetire : Obligations.RestartAndRetire := by
  intro s takes
  refine ⟨fun settled refused => ?restartRefused, fun run fault =>
    ⟨s.restarted, State.exec_restart takes run fault, ?restart⟩, fun settled state => ?outside,
    fun settled run refused => ?argument, fun d run named => ?named⟩
  case restartRefused => exact State.request_refused takes settled (State.takeRestart_refused (by exact refused))
  case outside => exact State.request_refused takes settled (State.takeRetirePage_of_other (by exact state))
  case argument =>
    exact State.request_refused takes settled (State.takeRetirePage_of_none (by exact run)
      (ManagementPort.retireTarget_none (by exact refused)))
  case restart =>
    obtain ⟨sc, entries, wd, ru, mu⟩ := s.restarted_rest
    refine ⟨sc, entries, fun none_held => ?_, fun a access held => ?_, wd, ru, mu⟩
    · obtain ⟨hp, -, mgp⟩ := State.leaveRun_of_none (s := s.restartTaken) none_held
      refine ⟨s.restarted_hp.trans hp, ?_⟩
      rw [State.restarted_mgp, mgp, State.byteTaken_eq, State.advanceAt_eq]
      rfl
    · obtain ⟨hp, mgp⟩ := State.leaveRun_of_held (s := s.restartTaken) access held
      refine ⟨s.restarted_hp.trans hp, ?_⟩
      rw [State.restarted_mgp, mgp, State.byteTaken_eq, State.advanceAt_eq]
      rfl
  case named =>
    have target : s.mgp.retireTarget = some (d, s.mgp.arg2.toNat) := ManagementPort.retireTarget_some named
    refine ⟨fun settled fails => ?unchecked, fun settled passes busy => ?busy, fun passes idle =>
      ⟨fun free running => State.exec_retirePage takes run target passes idle ?read,
        fun free => State.exec_retirePage takes run target passes idle ?unremappable⟩⟩
    case unchecked =>
      exact State.request_refused takes settled (State.takeRetirePage_unchecked (by exact run) (by exact target)
        (by exact fails))
    case busy =>
      refine State.request_refused takes settled ((State.takeRetirePage_checked (by exact run) (by exact target)
        (by exact passes)).trans ?_)
      exact if_pos (Option.isSome_iff_ne_none.2 busy)
    case read =>
      have accepts : (s.dev d).takes = true := (DevRecord.takes_iff _).2 (.inl passes.1)
      have left : 0 < Config.spareAttempts := by decide
      rw [State.retireRead_of_free (by exact free) left rfl,
        State.memoryStep_of_running (by exact running) (by exact accepts), State.byteTaken_eq, State.advanceAt_eq,
        State.advanceAt_eq]
      rfl
    case unremappable =>
      rw [State.retireRead_of_none_free (by exact free), State.unremappable_advanceAt, State.byteTaken_eq,
        State.advanceAt_eq, State.advanceAt_eq]
      rfl

end Sys2Proof.Machine
end

section
/-! The PDONE line and the pulses owed on it (R75): only the fence unit's own steps and a cold reset change the two; every other
operation leaves them. Each lemma goes through the branches of its operation and closes them by what the parts leave alone. -/

namespace Sys2Proof.Machine

/- One theorem after another: waiting ones would each hold a thread. -/
set_option Elab.async false

/-- The level of PDONE, and the pulses owed on it (R75). -/
def FenceUnit.pulse (f : FenceUnit) : Bool × Nat := (f.high, f.owed)

/-- Of the fence unit, `State.PulseOwed` reads the level and the pulses owed. -/
theorem State.PulseOwed.of_pulse {s t : State} (h : s.PulseOwed) (same : t.fu.pulse = s.fu.pulse) : t.PulseOwed := by
  obtain ⟨high, owed⟩ := Prod.mk.inj same
  exact fun rises => owed.symm ▸ h (high.symm.trans rises)

/-! ### The fence unit's records (R71, R74, R78) -/

@[simp] theorem FenceUnit.setWait_pulse (f : FenceUnit) (w : Option WaitRecord) :
    FenceUnit.pulse { f with wait := w } = f.pulse := rfl

@[simp] theorem FenceUnit.setQueue_pulse (f : FenceUnit) (q : List Marker) :
    FenceUnit.pulse { f with queue := q } = f.pulse := rfl

@[simp] theorem FenceUnit.markLost_pulse (f : FenceUnit) (seqs : List Word32) : (f.markLost seqs).pulse = f.pulse := rfl

/-! ### The buffer and the host's side -/

section
variable (s : State) (d : Dev) (c : Ctx)

@[simp] theorem State.declareLost_pulse (p : Entry → Bool) : (s.declareLost p).fu.pulse = s.fu.pulse := by
  simp [State.declareLost]

@[simp] theorem State.allocateAndAccept_pulse (w : PendingWrite) : (s.allocateAndAccept w).fu.pulse = s.fu.pulse := by
  unfold State.allocateAndAccept
  dsimp only
  split <;> simp

@[simp] theorem State.takeEntry_pulse (w : PendingWrite) : (s.takeEntry w).fu.pulse = s.fu.pulse := by
  unfold State.takeEntry
  split <;> simp

@[simp] theorem State.placeWrite_pulse (w : PendingWrite) : (s.placeWrite w).fu.pulse = s.fu.pulse := by
  unfold State.placeWrite
  (repeat' split) <;> simp

@[simp] theorem State.decodeAccess_pulse (addr : BitVec 23) (even odd : Bool) (dir : Dir) (hd : Half) :
    (s.decodeAccess addr even odd dir hd).fu.pulse = s.fu.pulse := by
  unfold State.decodeAccess
  dsimp only
  (repeat' split)
  · simp
  · simp
  · cases dir <;> simp [State.handOn]

@[simp] theorem State.accessArrives_pulse (ha : BitVec 22) (hbl hbh hrd hwr : Bool) (hd : Half) :
    (s.accessArrives ha hbl hbh hrd hwr hd).fu.pulse = s.fu.pulse := by
  unfold State.accessArrives
  dsimp only
  (repeat' split) <;> simp

@[simp] theorem State.strobeReleased_pulse : s.strobeReleased.fu.pulse = s.fu.pulse := by
  unfold State.strobeReleased State.abandon
  dsimp only
  (repeat' split) <;> simp

@[simp] theorem State.stallExpires_pulse : s.stallExpires.fu.pulse = s.fu.pulse := by
  unfold State.stallExpires
  dsimp only
  (repeat' split) <;> simp

@[simp] theorem State.tick_pulse : s.tick.fu.pulse = s.fu.pulse := rfl

/-! ### The drain engines -/

@[simp] theorem State.loseContext_pulse (k : FaultKind) : (s.loseContext d c k).fu.pulse = s.fu.pulse := by
  simp [State.loseContext]

@[simp] theorem State.endByPersist_pulse : (s.endByPersist d c).fu.pulse = s.fu.pulse := by
  unfold State.endByPersist
  dsimp only
  (repeat' split) <;> simp

@[simp] theorem State.enterAwait_pulse : (s.enterAwait d c).fu.pulse = s.fu.pulse := by
  unfold State.enterAwait
  dsimp only
  (repeat' split) <;> simp

@[simp] theorem State.unremappable_pulse (changed : Bool) : (s.unremappable d c changed).fu.pulse = s.fu.pulse := by
  unfold State.unremappable
  dsimp only
  split <;> simp

@[simp] theorem State.retireProgram_pulse (image : List Byte) : (s.retireProgram d c image).fu.pulse = s.fu.pulse := by
  unfold State.retireProgram
  (repeat' split)
  · simp
  · next taken => simp [State.takeSpare_frame taken]
  · simp

@[simp] theorem State.retireRead_pulse (changed : Bool) : (s.retireRead d c changed).fu.pulse = s.fu.pulse := by
  unfold State.retireRead
  (repeat' split) <;> simp

@[simp] theorem State.batchFails_pulse : (s.batchFails d c).fu.pulse = s.fu.pulse := s.retireRead_pulse d _ _

@[simp] theorem State.spareFails_pulse (spare : Nat) : (s.spareFails d c spare).fu.pulse = s.fu.pulse := by
  simp [State.spareFails]

@[simp] theorem State.sparePasses_pulse (spare : Nat) : (s.sparePasses d c spare).fu.pulse = s.fu.pulse := by
  unfold State.sparePasses
  dsimp only
  split <;> simp

@[simp] theorem State.programCompletes_pulse (pass : Bool) : (s.programCompletes d pass).fu.pulse = s.fu.pulse := by
  unfold State.programCompletes
  dsimp only
  (repeat' split) <;> simp

@[simp] theorem State.deviceSuspends_pulse : (s.deviceSuspends d).fu.pulse = s.fu.pulse := by
  unfold State.deviceSuspends
  dsimp only
  (repeat' split) <;> simp

@[simp] theorem State.engineResetDone_pulse : (s.engineResetDone d).fu.pulse = s.fu.pulse := by
  unfold State.engineResetDone
  (repeat' split) <;> simp

@[simp] theorem State.stopEngine_pulse : (s.stopEngine d).fu.pulse = s.fu.pulse := by
  unfold State.stopEngine
  dsimp only
  (repeat' split) <;> simp

@[simp] theorem State.awaitAgain_pulse : (s.awaitAgain d c).fu.pulse = s.fu.pulse := by
  unfold State.awaitAgain
  split <;> simp

@[simp] theorem State.resumeEngine_pulse : (s.resumeEngine d).fu.pulse = s.fu.pulse := by
  unfold State.resumeEngine
  dsimp only
  (repeat' split) <;> simp

@[simp] theorem State.retireReadReturned_pulse (bytes : List Byte) :
    (s.retireReadReturned d bytes).fu.pulse = s.fu.pulse := by
  unfold State.retireReadReturned
  (repeat' split) <;> simp

@[simp] theorem State.retireOnRequest_pulse (page : Nat) : (s.retireOnRequest d page).fu.pulse = s.fu.pulse := by
  simp [State.retireOnRequest]

/-! ### The state controller -/

@[simp] theorem State.enterRun_pulse : s.enterRun.fu.pulse = s.fu.pulse := by simp [State.enterRun]

@[simp] theorem State.refuseHeld_pulse : s.refuseHeld.fu.pulse = s.fu.pulse := by
  unfold State.refuseHeld
  split <;> simp

@[simp] theorem State.leaveRun_pulse : s.leaveRun.fu.pulse = s.fu.pulse := by simp [State.leaveRun]

@[simp] theorem State.enterHoldup_pulse : s.enterHoldup.fu.pulse = s.fu.pulse := by simp [State.enterHoldup]

@[simp] theorem State.enterStopped_pulse : s.enterStopped.fu.pulse = s.fu.pulse := by simp [State.enterStopped]

@[simp] theorem State.enterRestarting_pulse : s.enterRestarting.fu.pulse = s.fu.pulse := by simp [State.enterRestarting]

@[simp] theorem State.beginReturn_pulse : s.beginReturn.fu.pulse = s.fu.pulse := by
  unfold State.beginReturn
  split <;> simp

@[simp] theorem State.enterDumped_pulse : s.enterDumped.fu.pulse = s.fu.pulse := by
  unfold State.enterDumped
  dsimp only
  split <;> simp

@[simp] theorem State.holdupEnds_pulse : s.holdupEnds.fu.pulse = s.fu.pulse := by
  unfold State.holdupEnds
  dsimp only
  (repeat' split) <;> simp

@[simp] theorem State.writeDone_pulse (w : ScWrite) : (s.writeDone w).fu.pulse = s.fu.pulse := by
  unfold State.writeDone
  dsimp only
  (repeat' split) <;> simp

@[simp] theorem State.writeFailed_pulse (w : ScWrite) : (s.writeFailed w).fu.pulse = s.fu.pulse := by
  unfold State.writeFailed
  dsimp only
  (repeat' split) <;> simp

@[simp] theorem State.headerReported_pulse (r : HeaderReport) : (s.headerReported r).fu.pulse = s.fu.pulse := by
  unfold State.headerReported
  split <;> simp

@[simp] theorem State.pfailRises_pulse : s.pfailRises.fu.pulse = s.fu.pulse := by
  unfold State.pfailRises
  dsimp only
  split <;> simp

@[simp] theorem State.pfailFalls_pulse : s.pfailFalls.fu.pulse = s.fu.pulse := by
  unfold State.pfailFalls
  dsimp only
  (repeat' split) <;> simp

/-! ### The metadata unit -/

@[simp] theorem State.raiseFault_pulse (k : Kind) : (s.raiseFault k).fu.pulse = s.fu.pulse := by
  unfold State.raiseFault
  dsimp only
  (repeat' split) <;> simp

@[simp] theorem State.attemptFails_pulse (p : Persist) : (s.attemptFails p).fu.pulse = s.fu.pulse := by
  unfold State.attemptFails
  dsimp only
  (repeat' split) <;> simp

@[simp] theorem State.writeFails_pulse (w : ScWrite) (attempt : Nat) : (s.writeFails w attempt).fu.pulse = s.fu.pulse := by
  unfold State.writeFails
  split <;> simp

@[simp] theorem State.muProgramEnds_pulse (pass : Bool) : (s.muProgramEnds pass).fu.pulse = s.fu.pulse := by
  unfold State.muProgramEnds
  dsimp only
  (repeat' split) <;> simp

@[simp] theorem State.muOffline_pulse : s.muOffline.fu.pulse = s.fu.pulse := by
  unfold State.muOffline
  dsimp only
  split <;> simp

@[simp] theorem State.headerRead_pulse (bytes : List Byte) : (s.headerRead bytes).fu.pulse = s.fu.pulse := by
  unfold State.headerRead
  dsimp only
  (repeat' split) <;> simp

@[simp] theorem State.recordsRead_pulse (n : Nat) (crc : Word32) (acc : List Byte) (k : Nat) (bytes : List Byte) :
    (s.recordsRead n crc acc k bytes).fu.pulse = s.fu.pulse := by
  unfold State.recordsRead
  dsimp only
  split <;> simp

@[simp] theorem State.muReadEnds_pulse (bytes : List Byte) : (s.muReadEnds bytes).fu.pulse = s.fu.pulse := by
  unfold State.muReadEnds
  dsimp only
  (repeat' split) <;> simp

/-! ### The memory port -/

@[simp] theorem State.resetCompletes_pulse : (s.resetCompletes d).fu.pulse = s.fu.pulse := by
  unfold State.resetCompletes
  dsimp only
  split <;> simp

@[simp] theorem State.programReady_pulse (pass : Bool) : (s.programReady d pass).fu.pulse = s.fu.pulse := by
  unfold State.programReady
  dsimp only
  (repeat' split) <;> simp

@[simp] theorem State.suspendedReported_pulse : (s.suspendedReported d).fu.pulse = s.fu.pulse := by
  unfold State.suspendedReported
  dsimp only
  (repeat' split) <;> simp

@[simp] theorem State.statusReturned_pulse (r : StatusResult) : (s.statusReturned d r).fu.pulse = s.fu.pulse := by
  unfold State.statusReturned
  split <;> simp

@[simp] theorem State.transferEnds_pulse (answer : BusAnswer) : (s.transferEnds answer).fu.pulse = s.fu.pulse := by
  unfold State.transferEnds
  dsimp only
  (repeat' split) <;> simp

@[simp] theorem State.markOffline_pulse : (s.markOffline d).fu.pulse = s.fu.pulse := by
  unfold State.markOffline
  dsimp only
  (repeat' split) <;> simp

@[simp] theorem State.resetExpires_pulse : (s.resetExpires d).fu.pulse = s.fu.pulse := by
  unfold State.resetExpires
  (repeat' split) <;> simp

/-! ### The steps of the same event that leave the two -/

variable {t : State}

theorem State.bootStarts_pulse (h : s.bootStarts = some t) : t.fu.pulse = s.fu.pulse := by
  unfold State.bootStarts at h
  split at h <;> cases h
  dsimp only
  split <;> simp

theorem State.fillPending_pulse (h : s.fillPending = some t) : t.fu.pulse = s.fu.pulse := by
  unfold State.fillPending at h
  (repeat' split at h) <;> cases h
  simp

theorem State.completeWait_pulse (h : s.completeWait = some t) : t.fu.pulse = s.fu.pulse := by
  unfold State.completeWait at h
  split at h
  · exact nomatch h
  · split at h <;> cases h
    simp

theorem State.endContext_pulse (h : s.endContext d = some t) : t.fu.pulse = s.fu.pulse := by
  unfold State.endContext at h
  (repeat' split at h) <;> cases h
  simp

theorem State.endByFault_pulse (h : s.endByFault d = some t) : t.fu.pulse = s.fu.pulse := by
  unfold State.endByFault at h
  (repeat' split at h) <;> cases h
  simp

theorem State.holdupEnd_pulse (h : s.holdupEnd = some t) : t.fu.pulse = s.fu.pulse := by
  unfold State.holdupEnd at h
  split at h <;> cases h
  simp

theorem State.gather_pulse (h : s.gather d = some t) : t.fu.pulse = s.fu.pulse := by
  unfold State.gather at h
  dsimp only at h
  (repeat' split at h) <;> cases h <;> simp

theorem State.takeWrite_pulse (h : s.takeWrite = some t) : t.fu.pulse = s.fu.pulse := by
  unfold State.takeWrite at h
  dsimp only at h
  split at h <;> cases h
  split <;> simp

end

end Sys2Proof.Machine
end

section
/-! PDONE is high only for a pulse owed (R75): what the pulses' own steps and a cold reset do to that, and with the rest every
effect of a command. -/

namespace Sys2Proof.Machine

/- One theorem after another: waiting ones would each hold a thread. -/
set_option Elab.async false

/-! ### The steps that change the line or the pulses owed -/

theorem FenceUnit.owePulse_owed (f : FenceUnit) : f.owePulse.owed = min (f.owed + 1) Config.saturation := by
  unfold FenceUnit.owePulse
  dsimp only
  split <;> rfl

theorem FenceUnit.pulseEnds_low (f : FenceUnit) : f.pulseEnds.high = false := by
  unfold FenceUnit.pulseEnds
  split
  · rfl
  · next low => exact Bool.eq_false_iff.2 low

theorem State.markerDone_fu (s : State) (m : Marker) : (s.markerDone m).fu = s.fu.owePulse := by
  simp [State.markerDone]

/-- With PDONE low nothing has to be owed. -/
theorem State.pulseOwed_of_low {s : State} (low : s.fu.high = false) : s.PulseOwed :=
  fun high => absurd (low.symm.trans high) Bool.false_ne_true

theorem State.markerDone_pulseOwed (s : State) (m : Marker) : (s.markerDone m).PulseOwed := by
  intro _
  rw [s.markerDone_fu, FenceUnit.owePulse_owed]
  exact Nat.le_min.2 ⟨Nat.le_add_left _ _, by decide⟩

theorem State.PulseOwed.lowTimeEnds {s : State} (h : s.PulseOwed) : (s.setFu s.fu.lowTimeEnds).PulseOwed := by
  unfold FenceUnit.lowTimeEnds
  split
  · exact h
  · next low =>
    split
    · next owed => exact fun _ => owed
    · exact fun high => absurd high low

theorem State.PulseOwed.fenceArrival {s : State} (h : s.PulseOwed) : s.fenceArrival.PulseOwed := by
  unfold State.fenceArrival
  dsimp only
  (repeat' split)
  · exact State.markerDone_pulseOwed _ _
  · exact h
  · exact h

theorem State.completeHead_pulseOwed {s t : State} (h : s.completeHead = some t) : t.PulseOwed := by
  unfold State.completeHead at h
  (repeat' split at h) <;> cases h
  exact State.markerDone_pulseOwed _ _

/-! ### Every effect -/

theorem pulseOwed_of_due {s t : State} (due : Due s t) (h : s.PulseOwed) : t.PulseOwed := by
  cases due with
  | bootStarts ht => exact h.of_pulse (s.bootStarts_pulse ht)
  | fillPending ht => exact h.of_pulse (s.fillPending_pulse ht)
  | completeHead ht => exact State.completeHead_pulseOwed ht
  | completeWait ht => exact h.of_pulse (s.completeWait_pulse ht)
  | swap ht => exact h.of_pulse (by simp [State.swap_frame ht])
  | endContext d ht => exact h.of_pulse (s.endContext_pulse d ht)
  | endByFault d ht => exact h.of_pulse (s.endByFault_pulse d ht)
  | holdupEnd ht => exact h.of_pulse (s.holdupEnd_pulse ht)
  | stoppedReset ht =>
    unfold State.stoppedReset at ht
    split at ht <;> cases ht
    exact State.pulseOwed_of_low rfl
  | replayEnd ht => exact h.of_pulse (by simp [State.replayEnd_frame ht])
  | restartEnd ht =>
    unfold State.restartEnd at ht
    split at ht <;> cases ht
    exact State.pulseOwed_of_low rfl
  | gather d ht => exact h.of_pulse (s.gather_pulse d ht)
  | takeWrite ht => exact h.of_pulse (s.takeWrite_pulse ht)
  | startPersist ht => exact h.of_pulse (by simp [State.startPersist_frame ht])
  | hostAsks ht => exact h.of_pulse (by simp [State.hostAsks_frame ht])
  | fetchAsks ht => exact h.of_pulse (by simp [State.fetchAsks_frame ht])
  | grant ht => exact h.of_pulse (by simp [State.grant_frame ht])

theorem pulseOwed_of_effect {s t : State} (effect : Effect s t) (h : s.PulseOwed) : t.PulseOwed := by
  cases effect with
  | due hd => exact pulseOwed_of_due hd h
  | coldReset => exact State.pulseOwed_of_low rfl
  | coldResetLow => exact State.pulseOwed_of_low rfl
  | pulseEnds => exact State.pulseOwed_of_low s.fu.pulseEnds_low
  | lowTimeEnds => exact h.lowTimeEnds
  | fenceArrival => exact h.fenceArrival
  | _ => exact h.of_pulse (by simp)

/-- Settles O14: a marker's completion owes the pulse that it may begin, the line rises else only with a pulse owed, and the
pulse taken away at the end of a high time goes with the line's fall. -/
theorem pulseOwedKept : Obligations.PulseOwedKept := fun _ _ h he =>
  step_keeps_of_effects (fun _ _ => pulseOwed_of_effect) h he

end Sys2Proof.Machine
end

section
/-! The head of the fence queue completes (R73, R76), what the test for it reads of the age list, and the pulses on PDONE
(R75). -/

namespace Sys2Proof.Machine

/- One theorem after another: waiting ones would each hold a thread. -/
set_option Elab.async false

/-! ### The test of R73 -/

/-- At or above one base, numbers compare as their distances from it. -/
theorem isAbove_iff_of_base {base a b : Word32} (ha : atOrBelow base a = true) (hb : atOrBelow base b = true) :
    isAbove a b = true ↔ (b - base).toNat < (a - base).toNat := by
  rw [isAbove_iff]
  simp only [atOrBelow, decide_eq_true_eq] at ha hb ⊢
  bv_omega

/-- Where the seqs rise along the age list, the oldest entry answers for all of them. -/
theorem noneAtOrBelow_iff_of_rising {base m : Word32} {es : List Entry} (hm : atOrBelow base m = true)
    (hes : ∀ e ∈ es, atOrBelow base e.seq = true)
    (rising : es.Pairwise (fun e f => (e.seq - base).toNat < (f.seq - base).toNat)) :
    noneAtOrBelow es m = true ↔ ∀ e ∈ es, isAbove e.seq m = true := by
  cases es with
  | nil => simp [noneAtOrBelow]
  | cons e es =>
    have distance {f : Entry} (hf : f ∈ e :: es) := isAbove_iff_of_base (hes f hf) hm
    refine ⟨fun oldest => List.forall_mem_cons.2 ⟨oldest, fun f hf => ?_⟩, fun all => all e List.mem_cons_self⟩
    rw [distance (List.mem_cons_of_mem _ hf)]
    exact ((distance List.mem_cons_self).1 oldest).trans (List.rel_of_pairwise_cons rising hf)

/-! ### The completion of a marker, and the pulses -/

theorem State.completeHead_of_none {s : State} {m : Marker} {rest : List Marker} (queue : s.fu.queue = m :: rest)
    (done : noneAtOrBelow s.pwb.entries m.marker = true) :
    s.completeHead = some ((s.setFu { s.fu with queue := rest }).markerDone m) := by
  rw [State.completeHead, queue]
  exact if_pos done

/-- A pulse newly owed begins at once when PDONE has been low for 1 µs (R75). -/
theorem FenceUnit.owePulse_eq (f : FenceUnit) : f.owePulse =
    { f with
      owed := min (f.owed + 1) 255
      high := f.high || decide (f.high = false ∧ 1 ≤ f.levelTime)
      levelTime := if f.high = false ∧ 1 ≤ f.levelTime then 0 else f.levelTime } := by
  by_cases starts : f.high = false ∧ 1 ≤ f.levelTime
  · simp [FenceUnit.owePulse, starts, Config.saturation]
  · have waits : ¬(!f.high && decide (1 ≤ f.levelTime)) = true := by simpa using starts
    simp [FenceUnit.owePulse, starts, waits, Config.saturation]

theorem FenceUnit.pulseEnds_of_high {f : FenceUnit} (high : f.high = true) :
    f.pulseEnds = { f with high := false, levelTime := 0, owed := f.owed - 1 } :=
  if_pos high

theorem FenceUnit.lowTimeEnds_of_owed {f : FenceUnit} (low : f.high = false) (owed : 0 < f.owed) :
    f.lowTimeEnds = { f with high := true, levelTime := 0 } :=
  (if_neg (by simp [low])).trans (if_pos owed)

theorem FenceUnit.lowTimeEnds_of_none {f : FenceUnit} (low : f.high = false) (clear : f.owed = 0) :
    f.lowTimeEnds = { f with levelTime := 1 } :=
  (if_neg (by simp [low])).trans (if_neg (by simp [clear]))

/-- A change of the PDONE pulses alone is all of its event: no step follows. -/
theorem State.event_setPulses {s : State} (alive : s.alive = true) (settled : s.settled) {change : FenceUnit → FenceUnit}
    (owed : Nat) (high : Bool) (time : Nat)
    (changed : change s.fu = { s.fu with owed := owed, high := high, levelTime := time }) :
    s.event (fun s => s.setFu (change s.fu)) = s.setFu { s.fu with owed := owed, high := high, levelTime := time } := by
  rw [State.event_of_alive alive, changed]
  exact State.settle_of_settled ((s.setPulses_settled owed high time).2 settled)

/-- Settles O34: the completion is the step of R73 made at a running part, and what an end of PDONE's level time changes makes
no step due. -/
theorem markersAndPulses : Obligations.MarkersAndPulses := by
  refine ⟨fun _ => rfl, fun _ _ _ => rfl, fun _ _ _ => noneAtOrBelow_iff_of_rising, fun s alive settled =>
    ⟨fun high => ?falls, fun low owed => ?rises, fun low clear => ?stays⟩, fun s m rest alive queue done => ?completes⟩
  case falls => exact congrArg _ (State.event_setPulses alive settled _ _ _ (FenceUnit.pulseEnds_of_high high))
  case rises => exact congrArg _ (State.event_setPulses alive settled _ _ _ (FenceUnit.lowTimeEnds_of_owed low owed))
  case stays => exact congrArg _ (State.event_setPulses alive settled _ _ _ (FenceUnit.lowTimeEnds_of_none low clear))
  case completes =>
    refine congrArg _ ((State.named_of_due alive (State.completeHead_of_none queue done)).trans (congrArg State.settle ?_))
    rw [State.markerDone, State.setFu_fu, FenceUnit.owePulse_eq]
    rfl

end Sys2Proof.Machine
end

section
/-! The end of a context by a remap persist reported done (R94, R96, R102). -/

namespace Sys2Proof.Machine

/- One theorem after another: waiting ones would each hold a thread. -/
set_option Elab.async false

section
variable {s : State} {d : Dev} {c : Ctx}

/-- A context that waits ends by a persist that includes its change. -/
theorem State.endContext_of_reported {a n : Word32} (ctx : s.ctx d = some c) (waits : c.waitsPersist = true)
    (awaited : c.awaited = some a) (reported : s.ru.reported = some n) (reached : atOrBelow a n = true) :
    s.endContext d = some (s.endByPersist d c) := by
  simp [State.endContext, ctx, awaited, reported, waits, reached]

/-- The context ends with its entries FREE and its program counted (R94). -/
def State.contextDrained (s : State) (d : Dev) (c : Ctx) : State := { s with
  pwb := { s.pwb with entries := s.pwb.entries.filter (fun e => !inSet d c.entrySet e) }
  de := s.de.set d { s.de.get d with ctx := none }
  mgp := { s.mgp with counters := s.mgp.counters.raise .programsCompleted 1 } }

theorem State.endByPersist_of_drain (kept : s.ru.isFailed d c.home = false) (kind : c.kind = .drain) :
    s.endByPersist d c = s.contextDrained d c := by
  simp only [State.endByPersist, kept, kind]
  rfl

theorem State.endByPersist_of_request (kept : s.ru.isFailed d c.home = false) (kind : c.kind = .retireRequest) :
    s.endByPersist d c = (s.contextDrained d c).postFault .retiredOnRequest (some d) (some c.home)
      (some (s.ru.physical d c.home)) := by
  simp only [State.endByPersist, kept, kind]
  rfl

theorem State.endByPersist_of_failed (failed : s.ru.isFailed d c.home = true) :
    s.endByPersist d c = s.loseContext d c .retireFail :=
  if_pos failed

end

/-- Settles O46: the persist includes the change, so the context ends as its page and its kind say. -/
theorem persistEndsContext : Obligations.PersistEndsContext := by
  intro s d c a n alive ctx phase awaited reported reached
  have waits : c.waitsPersist = true := c.waitsPersist_iff.2 (.inl phase)
  have ends {u : State} (h : s.endByPersist d c = u) : exec (.persistDoneContextEnd d) s = .next u.settle :=
    congrArg _ (State.named_of_due alive
      ((State.endContext_of_reported ctx waits awaited reported reached).trans (congrArg _ h)))
  exact ⟨fun kept kind => ends (State.endByPersist_of_drain kept kind),
    fun kept kind => ends (State.endByPersist_of_request kept kind),
    fun failed => ends ((State.endByPersist_of_failed failed).trans (s.loseContext_eq d c .retireFail))⟩

end Sys2Proof.Machine
end

section
/-! The remap unit in order (`State.RemapSound`): what keeps its table, its free spares and its candidate hold so (R84 to R88, R91 to
R95). -/

namespace Sys2Proof.Machine

/- One theorem after another: waiting ones would each hold a thread. -/
set_option Elab.async false

/-! ### An entry takes a page's place (R86, R93, R95) -/

theorem failedCount_append (a b : List RemapEntry) : failedCount (a ++ b) = failedCount a + failedCount b :=
  List.countP_append

theorem failedCount_cons (e : RemapEntry) (l : List RemapEntry) : failedCount (e :: l) = failedCount [e] + failedCount l := by
  rw [← failedCount_append, List.singleton_append]

theorem sparesOf_cons (d : Dev) (e : RemapEntry) (l : List RemapEntry) : (e :: l).filterMap (RemapEntry.spareOf d) =
    (e.spareOf d).toList ++ l.filterMap (RemapEntry.spareOf d) := by
  cases he : e.spareOf d <;> simp [he]

section
variable {d : Dev} {home : Nat} {e : RemapEntry} {table table' : List RemapEntry}

theorem homePages_around {x : Dev × Nat} (own : e.homePage = some x) (before after : List RemapEntry) :
    (before ++ e :: after).filterMap RemapEntry.homePage =
      before.filterMap RemapEntry.homePage ++ x :: after.filterMap RemapEntry.homePage := by
  rw [List.filterMap_append, List.filterMap_cons_some own]

/-- With a home page in one entry at most, settling a page replaces its one REMAP entry or appends. -/
theorem pageSettles_settlePage (homes : (table.filterMap RemapEntry.homePage).Nodup) (d : Dev) (home : Nat) (e : RemapEntry) :
    PageSettles d home e table (settlePage table d home e) := by
  have settled {table' : List RemapEntry} (h : PageSettles d home e table table') :
      PageSettles d home e table (settlePage table d home e) := h.settlePage_eq ▸ h
  by_cases mapped : ∃ old, RemapEntry.remap d home old ∈ table
  · obtain ⟨old, mem⟩ := mapped
    obtain ⟨before, after, rfl⟩ := List.append_of_mem mem
    refine settled (.inr ⟨before, old, after, rfl, fun q => ?_, rfl⟩)
    have once {part : List RemapEntry} (h : RemapEntry.remap d home q ∈ part) :
        (d, home) ∈ part.filterMap RemapEntry.homePage := List.mem_filterMap.2 ⟨_, h, rfl⟩
    rw [homePages_around (e := .remap d home old) rfl] at homes
    obtain ⟨-, rest, apart⟩ := List.nodup_append.1 homes
    exact ⟨fun h => apart _ (once h) _ List.mem_cons_self rfl, fun h => (List.nodup_cons.1 rest).1 (once h)⟩
  · exact settled (.inl ⟨fun q h => mapped ⟨q, h⟩, rfl⟩)

theorem PageSettles.homes_nodup (h : PageSettles d home e table table') (own : e.homePage = some (d, home))
    (kept : RemapEntry.failed d home ∉ table) (homes : (table.filterMap RemapEntry.homePage).Nodup) :
    (table'.filterMap RemapEntry.homePage).Nodup := by
  obtain ⟨apart, rfl⟩ | ⟨before, old, after, rfl, -, rfl⟩ := h
  · have fresh : (d, home) ∉ table.filterMap RemapEntry.homePage := by
      intro mem
      obtain ⟨x, hx, page⟩ := List.mem_filterMap.1 mem
      cases x with
      | remap d' h q =>
        cases page
        exact apart q hx
      | failed d' h =>
        cases page
        exact kept hx
      | retiredSpare d' q => exact nomatch page
    rw [List.filterMap_append, List.filterMap_cons_some own, List.filterMap_nil]
    exact List.nodup_append.2 ⟨homes, List.nodup_singleton _, by rintro _ ha _ hb rfl; exact fresh (List.mem_singleton.1 hb ▸ ha)⟩
  · rw [homePages_around (e := .remap d home old) rfl] at homes
    have retired : [RemapEntry.retiredSpare d old].filterMap RemapEntry.homePage = [] := rfl
    rw [List.filterMap_append, homePages_around own, retired, List.append_nil]
    exact homes

theorem PageSettles.failedCount_eq (h : PageSettles d home e table table') :
    failedCount table' = failedCount table + failedCount [e] := by
  have none_failed (x : RemapEntry) (hx : ∀ d h, x ≠ .failed d h) : failedCount [x] = 0 := by
    cases x <;> simp_all [failedCount]
  obtain ⟨-, rfl⟩ | ⟨before, old, after, rfl, -, rfl⟩ := h
  · exact failedCount_append _ _
  · rw [failedCount_append, failedCount_append, failedCount_append, failedCount_cons e, failedCount_cons (.remap ..),
      none_failed (.remap ..) nofun, none_failed (.retiredSpare ..) nofun]
    omega

/-- The spare that the page had is retired, and the table names the entry's own beside those it named. -/
theorem PageSettles.spares_perm (h : PageSettles d home e table table') (d' : Dev) :
    (table'.filterMap (RemapEntry.spareOf d')).Perm (table.filterMap (RemapEntry.spareOf d') ++ (e.spareOf d').toList) := by
  obtain ⟨-, rfl⟩ | ⟨before, old, after, rfl, -, rfl⟩ := h
  · rw [List.filterMap_append, sparesOf_cons, List.filterMap_nil, List.append_nil]
  · have retired : RemapEntry.spareOf d' (.retiredSpare d old) = RemapEntry.spareOf d' (.remap d home old) := rfl
    simp only [List.filterMap_append, sparesOf_cons, List.filterMap_nil, List.append_nil, retired]
    generalize before.filterMap (RemapEntry.spareOf d') = b, after.filterMap (RemapEntry.spareOf d') = a,
      (e.spareOf d').toList = x, (RemapEntry.spareOf d' (.remap d home old)).toList = y
    have swapped : (x ++ (a ++ y)).Perm (y ++ (a ++ x)) :=
      calc List.Perm (x ++ (a ++ y)) (a ++ y ++ x) := List.perm_append_comm
        List.Perm _ (y ++ a ++ x) := List.perm_append_comm.append_right x
        _ = y ++ (a ++ x) := List.append_assoc ..
    simpa only [List.append_assoc] using swapped.append_left b

end

/-! ### The room of the table (R84, R86) -/

/-- Every entry is a FAILED one or names a spare of one of the devices. -/
theorem length_eq_failed_add_spares (table : List RemapEntry) : table.length = failedCount table +
    (table.filterMap (RemapEntry.spareOf .d0)).length + (table.filterMap (RemapEntry.spareOf .d1)).length := by
  induction table with
  | nil => rfl
  | cons e table ih =>
    have one : failedCount [e] + (e.spareOf .d0).toList.length + (e.spareOf .d1).toList.length = 1 := by
      cases e with
      | failed => rfl
      | remap d => cases d <;> rfl
      | retiredSpare d => cases d <;> rfl
    rw [List.length_cons, failedCount_cons, sparesOf_cons, sparesOf_cons, List.length_append, List.length_append]
    omega

theorem length_le_of_spares {d : Dev} {l : List Nat} (once : l.Nodup) (pool : ∀ p ∈ l, isSparePage d p = true) :
    l.length ≤ Config.sparePages := by
  have within : l ⊆ List.range' (Config.userPages d) Config.sparePages := fun p hp => by
    have page := pool p hp
    simp only [isSparePage, Bool.and_eq_true, decide_eq_true_eq] at page
    exact List.mem_range'_1.2 page
  exact (once.subperm within).length_le.trans_eq (List.length_range' ..)

/-! ### The unit, whatever the contexts -/

/-- What `State.sparesHeld` lists, of the unit alone. -/
def RemapUnit.sparesHeld (u : RemapUnit) (d : Dev) : List Nat :=
  u.table.filterMap (RemapEntry.spareOf d) ++ u.free.get d ++ (u.hold.get d).toList

/-- The clauses of `State.RemapSound` about the unit alone. -/
structure RemapUnit.Sound (u : RemapUnit) : Prop where
  homes  : (u.table.filterMap RemapEntry.homePage).Nodup
  failed : failedCount u.table ≤ Config.failedLimit
  spares : ∀ d, (u.sparesHeld d).Nodup ∧ ∀ p ∈ u.sparesHeld d, isSparePage d p = true

section
variable {u v : RemapUnit} {d : Dev} {home p : Nat}

theorem RemapUnit.Sound.table_length_le (h : u.Sound) : u.table.length ≤ 72 := by
  have named (d : Dev) : (u.table.filterMap (RemapEntry.spareOf d)).length ≤ Config.sparePages := by
    obtain ⟨once, pool⟩ := h.spares d
    rw [RemapUnit.sparesHeld, List.append_assoc] at once pool
    exact length_le_of_spares (List.nodup_append.1 once).1 (fun p hp => pool p (List.mem_append_left _ hp))
  have failed := h.failed
  have d0 := named .d0
  have d1 := named .d1
  rw [length_eq_failed_add_spares]
  unfold Config.failedLimit at failed
  unfold Config.sparePages at d0 d1
  omega

/-- No spare comes into two places when none is held beyond those that were. -/
theorem RemapUnit.Sound.of_spares (h : u.Sound) (homes : (v.table.filterMap RemapEntry.homePage).Nodup)
    (failed : failedCount v.table ≤ Config.failedLimit) (spares : ∀ d, (v.sparesHeld d).Subperm (u.sparesHeld d)) :
    v.Sound where
  homes := homes
  failed := failed
  spares d := by
    obtain ⟨once, pool⟩ := h.spares d
    obtain ⟨l, same, part⟩ := spares d
    exact ⟨same.nodup_iff.1 (once.sublist part), fun p hp => pool p ((spares d).subset hp)⟩

theorem RemapUnit.Sound.of_same (h : u.Sound) (table : v.table = u.table) (free : v.free = u.free) (hold : v.hold = u.hold) :
    v.Sound where
  homes := table ▸ h.homes
  failed := table ▸ h.failed
  spares d := by
    have same : v.sparesHeld d = u.sparesHeld d := by simp only [RemapUnit.sparesHeld, table, free, hold]
    exact same ▸ h.spares d

/-- The candidate leaves the hold for the table. -/
theorem RemapUnit.sparesHeld_of_held {table : List RemapEntry} (held : u.hold.get d = some p)
    (named : ∀ d', (table.filterMap (RemapEntry.spareOf d')).Perm
      (u.table.filterMap (RemapEntry.spareOf d') ++ (RemapEntry.spareOf d' (.retiredSpare d p)).toList)) (d' : Dev) :
    (RemapUnit.sparesHeld { u with table := table, hold := u.hold.set d none } d').Subperm (u.sparesHeld d') := by
  refine List.Perm.subperm ?_
  by_cases own : d' = d
  · subst own
    have one : (RemapEntry.spareOf d' (.retiredSpare d' p)).toList = [p] := by simp [RemapEntry.spareOf]
    have moved := (named d').append_right (u.free.get d')
    simp only [RemapUnit.sparesHeld, PerDev.get_set_same, held, Option.toList_none, Option.toList_some, List.append_nil]
    rw [one] at moved
    refine moved.trans ?_
    rw [List.append_assoc, List.append_assoc]
    exact List.perm_append_comm.append_left _
  · have none_named : (RemapEntry.spareOf d' (.retiredSpare d p)).toList = [] := by
      simp [RemapEntry.spareOf, Ne.symm own]
    have same := named d'
    rw [none_named, List.append_nil] at same
    simp only [RemapUnit.sparesHeld, PerDev.get_set_other _ own]
    exact (same.append_right _).append_right _

/-- A candidate becomes the target of its home page (R93). -/
theorem RemapUnit.Sound.remapTo (h : u.Sound) (held : u.hold.get d = some p) (kept : u.isFailed d home = false) :
    RemapUnit.Sound { u with table := settlePage u.table d home (.remap d home p), hold := u.hold.set d none } := by
  have settles := pageSettles_settlePage h.homes d home (.remap d home p)
  have apart : RemapEntry.failed d home ∉ u.table := by simpa [RemapUnit.isFailed] using kept
  refine h.of_spares (settles.homes_nodup rfl apart h.homes) ?_ (RemapUnit.sparesHeld_of_held held (fun d' => ?_))
  · exact settles.failedCount_eq.trans_le h.failed
  · exact settles.spares_perm d'

/-- A candidate becomes a retired spare (R92). -/
theorem RemapUnit.Sound.retireCandidate (h : u.Sound) (held : u.hold.get d = some p) :
    RemapUnit.Sound { u with table := u.table ++ [.retiredSpare d p], hold := u.hold.set d none } := by
  refine h.of_spares ?_ ?_ (RemapUnit.sparesHeld_of_held held (fun d' => ?_))
  · have none_named : [RemapEntry.retiredSpare d p].filterMap RemapEntry.homePage = [] := rfl
    rw [List.filterMap_append, none_named, List.append_nil]
    exact h.homes
  · exact (failedCount_append _ _).trans_le h.failed
  · rw [List.filterMap_append, sparesOf_cons, List.filterMap_nil, List.append_nil]

/-- A home page becomes FAILED while there is room for it (R86, R95). -/
theorem RemapUnit.Sound.markFailed (h : u.Sound) (kept : u.isFailed d home = false)
    (room : failedCount u.table < Config.failedLimit) :
    RemapUnit.Sound { u with table := settlePage u.table d home (.failed d home) } := by
  have settles := pageSettles_settlePage h.homes d home (.failed d home)
  have apart : RemapEntry.failed d home ∉ u.table := by simpa [RemapUnit.isFailed] using kept
  refine h.of_spares (settles.homes_nodup rfl apart h.homes) (settles.failedCount_eq.trans_le room) (fun d' => ?_)
  have named := settles.spares_perm d'
  rw [show RemapEntry.spareOf d' (.failed d home) = none from rfl, Option.toList_none, List.append_nil] at named
  exact ((named.append_right _).append_right _).subperm

/-- The lowest free spare goes into the hold (R84, R91). -/
theorem RemapUnit.Sound.takeSpare (h : u.Sound) {rest : List Nat} (free : u.free.get d = p :: rest) :
    RemapUnit.Sound { u with free := u.free.set d rest, hold := u.hold.set d (some p) } := by
  refine h.of_spares h.homes h.failed (fun d' => ?_)
  by_cases own : d' = d
  · subst own
    simp only [RemapUnit.sparesHeld, PerDev.get_set_same, free, Option.toList_some, List.append_assoc]
    refine (List.subperm_append_left _).2 ?_
    have moved : (rest ++ [p]).Perm (p :: rest) := List.perm_append_singleton ..
    exact moved.subperm.trans (List.sublist_append_left (p :: rest) _).subperm
  · simp only [RemapUnit.sparesHeld, PerDev.get_set_other _ own]
    exact List.Subperm.refl _

end

end Sys2Proof.Machine
end

section
/-! The remap unit in order: the contexts of the drain engines, and the retirement flow (R65, R67, R89 to R97). -/

namespace Sys2Proof.Machine

/- One theorem after another: waiting ones would each hold a thread. -/
set_option Elab.async false

/-- The clauses of `State.RemapSound` about one context of a device. -/
structure Ctx.SoundOn (c : Ctx) (u : RemapUnit) (d : Dev) : Prop where
  candidate : ∀ p, c.candidate = some p → u.hold.get d = some p
  working   : c.working → u.isFailed d c.home = false

theorem State.remapSound_iff (s : State) : s.RemapSound ↔ s.ru.Sound ∧ (∀ d c, s.ctx d = some c → c.SoundOn s.ru d) ∧
    (s.sc.state = .boot → ∀ d, s.ctx d = none ∧ s.ru.hold.get d = none) := by
  constructor
  · intro h
    exact ⟨⟨h.homes, h.failed, h.spares⟩, fun d c hc => ⟨fun p => h.candidate d c p hc, h.working d c hc⟩, h.boot⟩
  · rintro ⟨unit, ctx, boot⟩
    exact ⟨unit.homes, unit.failed, unit.spares, fun d c p hc => (ctx d c hc).candidate p, fun d c hc => (ctx d c hc).working,
      boot⟩

/-- The remap unit in order but for the context of `d`, which is in hand: the part has left BOOT. -/
structure State.SoundBeside (s : State) (d : Dev) : Prop where
  unit   : s.ru.Sound
  others : ∀ e c, e ≠ d → s.ctx e = some c → c.SoundOn s.ru e
  left   : s.sc.state ≠ .boot

theorem State.setCtx_ctx_same (s : State) (d : Dev) (c : Option Ctx) : (s.setCtx d c).ctx d = c := by
  simp [State.setCtx, State.ctx]

theorem State.setCtx_ctx_other (s : State) {d e : Dev} (h : e ≠ d) (c : Option Ctx) : (s.setCtx d c).ctx e = s.ctx e := by
  simp [State.setCtx, State.ctx, PerDev.get_set_other _ h]

theorem State.ctx_of_de {s t : State} (de : t.de = s.de) (d : Dev) : t.ctx d = s.ctx d := by
  rw [State.ctx, State.ctx, de]

section
variable {s t : State} {d : Dev} {c : Ctx}

/-! ### From one state to the next -/

theorem State.RemapSound.unit (h : s.RemapSound) : s.ru.Sound := ⟨h.homes, h.failed, h.spares⟩

theorem State.RemapSound.soundOn (h : s.RemapSound) (hc : s.ctx d = some c) : c.SoundOn s.ru d :=
  ⟨fun p => h.candidate d c p hc, h.working d c hc⟩

theorem State.RemapSound.left (h : s.RemapSound) (hc : s.ctx d = some c) : s.sc.state ≠ .boot := by
  intro boot
  rw [(h.boot boot d).1] at hc
  exact nomatch hc

/-- A context is taken in hand. -/
theorem State.RemapSound.beside (h : s.RemapSound) (left : s.sc.state ≠ .boot) : s.SoundBeside d :=
  ⟨h.unit, fun _ _ _ hc => h.soundOn hc, left⟩

/-- Neither the table, the spares nor a context changes, and BOOT is not entered. -/
theorem State.RemapSound.of_ctx (h : s.RemapSound) (table : t.ru.table = s.ru.table) (free : t.ru.free = s.ru.free)
    (hold : t.ru.hold = s.ru.hold) (ctx : ∀ e, t.ctx e = s.ctx e) (boot : t.sc.state = .boot → s.sc.state = .boot) :
    t.RemapSound := by
  refine t.remapSound_iff.2 ⟨h.unit.of_same table free hold, fun e c hc => ?_, fun b e => ?_⟩
  · have sound := h.soundOn ((ctx e).symm.trans hc)
    exact ⟨fun p hp => hold ▸ sound.candidate p hp,
      fun w => (congrArg (List.contains · _) table).trans (sound.working w)⟩
  · rw [ctx, hold]
    exact h.boot (boot b) e

/-- An operation of the other blocks. -/
theorem State.RemapSound.of_frame (h : s.RemapSound) (ru : t.ru = s.ru := by simp) (de : t.de = s.de := by simp)
    (boot : t.sc.state = .boot → s.sc.state = .boot := by simp) : t.RemapSound :=
  h.of_ctx (by rw [ru]) (by rw [ru]) (by rw [ru]) (State.ctx_of_de de) boot

theorem State.SoundBeside.of_frame (h : s.SoundBeside d) (ru : t.ru = s.ru := by simp) (de : t.de = s.de := by simp)
    (sc : t.sc = s.sc := by simp) : t.SoundBeside d :=
  ⟨ru ▸ h.unit, fun e c he hc => ru ▸ h.others e c he ((State.ctx_of_de de e).symm.trans hc), sc ▸ h.left⟩

/-- The context in hand is put down. -/
theorem State.SoundBeside.setCtx (h : s.SoundBeside d) {c : Option Ctx} (sound : ∀ x, c = some x → x.SoundOn s.ru d) :
    (s.setCtx d c).RemapSound := by
  refine (s.setCtx d c).remapSound_iff.2 ⟨h.unit, fun e x hx => ?_, fun boot => absurd boot h.left⟩
  by_cases own : e = d
  · subst own
    rw [State.setCtx_ctx_same] at hx
    exact sound x hx
  · rw [State.setCtx_ctx_other _ own] at hx
    exact h.others e x own hx

theorem State.SoundBeside.setCtx_none (h : s.SoundBeside d) : (s.setCtx d none).RemapSound := h.setCtx (by simp)

theorem State.SoundBeside.setCtx_some (h : s.SoundBeside d) (sound : c.SoundOn s.ru d) : (s.setCtx d (some c)).RemapSound :=
  h.setCtx (by rintro _ ⟨⟩; exact sound)

/-- A context goes; in BOOT there is none. -/
theorem State.RemapSound.setCtx_none (h : s.RemapSound) : (s.setCtx d none).RemapSound := by
  refine (s.setCtx d none).remapSound_iff.2 ⟨h.unit, fun e x hx => ?_, fun boot e => ?_⟩
  · by_cases own : e = d
    · subst own
      rw [State.setCtx_ctx_same] at hx
      exact nomatch hx
    · rw [State.setCtx_ctx_other _ own] at hx
      exact h.soundOn hx
  · obtain ⟨idle, empty⟩ := h.boot boot e
    refine ⟨?_, empty⟩
    by_cases own : e = d
    · exact own ▸ s.setCtx_ctx_same d none
    · rw [State.setCtx_ctx_other _ own]
      exact idle

/-- A context that holds the same candidate for the same page, and works on it only if it did. -/
theorem Ctx.SoundOn.of_same {u : RemapUnit} {x : Ctx} (h : c.SoundOn u d) (working : x.working → c.working)
    (home : x.home = c.home := by rfl) (candidate : x.candidate = c.candidate := by rfl) : x.SoundOn u d where
  candidate p hp := h.candidate p (candidate ▸ hp)
  working w := home ▸ h.working (working w)

/-- A context is replaced by one of the same page and candidate. -/
theorem State.RemapSound.setCtx_some (h : s.RemapSound) (hc : s.ctx d = some c) {x : Ctx} (working : x.working → c.working)
    (home : x.home = c.home := by rfl) (candidate : x.candidate = c.candidate := by rfl) : (s.setCtx d (some x)).RemapSound :=
  (h.beside (h.left hc)).setCtx_some ((h.soundOn hc).of_same working home candidate)

/-! ### Working contexts -/

/-- In any phase but those of the wait and the stop a context works. -/
theorem Ctx.working_of_phase (running : c.phase ≠ .stopped) (waits : c.phase ≠ .awaitPersist) : c.working :=
  ⟨waits, fun h => running h.1⟩

/-- A context whose page and candidate are in order before a memory operation of the flow. -/
theorem Ctx.SoundOn.of_kept {u : RemapUnit} (held : ∀ p, c.candidate = some p → u.hold.get d = some p)
    (kept : u.isFailed d c.home = false) : c.SoundOn u d :=
  ⟨held, fun _ => kept⟩

theorem Ctx.SoundOn.stop {u : RemapUnit} (h : c.SoundOn u d) (running : c.phase ≠ .stopped) :
    Ctx.SoundOn { c with phase := .stopped, before := some c.phase } u d :=
  h.of_same fun w => Ctx.working_of_phase running (fun p => w.2 ⟨rfl, congrArg some p⟩)

/-- A context that awaits a persist holds no candidate and works no more. -/
theorem Ctx.SoundOn.of_await {u : RemapUnit} (candidate : c.candidate = none) (waits : ¬c.working) : c.SoundOn u d :=
  ⟨fun _ hp => (nomatch candidate.symm.trans hp), fun w => absurd w waits⟩

/-! ### The table changes (R84 to R87) -/

theorem Ctx.SoundOn.of_unit {u v : RemapUnit} (h : c.SoundOn u d) (hold : v.hold.get d = u.hold.get d)
    (failed : RemapEntry.failed d c.home ∈ v.table → RemapEntry.failed d c.home ∈ u.table) : c.SoundOn v d where
  candidate p hp := hold.trans (h.candidate p hp)
  working w := by
    have kept := h.working w
    rw [← Bool.not_eq_true, RemapUnit.isFailed_iff] at kept ⊢
    exact fun mem => kept (failed mem)

variable {home p : Nat}

/-- The unit changes, with nothing of the other device. -/
theorem State.SoundBeside.setRu (h : s.SoundBeside d) {u : RemapUnit} (sound : u.Sound)
    (hold : ∀ e, e ≠ d → u.hold.get e = s.ru.hold.get e)
    (failed : ∀ e page, e ≠ d → RemapEntry.failed e page ∈ u.table → RemapEntry.failed e page ∈ s.ru.table) :
    (s.setRu u).SoundBeside d :=
  ⟨sound, fun e c he hc => (h.others e c he hc).of_unit (hold e he) (failed e c.home he), h.left⟩

theorem State.SoundBeside.remapChanged (h : s.SoundBeside d) : s.remapChanged.SoundBeside d :=
  State.SoundBeside.of_frame (s := s.setRu { s.ru with change := s.ru.change + 1 })
    (h.setRu (h.unit.of_same rfl rfl rfl) (fun _ _ => rfl) (fun _ _ _ => id)) rfl rfl rfl

theorem State.SoundBeside.remapTo (h : s.SoundBeside d) (held : s.ru.hold.get d = some p)
    (kept : s.ru.isFailed d home = false) : (s.remapTo d home p).SoundBeside d :=
  (h.setRu (h.unit.remapTo held kept) (fun _ he => PerDev.get_set_other _ he _) (fun _ _ _ =>
    (pageSettles_settlePage h.unit.homes d home (.remap d home p)).failed_of_mem nofun)).remapChanged

theorem State.SoundBeside.retireCandidate (h : s.SoundBeside d) (held : s.ru.hold.get d = some p) :
    (s.retireCandidate d p).SoundBeside d :=
  (h.setRu (h.unit.retireCandidate held) (fun _ he => PerDev.get_set_other _ he _) (fun _ _ _ mem => by simpa using mem))
    |>.remapChanged

theorem State.retireCandidate_isFailed (page : Nat) : (s.retireCandidate d p).ru.isFailed d page = s.ru.isFailed d page := by
  simp [State.retireCandidate, State.remapChanged, RemapUnit.isFailed]

theorem State.SoundBeside.markFailed (h : s.SoundBeside d) (kept : s.ru.isFailed d home = false)
    (room : failedCount s.ru.table < Config.failedLimit) {changed : Bool} : (s.markFailed d home changed).SoundBeside d := by
  have marked := h.setRu (h.unit.markFailed kept room) (fun _ _ => rfl) (fun e page he =>
    (pageSettles_settlePage h.unit.homes d home (.failed d home)).failed_of_mem (by simp [Ne.symm he]))
  unfold State.markFailed
  dsimp only
  split
  · exact marked
  · exact marked.remapChanged

/-- The spare taken is the one in the hold, and the table is as it was. -/
theorem State.SoundBeside.takeSpare (h : s.SoundBeside d) (ht : s.takeSpare d = some (p, t)) :
    t.SoundBeside d ∧ t.ru.hold.get d = some p ∧ t.ru.table = s.ru.table := by
  unfold State.takeSpare at ht
  split at ht
  · exact nomatch ht
  · next q rest free =>
    obtain ⟨rfl, rfl⟩ := Prod.mk.inj (Option.some.inj ht)
    have taken := h.setRu (h.unit.takeSpare free) (fun _ he => PerDev.get_set_other _ he _) (fun _ _ _ => id)
    split
    · exact ⟨taken.of_frame, by simp, by simp⟩
    · exact ⟨taken, by simp, by simp⟩

/-! ### The flow of a retirement (R65, R89 to R97)

The page is not FAILED, and a candidate is the one in the hold. -/

theorem State.SoundBeside.loseContext (h : s.SoundBeside d) {k : FaultKind} : (s.loseContext d c k).RemapSound :=
  State.SoundBeside.setCtx_none h.of_frame

theorem State.SoundBeside.memoryStep (h : s.SoundBeside d) (sound : c.SoundOn s.ru d) (running : c.phase ≠ .stopped)
    {cmd : Cmd} : (s.memoryStep d c cmd).RemapSound := by
  unfold State.memoryStep
  split
  · exact h.setCtx_some (sound.stop running)
  · exact (h.setCtx_some sound).of_frame

theorem State.SoundBeside.enterAwait (h : s.SoundBeside d) : (s.enterAwait d c).RemapSound := by
  unfold State.enterAwait
  dsimp only
  (repeat' split)
  · exact h.loseContext
  · exact h.setCtx_some (.of_await rfl (fun w => w.2 ⟨rfl, rfl⟩))
  · exact h.setCtx_some (.of_await rfl (fun w => w.1 rfl))

theorem State.SoundBeside.unremappable (h : s.SoundBeside d) (kept : s.ru.isFailed d c.home = false) {changed : Bool} :
    (s.unremappable d c changed).RemapSound := by
  unfold State.unremappable
  split
  · next room => exact State.SoundBeside.enterAwait (h.markFailed (changed := changed) kept room).of_frame
  · exact (h.loseContext (c := c) (k := .deviceWriteLocked)).of_frame

theorem State.SoundBeside.retireProgram (h : s.SoundBeside d) (sound : c.SoundOn s.ru d) 
    (kept : s.ru.isFailed d c.home = false) {image : List Byte} : (s.retireProgram d c image).RemapSound := by
  unfold State.retireProgram
  split
  · exact h.memoryStep (by exact .of_kept sound.candidate kept) (by simp)
  · split
    · next q t ht =>
      obtain ⟨taken, held, table⟩ := h.takeSpare ht
      have same : t.ru.isFailed d c.home = false := (congrArg (List.contains · _) table).trans kept
      exact taken.memoryStep (by exact .of_kept (by rintro _ ⟨⟩; exact held) same) (by simp)
    · exact h.unremappable kept

theorem State.SoundBeside.retireRead (h : s.SoundBeside d) (sound : c.SoundOn s.ru d)
    (kept : s.ru.isFailed d c.home = false) {changed : Bool} : (s.retireRead d c changed).RemapSound := by
  unfold State.retireRead
  (repeat' split)
  · exact h.unremappable kept
  · exact h.memoryStep (by exact .of_kept sound.candidate kept) (by simp)
  · exact h.retireProgram sound kept

theorem State.SoundBeside.batchFails (h : s.SoundBeside d) (sound : c.SoundOn s.ru d)
    (kept : s.ru.isFailed d c.home = false) : (s.batchFails d c).RemapSound :=
  h.retireRead (by exact .of_kept sound.candidate kept) (by exact kept)

theorem State.SoundBeside.spareFails (h : s.SoundBeside d) (held : s.ru.hold.get d = some p)
    (kept : s.ru.isFailed d c.home = false) : (s.spareFails d c p).RemapSound := by
  have retired : ((s.invalidate d c.home).retireCandidate d p).SoundBeside d :=
    State.SoundBeside.retireCandidate h.of_frame (by simpa using held)
  have same : ((s.invalidate d c.home).retireCandidate d p).ru.isFailed d c.home = false := by
    rw [State.retireCandidate_isFailed]
    simpa using kept
  exact retired.retireRead (by exact .of_kept nofun same) (by exact same)

theorem State.SoundBeside.sparePasses (h : s.SoundBeside d) (held : s.ru.hold.get d = some p)
    (kept : s.ru.isFailed d c.home = false) : (s.sparePasses d c p).RemapSound := by
  have mapped : ((s.invalidate d c.home).remapTo d c.home p).SoundBeside d :=
    State.SoundBeside.remapTo h.of_frame (by simpa using held) (by simpa using kept)
  unfold State.sparePasses
  dsimp only
  split
  · exact State.SoundBeside.enterAwait mapped.of_frame
  · exact State.SoundBeside.enterAwait mapped.of_frame

end

end Sys2Proof.Machine
end

section
/-! The remap unit in order: the suspends that reads ask for, the programs running for an engine, stopping and resumption (R36, R43
to R45, R51 to R67). -/

namespace Sys2Proof.Machine

/- One theorem after another: waiting ones would each hold a thread. -/
set_option Elab.async false

section
variable {s t : State} {d : Dev}

/-! ### Suspends and reads that end early (R36, R42 to R45) -/

theorem State.RemapSound.requesterGone (h : s.RemapSound) : (s.requesterGone d).RemapSound := by
  unfold State.requesterGone
  split
  · exact h
  · next c hc =>
    split
    · next hp _ =>
      split
      · exact State.RemapSound.setCtx_some (s := s.withdraw (isSuspendOf d)) h.of_frame hc (fun _ => Ctx.working_of_phase (by simp [hp]) (by simp [hp]))
      · exact h
    · exact (h.setCtx_some hc (x := { c with suspendStep := some .resuming }) id).of_frame
    · exact h

/-- A suspend is accepted of a program that runs. -/
theorem State.RemapSound.acceptSuspend (h : s.RemapSound) {c : Ctx} (hc : s.ctx d = some c) (phase : c.phase = .programming) :
    (s.acceptSuspend d c).RemapSound := by
  unfold State.acceptSuspend
  refine (h.setCtx_some hc (x := { c with
    phase := .suspended, suspendStep := some .asked, suspendsUsed := c.suspendsUsed + 1, ackTime := none }) fun _ => ?_).of_frame
  exact Ctx.working_of_phase (by simp [phase]) (by simp [phase])

theorem State.RemapSound.hostAsks (h : s.RemapSound) (ht : s.hostAsks = some t) : t.RemapSound := by
  unfold State.hostAsks at ht
  split at ht
  · exact nomatch ht
  · split at ht
    · split at ht
      · exact nomatch ht
      · next hc =>
        obtain ⟨ctx, phase⟩ := State.suspendable_spec hc
        split at ht <;> cases ht
        · exact State.RemapSound.acceptSuspend h.of_frame ctx phase
        · exact h.of_frame
    · exact nomatch ht

theorem State.RemapSound.fetchAsks (h : s.RemapSound) (ht : s.fetchAsks = some t) : t.RemapSound := by
  unfold State.fetchAsks at ht
  split at ht
  · exact nomatch ht
  · split at ht
    · split at ht
      · exact nomatch ht
      · next hc =>
        obtain ⟨ctx, phase⟩ := State.suspendable_spec hc
        split at ht <;> cases ht
        · exact State.RemapSound.acceptSuspend h.of_frame ctx phase
        · exact h.of_frame
    · exact nomatch ht

theorem State.RemapSound.endSuspendOf (h : s.RemapSound) {p : ReadPhase} : (s.endSuspendOf d p).RemapSound := by
  unfold State.endSuspendOf
  split
  · exact h.requesterGone
  · exact h

theorem State.RemapSound.closeHostRead (h : s.RemapSound) : s.closeHostRead.RemapSound := by
  unfold State.closeHostRead
  split
  · exact h
  · dsimp only
    split
    · exact h.of_frame
    · exact State.RemapSound.endSuspendOf h.of_frame

theorem State.RemapSound.closeFetch (h : s.RemapSound) : s.closeFetch.RemapSound := by
  unfold State.closeFetch
  split
  · exact h
  · exact State.RemapSound.endSuspendOf h.of_frame

theorem State.RemapSound.leaveRunReads (h : s.RemapSound) : s.leaveRunReads.RemapSound := by
  unfold State.leaveRunReads
  exact h.closeHostRead.closeFetch.of_frame

theorem State.RemapSound.readsOffline (h : s.RemapSound) : (s.readsOffline d).RemapSound := by
  have fetches {a : State} (ha : a.RemapSound) : (match a.rp.fetch with
      | some f => if f.loc.dev = d then a.closeFetch else a
      | none => a).RemapSound := by
    (repeat' split)
    · exact ha.closeFetch
    · exact ha
    · exact ha
  have reads {a : State} (ha : a.RemapSound) : (match a.rp.host with
      | some r =>
        if r.loc.dev = d ∧ r.phase ≠ ReadPhase.transfer then a.closeHostRead.complete (some .deviceUnavailable) 0 else a
      | none => a).RemapSound := by
    (repeat' split)
    · exact ha.closeHostRead.of_frame
    · exact ha
    · exact ha
  exact reads (fetches h.of_frame)

theorem State.RemapSound.requestFetch (h : s.RemapSound) {loc : Loc} {positions : List Nat} :
    (s.requestFetch loc positions).RemapSound :=
  State.RemapSound.of_frame (s := (s.dropRefill (fun _ => true)).closeFetch) (State.RemapSound.closeFetch h.of_frame)
    (by simp [State.requestFetch]) (by simp [State.requestFetch]) (by simp [State.requestFetch])

theorem State.RemapSound.readArrives (h : s.RemapSound) {loc : Loc} {positions : List Nat} :
    (s.readArrives loc positions).RemapSound := by
  unfold State.readArrives
  (repeat' split)
  · exact h.of_frame
  · exact h.of_frame
  · exact h.of_frame
  · exact h.requestFetch

/-! ### Programs running for the engine (R51 to R61) -/

theorem State.RemapSound.endByPersist (h : s.RemapSound) {c : Ctx} (hc : s.ctx d = some c) : (s.endByPersist d c).RemapSound := by
  have beside : s.SoundBeside d := h.beside (h.left hc)
  unfold State.endByPersist
  dsimp only
  (repeat' split)
  · exact beside.loseContext
  · exact State.SoundBeside.setCtx_none beside.of_frame
  · exact (State.SoundBeside.setCtx_none (s := (s.freeWhere (inSet d c.entrySet)).count .programsCompleted 1)
      beside.of_frame).of_frame

theorem State.RemapSound.endContext (h : s.RemapSound) (ht : s.endContext d = some t) : t.RemapSound := by
  unfold State.endContext at ht
  split at ht
  · next c n hc hn =>
    (repeat' split at ht) <;> cases ht
    exact h.endByPersist hc
  · exact nomatch ht

theorem State.RemapSound.endByFault (h : s.RemapSound) (ht : s.endByFault d = some t) : t.RemapSound := by
  unfold State.endByFault at ht
  split at ht
  · next c hc =>
    split at ht <;> cases ht
    exact (h.beside (h.left hc)).loseContext
  · exact nomatch ht

/-- A gather opens a context for a page that is not FAILED (R48, R49). -/
theorem State.RemapSound.gather (h : s.RemapSound) (ht : s.gather d = some t) : t.RemapSound := by
  unfold State.gather at ht
  split at ht
  · exact nomatch ht
  · next e he =>
    have left : s.sc.state ≠ .boot := by
      unfold State.gatherable at he
      split at he
      · next due =>
        obtain ⟨-, -, -, state⟩ := due
        rcases state with state | state | state <;> simp [state]
      · exact nomatch he
    dsimp only at ht
    split at ht <;> cases ht
    · exact h.of_frame
    · next kept =>
      refine State.RemapSound.of_frame (s := (s.gatherPage d e.loc.page).setCtx d (some (newCtx e.loc.page
        (s.ru.physical d e.loc.page) .drain .programming (gatheredSet s.pwb.entries d e.loc.page)))) ?_
      refine State.SoundBeside.setCtx_some (State.SoundBeside.of_frame (h.beside left)) (.of_kept nofun ?_)
      simpa [newCtx] using kept

/-- A batch program passes: its context ends (R53). -/
theorem State.SoundBeside.batchPasses {c : Ctx} (h : s.SoundBeside d) : (s.batchPasses d c).RemapSound :=
  State.SoundBeside.setCtx_none h.of_frame

theorem State.RemapSound.programStarts (h : s.RemapSound) : (s.programStarts d).RemapSound := by
  unfold State.programStarts
  split
  · exact h
  · next c hc =>
    dsimp only
    split
    · exact h.setCtx_some hc id
    · exact h.setCtx_some hc id

theorem State.RemapSound.programCompletes (h : s.RemapSound) {pass : Bool} : (s.programCompletes d pass).RemapSound := by
  unfold State.programCompletes
  split
  · exact h
  · next c hc =>
    have sound := h.soundOn hc
    have beside : s.SoundBeside d := h.beside (h.left hc)
    have batch (working : c.working) : (let s := s.giveUpSuspend d c
        if pass then s.batchPasses d c else (s.invalidate d c.home).batchFails d c).RemapSound := by
      dsimp only
      split
      · exact State.SoundBeside.batchPasses beside.of_frame
      · exact State.SoundBeside.batchFails beside.of_frame (by simpa using sound) (by simpa using sound.working working)
    split
    · next hp => exact batch (Ctx.working_of_phase (by simp [hp]) (by simp [hp]))
    · next hp => exact batch (Ctx.working_of_phase (by simp [hp]) (by simp [hp]))
    · next hp =>
      have kept := sound.working (Ctx.working_of_phase (by simp [hp]) (by simp [hp]))
      split
      · next p candidate =>
        split
        · exact beside.sparePasses (sound.candidate p candidate) kept
        · exact beside.spareFails (sound.candidate p candidate) kept
      · exact h
    · exact h

theorem State.RemapSound.deviceSuspends (h : s.RemapSound) : (s.deviceSuspends d).RemapSound := by
  unfold State.deviceSuspends
  split
  · exact h
  · next c hc =>
    dsimp only
    split
    · (repeat' split)
      · exact (State.RemapSound.setCtx_some (s := s.withdraw (isSuspendOf d)) (x := { c with
          suspendStep := some .held, ackTime := none }) h.of_frame hc id).of_frame
      · exact (State.RemapSound.setCtx_some (s := s.withdraw (isSuspendOf d)) (x := { c with
          suspendStep := some .resuming, ackTime := none }) h.of_frame hc id).of_frame
      · exact h.of_frame
    · next hp =>
      split
      · exact (h.setCtx_some hc (x := { c with phase := .suspended, suspendStep := some .resuming, ackTime := none })
          (fun _ => Ctx.working_of_phase (by simp [hp]) (by simp [hp]))).of_frame
      · exact h.of_frame
    · exact h.of_frame
    · exact h

theorem State.RemapSound.suspendSent (h : s.RemapSound) : (s.suspendSent d).RemapSound := by
  unfold State.suspendSent
  split
  · exact h
  · next c hc =>
    split
    · exact h.setCtx_some hc id
    · exact h.setCtx_some hc id

theorem State.RemapSound.engineResumed (h : s.RemapSound) : (s.engineResumed d).RemapSound := by
  unfold State.engineResumed
  split
  · exact h
  · next c hc =>
    split
    · next hp => exact h.setCtx_some hc (fun _ => Ctx.working_of_phase (by simp [hp.1]) (by simp [hp.1]))
    · exact h

theorem State.RemapSound.readUnderSuspendEnds (h : s.RemapSound) : (s.readUnderSuspendEnds d).RemapSound := by
  unfold State.readUnderSuspendEnds
  split
  · exact h
  · next c hc =>
    split
    · exact (h.setCtx_some hc (x := { c with suspendStep := some .resuming }) id).of_frame
    · exact h

theorem State.RemapSound.engineResetDone (h : s.RemapSound) : (s.engineResetDone d).RemapSound := by
  unfold State.engineResetDone
  split
  · exact h
  · next c hc =>
    split
    · next hp =>
      have sound := h.soundOn hc
      have beside : s.SoundBeside d := h.beside (h.left hc)
      have kept := sound.working (Ctx.working_of_phase (by simp [hp]) (by simp [hp]))
      split
      · next p candidate => exact beside.spareFails (sound.candidate p candidate) kept
      · exact beside.batchFails sound kept
    · exact h

theorem State.RemapSound.ackExpires (h : s.RemapSound) : (s.ackExpires d).RemapSound := by
  unfold State.ackExpires
  split
  · exact h
  · next c hc =>
    split
    · next hp =>
      exact (h.setCtx_some hc (x := { c with phase := .programming, suspendStep := none, ackTime := none })
        (fun _ => Ctx.working_of_phase (by simp [hp.1]) (by simp [hp.1]))).of_frame
    · exact h

theorem State.programTimed_working {c : Ctx} (hc : s.ctx d = some c) (ht : s.programTimed d = true) : c.working :=
  Ctx.working_of_phase (State.programTimed_running hc ht) (by intro hp; simp [State.programTimed, hc, hp] at ht)

theorem State.RemapSound.programExpires (h : s.RemapSound) : (s.programExpires d).RemapSound := by
  unfold State.programExpires
  split
  · exact h
  · next c hc =>
    split
    · next ht =>
      have expired : Ctx.SoundOn { c with
          phase := .resetting, started := false, suspendStep := none, ackTime := none
          programTime := Config.programLimit } s.ru d :=
        (h.soundOn hc).of_same (fun _ => State.programTimed_working hc ht)
      have posted : (((s.giveUpSuspend d c).invalidate d c.home).postFault .programTimeout (some d) (some c.home)
          none).SoundBeside d := State.SoundBeside.of_frame (h.beside (h.left hc))
      exact (posted.setCtx_some (by simpa using expired)).of_frame
    · exact h

theorem State.RemapSound.retireReadReturned (h : s.RemapSound) {bytes : List Byte} : (s.retireReadReturned d bytes).RemapSound := by
  unfold State.retireReadReturned
  split
  · exact h
  · next c hc =>
    split
    · next hp =>
      have sound := h.soundOn hc
      have kept := sound.working (Ctx.working_of_phase (by simp [hp]) (by simp [hp]))
      exact (h.beside (h.left hc)).retireProgram (by exact .of_kept sound.candidate kept) (by exact kept)
    · exact h

/-! ### Stopping and resumption (R65 to R67) -/

theorem State.RemapSound.setStopping (h : s.RemapSound) {b : Bool} :
    (s.setDe (s.de.set d { s.de.get d with stopping := b })).RemapSound := by
  refine h.of_ctx rfl rfl rfl (fun e => ?_) id
  by_cases own : e = d
  · exact own ▸ s.setStopping_ctx d b
  · simp [State.ctx, PerDev.get_set_other _ own]

theorem State.RemapSound.stopEngine (h : s.RemapSound) : (s.stopEngine d).RemapSound := by
  have told := h.setStopping (d := d) (b := true)
  unfold State.stopEngine
  dsimp only
  split
  · exact told
  · next c hc =>
    have here (running : c.phase ≠ .stopped) := (told.beside (told.left hc)).setCtx_some ((told.soundOn hc).stop running)
    split
    · next hp =>
      split
      · exact (here (by simp [hp])).of_frame
      · exact told
    · next hp =>
      split
      · exact (here (by simp [hp])).of_frame
      · exact told
    · next hp =>
      split
      · exact (here (by simp [hp])).of_frame
      · exact told
    · next hp => exact here (by simp [hp])
    · exact told

/-- A context takes up the phase it had before the stop. -/
theorem Ctx.SoundOn.resume {c : Ctx} {u : RemapUnit} (h : c.SoundOn u d) (stopped : c.phase = .stopped) :
    Ctx.SoundOn { c with phase := c.before.getD .stopped, before := none } u d :=
  h.of_same fun w => by
    refine ⟨by simp [stopped], fun ⟨_, before⟩ => w.1 ?_⟩
    simp [before]

theorem State.RemapSound.resumeEngine (h : s.RemapSound) : (s.resumeEngine d).RemapSound := by
  have told := h.setStopping (d := d) (b := false)
  unfold State.resumeEngine
  dsimp only
  split
  · exact told
  · next c hc =>
    have beside := told.beside (d := d) (told.left hc)
    have sound := told.soundOn hc
    split
    · next stopped =>
      have resumed := sound.resume stopped
      have kept (waits : c.before ≠ some .awaitPersist) := sound.working ⟨by simp [stopped], fun h => waits h.2⟩
      split
      · next hb => exact beside.memoryStep (by exact .of_kept sound.candidate (kept (by simp [hb]))) (by simp [hb])
      · next hb => exact beside.retireRead resumed (by exact kept (by simp [hb]))
      · next hb =>
        split
        · exact beside.retireProgram resumed (by exact kept (by simp [hb]))
        · exact beside.retireRead resumed (by exact kept (by simp [hb]))
      · unfold State.awaitAgain
        split
        · exact beside.loseContext
        · exact beside.setCtx_some resumed
      · exact beside.setCtx_some resumed
    · exact told

/-- RETIRE_PAGE of a page that is not FAILED, with the part out of BOOT (R99, R100). -/
theorem State.RemapSound.retireOnRequest (h : s.RemapSound) {page : Nat} (left : s.sc.state ≠ .boot)
    (kept : s.ru.isFailed d page = false) : (s.retireOnRequest d page).RemapSound :=
  State.SoundBeside.retireRead (State.SoundBeside.of_frame (h.beside left)) (by exact .of_kept nofun (by exact kept)) (by exact kept)

end

end Sys2Proof.Machine
end

section
/-! The remap unit in order: the load, the state controller, the metadata unit and the memory port keep it so, and so does every
step (R84 to R87, R103). -/

namespace Sys2Proof.Machine

/- One theorem after another: waiting ones would each hold a thread. -/
set_option Elab.async false

/-! ### The table that a load takes (R103, R141) -/

theorem placeOf_inRange {b : List Byte} {e : RemapEntry} (h : placeOf b = .entry e) : e.inRange = true := by
  unfold placeOf at h
  dsimp only at h
  split at h
  · exact nomatch h
  · split at h
    · cases h
      assumption
    · exact nomatch h
  · split at h
    · cases h
      assumption
    · exact nomatch h
  · split at h
    · cases h
      assumption
    · exact nomatch h
  · exact nomatch h

theorem mem_of_entriesOf {ps : List Place} {l : List RemapEntry} (h : entriesOf ps = some l) :
    ∀ e ∈ l, Place.entry e ∈ ps := by
  induction ps generalizing l with
  | nil =>
    cases h
    exact nofun
  | cons p ps ih =>
    cases p with
    | bad => exact nomatch h
    | empty =>
      unfold entriesOf at h
      split at h <;> cases h
      exact nofun
    | entry x =>
      obtain ⟨rest, hrest, rfl⟩ := Option.map_eq_some_iff.1 h
      intro e he
      rcases List.mem_cons.1 he with rfl | he
      · exact List.mem_cons_self
      · exact List.mem_cons_of_mem _ (ih hrest e he)

/-- A table read from a slot has passed the checks of R141. -/
theorem remapOfSlot_checked {bytes : List Byte} {table : List RemapEntry} (h : remapOfSlot bytes = some table) :
    remapTableValid table = true ∧ ∀ e ∈ table, e.inRange = true := by
  unfold remapOfSlot at h
  split at h
  · unfold remapOfBody at h
    split at h
    · next l hl =>
      split at h <;> cases h
      next valid =>
      refine ⟨valid, fun e he => ?_⟩
      obtain ⟨i, -, hi⟩ := List.mem_map.1 (mem_of_entriesOf hl e he)
      exact placeOf_inRange hi
    · exact nomatch h
  · exact nomatch h

theorem RemapEntry.spareOf_eq_some_iff {d : Dev} {e : RemapEntry} {p : Nat} :
    e.spareOf d = some p ↔ e.sparePage = some (d, p) := by
  cases e <;> simp [RemapEntry.spareOf, RemapEntry.sparePage]

theorem sparesOf_nodup {table : List RemapEntry} (h : (table.filterMap RemapEntry.sparePage).Nodup) (d : Dev) :
    (table.filterMap (RemapEntry.spareOf d)).Nodup := by
  have part : table.filterMap (RemapEntry.spareOf d) =
      (table.filterMap RemapEntry.sparePage).filterMap (fun x => if x.1 = d then some x.2 else none) := by
    rw [List.filterMap_filterMap]
    refine List.filterMap_congr fun e _ => ?_
    cases e <;> rfl
  rw [part]
  refine h.filterMap ?_
  rintro ⟨x, p⟩ ⟨y, q⟩ r hp hq
  simp only [Option.mem_def, Option.ite_none_right_eq_some, Option.some.injEq] at hp hq
  exact Prod.ext (hp.1.trans hq.1.symm) (hp.2.trans hq.2.symm)

theorem mem_buildFree {table : List RemapEntry} {d : Dev} {p : Nat} :
    p ∈ buildFree table d ↔ isSparePage d p = true ∧ p ∉ table.filterMap (RemapEntry.spareOf d) := by
  simp [buildFree, isSparePage, List.mem_range'_1]

theorem buildFree_nodup (table : List RemapEntry) (d : Dev) : (buildFree table d).Nodup :=
  List.Nodup.filter _ List.nodup_range'

/-- A loaded table with the free spares built from it: a checked one, or none (R103). -/
theorem RemapUnit.Sound.of_load {u : RemapUnit} (valid : remapTableValid u.table = true)
    (pages : ∀ e ∈ u.table, e.inRange = true) (free : u.free = ⟨buildFree u.table .d0, buildFree u.table .d1⟩)
    (hold : ∀ d, u.hold.get d = none) : u.Sound := by
  simp only [remapTableValid, Bool.and_eq_true, decide_eq_true_eq] at valid
  obtain ⟨⟨homes, spares⟩, failed⟩ := valid
  refine ⟨homes, failed, fun d => ?_⟩
  have built : u.sparesHeld d = u.table.filterMap (RemapEntry.spareOf d) ++ buildFree u.table d := by
    rw [RemapUnit.sparesHeld, hold, free]
    cases d <;> simp [PerDev.get]
  rw [built]
  refine ⟨List.nodup_append.2 ⟨sparesOf_nodup spares d, buildFree_nodup u.table d, ?_⟩, fun p hp => ?_⟩
  · rintro p named _ unnamed rfl
    exact (mem_buildFree.1 unnamed).2 named
  · rcases List.mem_append.1 hp with named | unnamed
    · obtain ⟨e, he, names⟩ := List.mem_filterMap.1 named
      have page := pages e he
      cases e <;> simp_all [RemapEntry.spareOf, RemapEntry.inRange]
    · exact (mem_buildFree.1 unnamed).1

section
variable {s t : State} {d : Dev}

/-- In BOOT no context stands, and no candidate. -/
theorem State.RemapSound.of_load (h : s.RemapSound) (boot : s.sc.state = .boot) (de : t.de = s.de)
    (hold : t.ru.hold = s.ru.hold) (valid : remapTableValid t.ru.table = true)
    (pages : ∀ e ∈ t.ru.table, e.inRange = true)
    (free : t.ru.free = ⟨buildFree t.ru.table .d0, buildFree t.ru.table .d1⟩) : t.RemapSound := by
  have idle (d : Dev) : t.ctx d = none := (State.ctx_of_de de d).trans (h.boot boot d).1
  have empty (d : Dev) : t.ru.hold.get d = none := (congrArg (PerDev.get · d) hold).trans (h.boot boot d).2
  refine t.remapSound_iff.2 ⟨.of_load valid pages free empty, fun d c hc => ?_, fun _ d => ⟨idle d, empty d⟩⟩
  rw [idle] at hc
  exact nomatch hc

theorem State.RemapSound.loadRemap (h : s.RemapSound) (boot : s.sc.state = .boot) {a b : List Byte} :
    (s.loadRemap a b).RemapSound := by
  unfold State.loadRemap
  split
  · next hc =>
    obtain ⟨valid, pages⟩ := (chooseSlot_mem hc).elim remapOfSlot_checked remapOfSlot_checked
    exact h.of_load boot rfl rfl valid pages rfl
  · exact State.RemapSound.of_frame (h.of_load (t := s.setRu { s.ru with
      table := [], free := ⟨buildFree [] .d0, buildFree [] .d1⟩ }) boot rfl rfl rfl nofun rfl)

theorem State.RemapSound.loadDone (h : s.RemapSound) (boot : s.sc.state = .boot) {pages : List (List Byte)} :
    (s.loadDone pages).RemapSound := by
  have loaded (a b x y : List Byte) : ((s.loadConfig a b).loadRemap x y).RemapSound :=
    State.RemapSound.loadRemap h.of_frame (by simpa using boot)
  exact (loaded ((pages[0]?).getD []) ((pages[1]?).getD []) ((pages[2]?).getD [] ++ (pages[3]?).getD [])
    ((pages[4]?).getD [] ++ (pages[5]?).getD [])).of_frame (by simp [State.loadDone]) (by simp)
    (by simp [State.loadDone])

/-! ### The operating states (R155 to R173) -/

@[simp] theorem State.setHeader_state (v : HeaderView) : (s.setHeader v).sc.state = s.sc.state := rfl
@[simp] theorem State.setPfail_state (level : Bool) : (s.setPfail level).sc.state = s.sc.state := rfl

theorem State.RemapSound.enterRun (h : s.RemapSound) : s.enterRun.RemapSound :=
  have entered : (s.setSc { s.sc with state := .run, step := none, returnWrite := false, plan := none }).RemapSound :=
    h.of_frame
  entered.resumeEngine.resumeEngine

theorem State.RemapSound.halt (h : s.RemapSound) : s.halt.RemapSound := h.of_frame (boot := by simp [State.halt])

theorem State.RemapSound.cleanFailed (h : s.RemapSound) : s.cleanFailed.RemapSound :=
  State.RemapSound.halt h.of_frame

theorem State.RemapSound.leaveRun (h : s.RemapSound) : s.leaveRun.RemapSound := State.RemapSound.leaveRunReads h.of_frame

theorem State.RemapSound.enterHoldup (h : s.RemapSound) : s.enterHoldup.RemapSound := by
  have entered : (s.setSc { s.sc with state := .holdup, step := none, returnWrite := false, plan := none }).RemapSound :=
    h.of_frame
  unfold State.enterHoldup
  exact (State.RemapSound.stopEngine (d := .d1) (State.RemapSound.stopEngine (d := .d0) entered.leaveRun)).of_frame

theorem State.RemapSound.enterRestarting (h : s.RemapSound) : s.enterRestarting.RemapSound :=
  State.RemapSound.leaveRun (h.of_frame)

theorem State.RemapSound.enterStopped (h : s.RemapSound) : s.enterStopped.RemapSound := by
  have entered : (s.setSc { s.sc with state := .stopped, step := none }).RemapSound := h.of_frame
  unfold State.enterStopped
  dsimp only
  exact (State.RemapSound.stopEngine (d := .d1) (State.RemapSound.stopEngine (d := .d0) entered)).of_frame

theorem State.RemapSound.beginReturn (h : s.RemapSound) : s.beginReturn.RemapSound := by
  unfold State.beginReturn
  split
  · exact h.enterRun
  · exact h.of_frame

theorem State.RemapSound.enterDumped (h : s.RemapSound) : s.enterDumped.RemapSound := by
  have entered : (s.setSc { s.sc with state := .dumped, step := none, plan := none, returnWrite := false }).RemapSound :=
    h.of_frame
  unfold State.enterDumped
  dsimp only
  split
  · exact entered
  · exact entered.beginReturn

theorem State.RemapSound.holdupEnds (h : s.RemapSound) : s.holdupEnds.RemapSound := by
  unfold State.holdupEnds
  dsimp only
  (repeat' split)
  · exact h.enterDumped
  · exact h.of_frame
  · have lost : (s.declareLost (fun _ => true)).RemapSound := h.of_frame
    exact State.RemapSound.enterDumped ((lost.setCtx_none (d := .d0)).setCtx_none (d := .d1)).of_frame

theorem State.RemapSound.writeDone (h : s.RemapSound) {w : ScWrite} : (s.writeDone w).RemapSound := by
  unfold State.writeDone
  split
  · exact State.RemapSound.enterRun h.of_frame
  · exact State.RemapSound.enterRun h.of_frame
  · split
    · split
      · exact h.of_frame (boot := by simp [State.dumpNext])
      · exact h.of_frame (boot := by simp [State.dumpNext])
    · exact State.RemapSound.enterDumped h.of_frame
  · dsimp only
    split
    · exact State.RemapSound.enterHoldup h.of_frame
    · exact State.RemapSound.enterRun h.of_frame
  · exact h

theorem State.RemapSound.writeFailed (h : s.RemapSound) {w : ScWrite} : (s.writeFailed w).RemapSound := by
  unfold State.writeFailed
  split
  · exact h.cleanFailed
  · exact h.cleanFailed
  · dsimp only
    split
    · exact State.RemapSound.enterDumped h.of_frame
    · exact State.RemapSound.enterDumped h.of_frame
  · exact h.cleanFailed
  · exact h

theorem State.RemapSound.bootCleanWrite (h : s.RemapSound) : s.bootCleanWrite.RemapSound :=
  h.of_frame (boot := by simp [State.bootCleanWrite])

theorem State.RemapSound.enterReplay (h : s.RemapSound) {rs : List DumpRecord} : (s.enterReplay rs).RemapSound :=
  h.of_frame (boot := by simp [State.enterReplay])

theorem State.RemapSound.headerReported (h : s.RemapSound) {r : HeaderReport} : (s.headerReported r).RemapSound := by
  cases r with
  | clean => exact State.RemapSound.enterRun h.of_frame
  | unrecognised => exact State.RemapSound.bootCleanWrite h.of_frame
  | openDump => exact State.RemapSound.bootCleanWrite h.of_frame
  | validBad => exact State.RemapSound.bootCleanWrite h.of_frame
  | validGood rs => exact State.RemapSound.enterReplay h.of_frame

theorem State.RemapSound.probeReported (h : s.RemapSound) : s.probeReported.RemapSound := by
  unfold State.probeReported
  dsimp only
  split
  · exact h.of_frame
  · exact State.RemapSound.halt h.of_frame

/-- After cold reset the unit holds nothing, and no context stands. -/
theorem State.remapSound_of_reset {s : State} (ru : s.ru = RemapUnit.reset) (de : s.de = ⟨Engine.reset, Engine.reset⟩) :
    s.RemapSound :=
  reset_remapSound.of_frame ru de (fun _ => rfl)

theorem State.RemapSound.startProbe (h : s.RemapSound) : s.startProbe.RemapSound :=
  h.of_frame (boot := by simp [State.startProbe])

theorem State.RemapSound.bootStarts (h : s.RemapSound) (ht : s.bootStarts = some t) : t.RemapSound := by
  unfold State.bootStarts at ht
  split at ht
  · cases ht
    have told : (s.setSc { s.sc with pfail := s.pins.pfail }).RemapSound := h.of_frame
    dsimp only
    split
    · exact told.enterStopped
    · exact told.startProbe
  · exact nomatch ht

/-! ### The metadata unit (R145 to R153) -/

theorem State.RemapSound.raiseFault (h : s.RemapSound) {k : Kind} : (s.raiseFault k).RemapSound := by
  have flagged : (s.flagFault k).RemapSound := h.of_frame rfl rfl id
  have ended : ((s.flagFault k).endPersistOf k).RemapSound := by
    unfold State.endPersistOf
    (repeat' split)
    · exact flagged.of_frame
    · exact flagged
    · exact flagged
  have told : (((s.flagFault k).endPersistOf k).tellDecoder k).RemapSound := by
    unfold State.tellDecoder
    split
    · exact ended.of_frame
    · exact ended
  rw [s.raiseFault_eq k]
  unfold State.giveUpRestart
  split
  · exact told.enterRun
  · exact told

theorem State.RemapSound.persistDone (h : s.RemapSound) {p : Persist} : (s.persistDone p).RemapSound := by
  unfold State.persistDone
  dsimp only
  split
  · exact h.of_ctx rfl rfl rfl (fun _ => rfl) id
  · exact h.of_frame

theorem State.RemapSound.attemptFails (h : s.RemapSound) {p : Persist} : (s.attemptFails p).RemapSound := by
  unfold State.attemptFails
  dsimp only
  (repeat' split)
  · exact h.of_frame
  · exact State.RemapSound.raiseFault h.of_frame
  · exact h.of_frame

theorem State.RemapSound.takeWrite (h : s.RemapSound) (ht : s.takeWrite = some t) : t.RemapSound := by
  unfold State.takeWrite at ht
  split at ht
  · cases ht
    split
    · exact h.of_frame
    · exact State.RemapSound.writeFailed h.of_frame
  · exact nomatch ht

theorem State.RemapSound.muProgramEnds (h : s.RemapSound) {pass : Bool} : (s.muProgramEnds pass).RemapSound := by
  unfold State.muProgramEnds
  dsimp only
  (repeat' split)
  · exact h.persistDone
  · exact h.of_frame
  · exact h.of_frame
  · exact h.attemptFails
  · exact State.RemapSound.writeDone h.of_frame
  · unfold State.writeFails
    split
    · exact h.of_frame
    · exact State.RemapSound.writeFailed h.of_frame
  · exact h

theorem State.RemapSound.muOffline (h : s.RemapSound) : s.muOffline.RemapSound := by
  have faulted := (h.raiseFault (k := .config)).raiseFault (k := .remap)
  unfold State.muOffline
  dsimp only
  (repeat' split)
  · exact State.RemapSound.writeFailed faulted.of_frame
  · exact faulted.of_frame
  · exact faulted

theorem State.RemapSound.muReadEnds (h : s.RemapSound) {bytes : List Byte} : (s.muReadEnds bytes).RemapSound := by
  unfold State.muReadEnds
  split
  · exact h.of_frame
  · next boot =>
    have idle : (s.setOp none).RemapSound := h.of_frame
    split
    · dsimp only
      split
      · exact h.of_frame
      · exact h.loadDone (not_not.1 boot)
    · unfold State.headerRead
      dsimp only
      (repeat' split)
      · exact idle.headerReported
      · exact idle.headerReported
      · exact idle.of_frame
      · exact idle.headerReported
      · exact idle.headerReported
    · unfold State.recordsRead
      dsimp only
      split
      · exact h.of_frame
      · exact idle.headerReported
    · exact h

/-! ### The memory port (R120 to R138) -/

theorem State.RemapSound.grantTo (h : s.RemapSound) {r : Request} : (s.grantTo r).RemapSound := by
  unfold State.grantTo
  dsimp only
  (repeat' split)
  · exact h.closeHostRead.of_frame
  · exact h.of_frame
  · exact h.closeFetch
  · exact h.of_frame
  · exact h.of_frame
  · exact h.of_frame
  · exact h.of_frame

theorem State.RemapSound.probeNext (h : s.RemapSound) : s.probeNext.RemapSound := by
  unfold State.probeNext
  (repeat' split)
  · exact h.of_frame
  · exact h.of_frame
  · exact h.probeReported
  · exact h

theorem State.RemapSound.probeResetSettled (h : s.RemapSound) {ready : Bool} : (s.probeResetSettled d ready).RemapSound := by
  unfold State.probeResetSettled
  split
  · exact h
  · exact State.RemapSound.probeNext h.of_frame

theorem State.RemapSound.identified (h : s.RemapSound) {answer : BusAnswer} : (s.identified d answer).RemapSound := by
  unfold State.identified
  dsimp only
  (repeat' split)
  · exact h
  · exact h.of_frame
  · exact h.of_frame
  · exact State.RemapSound.probeReported h.of_frame
  · exact h.probeReported

theorem State.RemapSound.programTaken (h : s.RemapSound) {q : Requester} {page : Nat} {b : List (Option Byte)} :
    (s.programTaken q d page b).RemapSound := by
  unfold State.programTaken
  dsimp only
  split
  · exact State.RemapSound.programStarts h.of_frame
  · exact h.of_frame

theorem State.RemapSound.resumeTaken (h : s.RemapSound) : (s.resumeTaken d).RemapSound := by
  unfold State.resumeTaken
  split
  · exact State.RemapSound.engineResumed h.of_frame
  · exact h

theorem State.RemapSound.resetCompletes (h : s.RemapSound) : (s.resetCompletes d).RemapSound := by
  unfold State.resetCompletes
  dsimp only
  split
  · exact State.RemapSound.engineResetDone h.of_frame
  · exact State.RemapSound.muProgramEnds h.of_frame
  · exact State.RemapSound.probeResetSettled h.of_frame
  · exact h.of_frame

theorem State.RemapSound.programReady (h : s.RemapSound) {pass : Bool} : (s.programReady d pass).RemapSound := by
  have ended : ((if pass then s.nvmPass d else s.nvmSpoil d).setDev d (s.dev d).toIdle).RemapSound := by
    split
    · exact h.of_frame
    · exact h.of_frame
  unfold State.programReady
  dsimp only
  split
  · exact ended
  · split
    · exact ended.programCompletes
    · exact ended.muProgramEnds
    · exact ended

theorem State.RemapSound.suspendedReported (h : s.RemapSound) : (s.suspendedReported d).RemapSound := by
  unfold State.suspendedReported
  dsimp only
  (repeat' split)
  · exact h.of_frame
  · exact State.RemapSound.deviceSuspends h.of_frame
  · exact h.of_frame
  · exact h.of_frame

theorem State.RemapSound.statusReturned (h : s.RemapSound) {r : StatusResult} : (s.statusReturned d r).RemapSound := by
  unfold State.statusReturned
  split
  · exact h.programReady
  · exact h.programReady
  · exact h.suspendedReported
  · exact h.of_frame
  · exact h.resetCompletes
  · exact h.resetCompletes
  · exact h.of_frame
  · exact h

theorem State.RemapSound.readReturned (h : s.RemapSound) {x : Transfer} {page line n : Nat} :
    (s.readReturned x page line n).RemapSound := by
  have delivered : (if x.req.requester = .hostRead
      then s.deliverRead (((s.nvm.get x.req.dev).readLines page line n).head?.getD []) else s).RemapSound := by
    split
    · exact h.of_frame
    · exact h
  unfold State.readReturned
  dsimp only
  split
  · exact State.RemapSound.readUnderSuspendEnds delivered.of_frame
  · exact delivered.of_frame

theorem State.RemapSound.transferEnds (h : s.RemapSound) {answer : BusAnswer} : (s.transferEnds answer).RemapSound := by
  unfold State.transferEnds
  split
  · exact h
  · have free : (s.setMp { s.mp with bus := none }).RemapSound := h.of_frame
    dsimp only
    (repeat' split)
    · exact free.retireReadReturned
    · exact free.muReadEnds
    · exact free.readReturned
    · exact free.programTaken
    · exact free.programTaken
    · exact free.statusReturned
    · exact free.suspendSent
    · exact free.resumeTaken
    · exact free.of_frame
    · exact free.identified

theorem State.RemapSound.markOffline (h : s.RemapSound) : (s.markOffline d).RemapSound := by
  have waits {a : State} (ha : a.RemapSound) : (match a.pwb.waiting with
      | some w => if w.loc.dev = d then a.dropPending.complete (some .deviceUnavailable) 0 else a
      | none => a).RemapSound := by
    (repeat' split)
    · exact ha.of_frame
    · exact ha
    · exact ha
  have unit {a : State} (ha : a.RemapSound) : (if d = .d0 then a.muOffline else a).RemapSound := by
    split
    · exact ha.muOffline
    · exact ha
  have gone : (s.setDev d { (s.dev d).toIdle with state := .offline }).RemapSound := h.of_frame
  have read : (((s.setDev d { (s.dev d).toIdle with state := .offline }).readsOffline d).withdraw
      (fun r => r.dev = d)).RemapSound := (gone.readsOffline (d := d)).of_frame
  have lost : ((((s.setDev d { (s.dev d).toIdle with state := .offline }).readsOffline d).withdraw
      (fun r => r.dev = d)).setCtx d none |>.declareLost (isOfDev d)).RemapSound := (read.setCtx_none (d := d)).of_frame
  have posted {a : State} {n : Nat} (ha : a.RemapSound) : (a.postFault .deviceOffline (some d) none (some n)).RemapSound :=
    ha.of_frame
  unfold State.markOffline
  exact unit (posted (waits lost))

theorem State.RemapSound.resetExpires (h : s.RemapSound) : (s.resetExpires d).RemapSound := by
  unfold State.resetExpires
  (repeat' split)
  · exact State.RemapSound.probeResetSettled h.of_frame
  · exact h.markOffline
  · exact h

theorem State.RemapSound.tick (h : s.RemapSound) : s.tick.RemapSound := by
  have ticked (e : Dev) : s.tick.ctx e = (s.ctx e).map (fun c => c.tick (s.programTimed e)) := by cases e <;> rfl
  refine s.tick.remapSound_iff.2 ⟨h.unit, fun e x hx => ?_, fun boot e => ?_⟩
  · rw [ticked] at hx
    obtain ⟨c, hc, rfl⟩ := Option.map_eq_some_iff.1 hx
    exact (h.soundOn hc).of_same id
  · rw [ticked, (h.boot boot e).1]
    exact ⟨rfl, (h.boot boot e).2⟩

/-! ### The host's side and PFAIL -/

theorem State.RemapSound.accessArrives (h : s.RemapSound) {ha : BitVec 22} {hbl hbh hrd hwr : Bool} {hd : Half} :
    (s.accessArrives ha hbl hbh hrd hwr hd).RemapSound := by
  unfold State.accessArrives
  dsimp only
  (repeat' split)
  · exact h
  · exact h.of_frame
  · exact h.of_frame
  · unfold State.decodeAccess
    split
    · exact h.of_frame
    · dsimp only
      split
      · exact h.of_frame
      · unfold State.handOn
        split
        · exact State.RemapSound.readArrives h.of_frame
        · exact h.of_frame

theorem State.RemapSound.stallExpires (h : s.RemapSound) : s.stallExpires.RemapSound := by
  unfold State.stallExpires
  dsimp only
  (repeat' split)
  · exact h
  · exact h
  · exact h.of_frame
  · exact h.of_frame
  · exact State.RemapSound.closeHostRead h.of_frame

theorem State.RemapSound.pfailRises (h : s.RemapSound) : s.pfailRises.RemapSound := by
  have told : (s.setPfail true).RemapSound := h.of_frame
  unfold State.pfailRises
  dsimp only
  split
  · exact told.enterStopped
  · exact told.enterStopped
  · exact told.enterHoldup
  · exact told.enterHoldup
  all_goals exact told

theorem State.RemapSound.pfailFalls (h : s.RemapSound) : s.pfailFalls.RemapSound := by
  have told : (s.setPfail false).RemapSound := h.of_frame
  unfold State.pfailFalls
  dsimp only
  split
  · split
    · exact told
    · exact told.beginReturn
  all_goals exact told

end

end Sys2Proof.Machine
end

section
/-! The remap unit in order: the steps of the same event, the requests of the management port, and every step (R84 to R87, R99,
R103). -/

namespace Sys2Proof.Machine

/- One theorem after another: waiting ones would each hold a thread. -/
set_option Elab.async false

section
variable {s t : State}

/-! ### The steps of the same event -/

theorem State.remapSound_of_due (hd : Due s t) (h : s.RemapSound) : t.RemapSound := by
  cases hd with
  | bootStarts ht => exact h.bootStarts ht
  | fillPending ht =>
    obtain ⟨-, -, -, -, de, ru, -, -, sc, -⟩ := State.fillPending_frame ht
    exact h.of_frame ru de (by simp [sc])
  | completeHead ht =>
    obtain ⟨-, -, -, -, -, -, de, ru, -, -, sc, -⟩ := State.completeHead_frame ht
    exact h.of_frame ru de (by simp [sc])
  | completeWait ht =>
    obtain ⟨-, -, -, -, -, de, ru, -, -, sc, -⟩ := State.completeWait_frame ht
    exact h.of_frame ru de (by simp [sc])
  | swap ht =>
    obtain ⟨-, -, -, -, -, -, de, ru, -, sc, -⟩ := State.swap_frame ht
    exact h.of_frame ru de (by simp [sc])
  | endContext d ht => exact h.endContext ht
  | endByFault d ht => exact h.endByFault ht
  | holdupEnd ht =>
    unfold State.holdupEnd at ht
    split at ht <;> cases ht
    exact h.holdupEnds
  | stoppedReset ht =>
    unfold State.stoppedReset at ht
    split at ht <;> cases ht
    exact State.remapSound_of_reset rfl rfl
  | replayEnd ht =>
    obtain ⟨-, -, -, -, -, -, -, de, ru, -, sc, -⟩ := State.replayEnd_frame ht
    exact h.of_frame ru de (by simp [sc])
  | restartEnd ht =>
    unfold State.restartEnd at ht
    split at ht <;> cases ht
    exact State.remapSound_of_reset rfl rfl
  | gather d ht => exact h.gather ht
  | takeWrite ht => exact h.takeWrite ht
  | startPersist ht =>
    unfold State.startPersist at ht
    split at ht <;> cases ht
    exact h.of_frame
  | hostAsks ht => exact h.hostAsks ht
  | fetchAsks ht => exact h.fetchAsks ht
  | grant ht =>
    unfold State.grant at ht
    split at ht
    · obtain ⟨r, -, rfl⟩ := Option.map_eq_some_iff.1 ht
      exact h.grantTo
    · exact nomatch ht

theorem State.RemapSound.settle (h : s.RemapSound) : s.settle.RemapSound :=
  State.settle_keeps (fun _ _ ht => State.remapSound_of_due (due_of_firstDue ht)) h

theorem State.RemapSound.event {f : State → State} (h : s.RemapSound) (hf : (f s).RemapSound) : (s.event f).RemapSound :=
  State.event_keeps (fun _ _ ht => State.remapSound_of_due (due_of_firstDue ht)) h hf

theorem State.RemapSound.named {f : State → Option State} (h : s.RemapSound) (due : ∀ t, f s = some t → Due s t) :
    (s.named f).RemapSound := by
  refine h.event ?_
  cases hf : f s with
  | none => exact h
  | some t => exact State.remapSound_of_due (due t hf) h

/-! ### The requests of the management port (R180 to R186) -/

theorem State.RemapSound.setMgp (h : s.RemapSound) {m : ManagementPort} : (s.setMgp m).RemapSound := h.of_frame

theorem State.RemapSound.setPins (h : s.RemapSound) {p : Pins} : (s.setPins p).RemapSound := h.of_frame

theorem State.RemapSound.advanceAt (h : s.RemapSound) {i : Byte} : (s.advanceAt i).RemapSound := h.of_frame

theorem State.RemapSound.takeRestart (h : s.RemapSound) : s.takeRestart.RemapSound := by
  unfold State.takeRestart
  split
  · exact State.RemapSound.enterRestarting h.of_frame
  · exact h.of_frame

/-- A RETIRE_PAGE is taken in RUN, of a page that is not FAILED (R99). -/
theorem State.RemapSound.takeRetirePage (h : s.RemapSound) : s.takeRetirePage.RemapSound := by
  unfold State.takeRetirePage
  split
  · exact h.of_frame
  · next run =>
    have left : s.sc.state ≠ .boot := fun boot => run (by simp [boot])
    split
    · exact h.of_frame
    · (repeat' split)
      · exact h.of_frame
      · exact h.of_frame
      · exact h.of_frame
      · exact h.of_frame
      · next kept _ => exact h.retireOnRequest left (Bool.eq_false_iff.2 kept)

theorem State.RemapSound.takeCode (h : s.RemapSound) {code : Byte} : (s.takeCode code).RemapSound := by
  unfold State.takeCode
  split
  · exact h.of_frame
  · exact h.of_frame
  · exact h.takeRestart
  · exact h.takeRetirePage
  · exact h.setMgp
  · exact h.of_frame
  · exact h.setMgp
  · exact h.of_frame
  · exact h.of_frame

theorem State.RemapSound.request (h : s.RemapSound) {code : Byte} {take : State → State}
    (taken : ∀ {s : State}, s.RemapSound → (take s).RemapSound) : (s.request code take).RemapSound := by
  unfold State.request
  dsimp only
  split
  · exact h.of_frame
  · exact taken h.setMgp

theorem State.RemapSound.requestEvent (h : s.RemapSound) {code : Byte} : (s.requestEvent code).RemapSound :=
  h.request fun h => h.takeCode

theorem State.RemapSound.writeMap (h : s.RemapSound) {i : Nat} {b : Byte} : (s.writeMap i b).RemapSound := by
  unfold State.writeMap
  split
  case h_6 => exact h.requestEvent
  case h_8 =>
    split
    · exact h.setMgp
    · exact h
  all_goals exact h.setMgp

theorem State.RemapSound.byteWritten (h : s.RemapSound) {b : Byte} : (s.byteWritten b).RemapSound := by
  unfold State.byteWritten
  split
  · exact h.writeMap.setMgp
  · exact h

/-! ### Every command, and every step -/

theorem State.supplyLost_remapSound (s : State) : s.supplyLost.RemapSound := State.remapSound_of_reset rfl rfl

theorem State.supplyUp_remapSound (s : State) (pfail madr : Bool) : (s.supplyUp pfail madr).RemapSound :=
  State.remapSound_of_reset rfl rfl

theorem State.RemapSound.exec (i : Instr) (he : exec i s = .next t) (h : s.RemapSound) : t.RemapSound := by
  have request {code : Byte} {take : State → State} (taken : ∀ {s : State}, s.RemapSound → (take s).RemapSound) :
      (s.event (fun s => (s.request code take).advanceAt 0x0C)).RemapSound :=
    h.event (h.request taken).advanceAt
  cases i <;> injection he with he <;> subst he
  case hostAccessArrival => exact h.event h.accessArrives
  case pendingAllocationFill => exact h.named fun _ => .fillPending
  case hostStrobeRelease => exact h.event h.of_frame
  case stallLimitExpiry => exact h.event h.stallExpires
  case sealDeadlineExpiry => exact h.event h.of_frame
  case fenceLineRisingEdge => exact h.event h.of_frame
  case markerCompletion => exact h.named fun _ => .completeHead
  case writeThroughCompletion => exact h.named fun _ => .completeWait
  case pdonePulseEnd => exact h.event h.of_frame
  case pdonePulseStart => exact h.event h.of_frame
  case arbiterGrant => exact h.named fun _ => .grant
  case memoryTransferEnd => exact h.event h.transferEnds
  case statusPollDue => exact h.event h.of_frame
  case suspendAckLimitExpiry => exact h.event h.ackExpires
  case programTimeLimitExpiry => exact h.event h.programExpires
  case metadataProgramTimeExpiry => exact h.event h.of_frame
  case resetDeadlineExpiry => exact h.event h.resetExpires
  case drainGather => exact h.named fun _ => .gather _
  case persistDoneContextEnd => exact h.named fun _ => .endContext _
  case persistStart => exact h.named fun _ => .startPersist
  case writeRequestTaken => exact h.named fun _ => .takeWrite
  case pfailAssert =>
    split
    · exact h.event h
    · exact h.setPins.event h.setPins.pfailRises
  case holdupEnd => exact h.named fun _ => .holdupEnd
  case pfailRelease =>
    split
    · exact h.setPins.event h.setPins.pfailFalls
    · exact h.event h
  case stoppedQuietReset => exact h.named fun _ => .stoppedReset
  case resetAssert =>
    (repeat' split)
    · exact h.setPins
    · exact h
    · exact State.remapSound_of_reset rfl rfl
  case resetRelease =>
    (repeat' split)
    · exact h.event h
    · exact h.setPins
    · exact State.RemapSound.settle (State.remapSound_of_reset rfl rfl)
  case powerUp pfail madr =>
    have up := (if s.pins.powered then s.supplyLost else s).supplyUp_remapSound pfail madr
    exact up.event up
  case powerLoss =>
    split
    · exact s.supplyLost_remapSound
    · exact h
  case replayEnd => exact h.named fun _ => .replayEnd
  case restartEnd => exact h.named fun _ => .restartEnd
  case commitSwap => exact h.named fun _ => .swap
  case commit => exact request fun h => h.of_frame
  case fence => exact request fun h => h.of_frame
  case restart => exact request fun h => h.takeRestart
  case retirePage => exact request fun h => h.takeRetirePage
  case popFault => exact request fun h => h.setMgp
  case selectRemap => exact request fun h => h.of_frame
  case clearCounters => exact request fun h => h.setMgp
  case clearStatus => exact request fun h => h.of_frame
  case unknownRequestCode code => exact h.event h.requestEvent.advanceAt
  case eventFlagsWrite => exact h.event h.setMgp.advanceAt
  case eventEnablesWrite => exact h.event h.setMgp.advanceAt
  case remapViewIndexWrite => exact h.event h.setMgp.advanceAt
  case mapByteWrite b => exact h.event h.byteWritten
  case indexSet => exact h.event h.setMgp
  case snapshotCapture ack => exact h.event h.of_frame
  case transactionStart => exact h.event h.setMgp
  case transactionEnd => exact h.event h.setMgp

theorem State.RemapSound.step (h : s.RemapSound) (he : step s = .next t) : t.RemapSound := by
  unfold Machine.step at he
  split at he
  · exact State.RemapSound.exec _ he h.of_frame
  · injection he with he
    subst he
    exact h.event h.tick

end

/-- Settles O16: each operation of the retirement flow keeps the unit and the contexts in order, the load builds the free spares
from a checked table, and the length of the table is bounded by the 64 spares of the two devices and the 8 FAILED entries. -/
theorem remapSoundKept : Obligations.RemapSoundKept := ⟨fun _ _ => State.RemapSound.step, fun _ h => h.unit.table_length_le⟩

end Sys2Proof.Machine
end

section
/-! Records read back: numbers in bytes, the header of a record, and the bodies of both kinds (R141, R189, R190). -/

namespace Sys2Proof.Machine

/- One theorem after another: waiting ones would each hold a thread. -/
set_option Elab.async false

/-! ### Numbers and fields -/

theorem ofLe_append (a b : List Byte) : ofLe (a ++ b) = ofLe a + 256 ^ a.length * ofLe b := by
  induction a with
  | nil => simp [ofLe]
  | cons x a ih =>
    simp only [List.cons_append, ofLe, ih, List.length_cons, pow_succ]
    ring

theorem ofLe_le16 {n : Nat} (small : n < 65536) : ofLe (le16 n) = n := by
  simp only [le16, ofLe, BitVec.toNat_ofNat]
  omega

theorem ofLe_le32 {n : Nat} (small : n < 4294967296) : ofLe (le32 n) = n := by
  simp only [le32, le16, List.cons_append, List.nil_append, ofLe, BitVec.toNat_ofNat]
  omega

theorem field_of_append {bytes a x b : List Byte} {offset len : Nat} (split : bytes = a ++ (x ++ b)) (before : a.length = offset)
    (size : x.length = len) : field bytes offset len = ofLe x := by
  subst split before size
  simp [field]

theorem ofLe_le16_toNat (x : BitVec 16) : BitVec.ofNat 16 (ofLe (le16 x.toNat)) = x := by
  rw [ofLe_le16 x.isLt, BitVec.ofNat_toNat, BitVec.setWidth_eq]

theorem ofLe_byte (x : Byte) : BitVec.ofNat 8 (ofLe [x]) = x := by
  simp [ofLe]

theorem length_flatMap_of_size {α : Type} {write : α → List Byte} {n : Nat} (size : ∀ x, (write x).length = n) (l : List α) :
    (l.flatMap write).length = n * l.length := by
  induction l with
  | nil => rfl
  | cons x l ih =>
    rw [List.flatMap_cons, List.length_append, ih, size, List.length_cons]
    ring

/-- Items written one after the other in `n` bytes each read back one by one. -/
theorem map_chunks {α β : Type} {write : α → List Byte} {read : List Byte → β} {value : α → β} {n : Nat} {l : List α}
    (size : ∀ x, (write x).length = n) (reads : ∀ x ∈ l, ∀ rest, read (write x ++ rest) = value x) (rest : List Byte) :
    (List.range l.length).map (fun i => read ((l.flatMap write ++ rest).drop (n * i))) = l.map value := by
  induction l with
  | nil => rfl
  | cons x l ih =>
    have later (i : Nat) : ((x :: l).flatMap write ++ rest).drop (n * (i + 1)) = (l.flatMap write ++ rest).drop (n * i) := by
      rw [List.flatMap_cons, List.append_assoc, Nat.mul_succ, Nat.add_comm, ← size x, ← List.drop_drop, List.drop_left]
    rw [List.length_cons, List.range_succ_eq_map, List.map_cons, List.map_map, List.map_cons]
    congr 1
    · simpa using reads x List.mem_cons_self (l.flatMap write ++ rest)
    · simpa only [Function.comp_def, Nat.succ_eq_add_one, later] using ih fun y hy => reads y (List.mem_cons_of_mem x hy)

/-! ### The header of a record -/

section
variable (k : Kind) (gen : Word32) (body : List Byte) (n : Nat)

theorem recordGen_recordBytes : recordGen (padTo n (recordBytes k gen body)) = gen := by
  have read : field (padTo n (recordBytes k gen body)) 2 4 = ofLe (le32 gen.toNat) :=
    field_of_append (a := le16 k.code) (by simp only [padTo, recordBytes, List.append_assoc]; rfl) rfl rfl
  rw [recordGen, read, ofLe_le32 gen.isLt, BitVec.ofNat_toNat, BitVec.setWidth_eq]

theorem recordBody_recordBytes (whole : body.length = k.bodyLength) :
    recordBody k (padTo n (recordBytes k gen body)) = some body := by
  obtain ⟨bytes, hb⟩ : ∃ bytes, bytes = padTo n (recordBytes k gen body) := ⟨_, rfl⟩
  obtain ⟨head, hh⟩ : ∃ head, head = le16 k.code ++ le32 gen.toNat ++ le16 k.bodyLength := ⟨_, rfl⟩
  obtain ⟨crc, hc⟩ : ∃ crc, crc = le32 (crc32 (head ++ body)).toNat := ⟨_, rfl⟩
  obtain ⟨pad, hp⟩ : ∃ pad, bytes = head ++ (crc ++ (body ++ pad)) := by
    refine ⟨List.replicate (n - (recordBytes k gen body).length) 0, ?_⟩
    rw [hb, padTo, recordBytes, ← hh, ← hc, List.append_assoc, List.append_assoc]
  have headSize : head.length = 8 := hh ▸ rfl
  have crcSize : crc.length = 4 := hc ▸ rfl
  have kind : field bytes 0 2 = k.code := by
    have read : field bytes 0 2 = ofLe (le16 k.code) :=
      field_of_append (a := []) (by rw [hp, hh, List.append_assoc, List.append_assoc]; rfl) rfl rfl
    exact read.trans (ofLe_le16 (by cases k <;> decide))
  have size : field bytes 6 2 = k.bodyLength := by
    have read : field bytes 6 2 = ofLe (le16 k.bodyLength) :=
      field_of_append (a := le16 k.code ++ le32 gen.toNat) (by rw [hp, hh, List.append_assoc]) rfl rfl
    exact read.trans (ofLe_le16 (by cases k <;> decide))
  have sum : field bytes 8 4 = (crc32 (head ++ body)).toNat := by
    rw [field_of_append hp headSize crcSize, hc]
    exact ofLe_le32 (crc32 (head ++ body)).isLt
  have kept : (bytes.drop 12).take k.bodyLength = body := by
    rw [hp, ← List.append_assoc, List.drop_left' (by simp [headSize, crcSize]), ← whole, List.take_left]
  have first : bytes.take 8 = head := by rw [hp, List.take_left' headSize]
  rw [← hb]
  unfold recordBody
  dsimp only
  rw [if_pos ⟨kind, size⟩, kept, first, if_pos sum]

end

/-! ### The config body -/

theorem WindowRecord.ofBytes_toBytes (w : WindowRecord) (rest : List Byte) : WindowRecord.ofBytes (w.toBytes ++ rest) = w := by
  have fields : WindowRecord.ofBytes (w.toBytes ++ rest) =
      { flags := BitVec.ofNat 8 (ofLe [w.flags]), device := BitVec.ofNat 8 (ofLe [w.device])
        hostBase := BitVec.ofNat 16 (ofLe (le16 w.hostBase.toNat)), size := BitVec.ofNat 16 (ofLe (le16 w.size.toNat))
        memBase := BitVec.ofNat 16 (ofLe (le16 w.memBase.toNat)) } := rfl
  simp only [fields, ofLe_byte, ofLe_le16_toNat]

theorem Params.ofBytes_toBytes (p : Params) : Params.ofBytes p.toBytes = p := by
  have fields : Params.ofBytes p.toBytes =
      { sealDelay := BitVec.ofNat 16 (ofLe (le16 p.sealDelay.toNat)), highWater := BitVec.ofNat 8 (ofLe [p.highWater])
        stallLimit := BitVec.ofNat 8 (ofLe [p.stallLimit]), readAhead := BitVec.ofNat 8 (ofLe [p.readAhead])
        suspendLimit := BitVec.ofNat 8 (ofLe [p.suspendLimit]) } := rfl
  simp only [fields, ofLe_byte, ofLe_le16_toNat]

section
variable {t : Table} (eight : t.windows.length = 8)
include eight

theorem Table.windowBytes_length : (t.windows.flatMap WindowRecord.toBytes).length = 64 := by
  rw [length_flatMap_of_size (n := 8) (write := WindowRecord.toBytes) fun _ => rfl, eight]

theorem Table.toBytes_length : t.toBytes.length = 70 := by
  rw [Table.toBytes, List.length_append, Table.windowBytes_length eight]
  rfl

theorem Table.ofBytes_toBytes : Table.ofBytes t.toBytes = t := by
  have windows : (List.range 8).map (fun i => WindowRecord.ofBytes (t.toBytes.drop (8 * i))) = t.windows := by
    have read := map_chunks (n := 8) (write := WindowRecord.toBytes) (read := WindowRecord.ofBytes) (value := id)
      (l := t.windows) (fun _ => rfl) (fun w _ => w.ofBytes_toBytes) t.params.toBytes
    rwa [List.map_id, eight] at read
  have params : Params.ofBytes (t.toBytes.drop 64) = t.params := by
    rw [Table.toBytes, List.drop_left' (Table.windowBytes_length eight), Params.ofBytes_toBytes]
  rw [Table.ofBytes, windows, params]

end

/-! ### The remap body -/

/-- The bytes of an entry place: an entry's, or those of "none" (R190). -/
def placeBytes : Option RemapEntry → List Byte
  | some e => e.toBytes
  | none => List.replicate 6 0

/-- What an entry place is to read back as. -/
def placeRead : Option RemapEntry → Place
  | some e => .entry e
  | none => .empty

theorem placeBytes_length (x : Option RemapEntry) : (placeBytes x).length = 6 := by
  rcases x with - | (_ | _ | _) <;> rfl

theorem devOfNat_devByte (d : Dev) : devOfNat (ofLe [devByte d]) = some d := by cases d <;> rfl

theorem userPages_le (d : Dev) : Config.userPages d ≤ 8160 := by cases d <;> decide

theorem home_lt_of_isUserPage {d : Dev} {p : Nat} (h : isUserPage d p = true) : p < 65536 := by
  have below : p < Config.userPages d := of_decide_eq_true h
  have := userPages_le d
  omega

theorem spare_lt_of_isSparePage {d : Dev} {p : Nat} (h : isSparePage d p = true) : p < 65536 := by
  simp only [isSparePage, Bool.and_eq_true, decide_eq_true_eq] at h
  have := userPages_le d
  have spares : Config.sparePages = 32 := rfl
  omega

theorem placeOf_toBytes {e : RemapEntry} (page : e.inRange = true) : placeOf e.toBytes = .entry e := by
  cases e with
  | remap d h s =>
    simp only [RemapEntry.inRange, Bool.and_eq_true] at page
    have kind : field (RemapEntry.remap d h s).toBytes 0 1 = 1 := rfl
    have device : field (RemapEntry.remap d h s).toBytes 1 1 = ofLe [devByte d] := rfl
    have home : field (RemapEntry.remap d h s).toBytes 2 2 = h := ofLe_le16 (home_lt_of_isUserPage page.1)
    have spare : field (RemapEntry.remap d h s).toBytes 4 2 = s := ofLe_le16 (spare_lt_of_isSparePage page.2)
    simp [placeOf, kind, device, home, spare, devOfNat_devByte, page]
  | failed d h =>
    have kind : field (RemapEntry.failed d h).toBytes 0 1 = 2 := rfl
    have device : field (RemapEntry.failed d h).toBytes 1 1 = ofLe [devByte d] := rfl
    have home : field (RemapEntry.failed d h).toBytes 2 2 = h := ofLe_le16 (home_lt_of_isUserPage page)
    simp only [RemapEntry.inRange] at page
    simp [placeOf, kind, device, home, devOfNat_devByte, page]
  | retiredSpare d s =>
    have kind : field (RemapEntry.retiredSpare d s).toBytes 0 1 = 3 := rfl
    have device : field (RemapEntry.retiredSpare d s).toBytes 1 1 = ofLe [devByte d] := rfl
    have spare : field (RemapEntry.retiredSpare d s).toBytes 4 2 = s := ofLe_le16 (spare_lt_of_isSparePage page)
    simp only [RemapEntry.inRange] at page
    simp [placeOf, kind, device, spare, devOfNat_devByte, page]

theorem entriesOf_empties (n : Nat) : entriesOf (List.replicate n .empty) = some [] := by
  cases n <;> simp [entriesOf, List.replicate_succ]

theorem entriesOf_entries (l : List RemapEntry) (n : Nat) :
    entriesOf (l.map Place.entry ++ List.replicate n .empty) = some l := by
  induction l with
  | nil => exact entriesOf_empties n
  | cons e l ih => simp [entriesOf, ih]

section
variable {l : List RemapEntry} (few : l.length ≤ 72)
include few

/-- The 72 places of a body: the entries, and "none" after them. -/
theorem remapBody_eq_places : remapBody l = (l.map some ++ List.replicate (72 - l.length) none).flatMap placeBytes := by
  have entries : (l.map some).flatMap placeBytes = l.flatMap RemapEntry.toBytes := by
    rw [List.flatMap_map]
    rfl
  have size : (l.flatMap RemapEntry.toBytes).length = 6 * l.length := by
    rw [← entries, length_flatMap_of_size placeBytes_length, List.length_map]
  have zeros (n : Nat) : (List.replicate n none).flatMap placeBytes = List.replicate (6 * n) 0 := by
    rw [List.flatMap_replicate, placeBytes, List.flatten_replicate_replicate, Nat.mul_comm]
  rw [remapBody, padTo, List.flatMap_append, entries, zeros, size]
  congr 2
  omega

theorem remapBody_length : (remapBody l).length = 432 := by
  rw [remapBody_eq_places few, length_flatMap_of_size placeBytes_length, List.length_append, List.length_map,
    List.length_replicate]
  omega

theorem remapOfBody_remapBody (pages : l.all RemapEntry.inRange = true) (valid : remapTableValid l = true) :
    remapOfBody (remapBody l) = some l := by
  obtain ⟨places, hp⟩ : ∃ places, places = l.map some ++ List.replicate (72 - l.length) none := ⟨_, rfl⟩
  have count : places.length = 72 := by
    simp [hp]
    omega
  have reads (x) (hx : x ∈ places) (rest : List Byte) : placeOf ((placeBytes x ++ rest).take 6) = placeRead x := by
    rw [List.take_left' (placeBytes_length x)]
    cases x with
    | none => rfl
    | some e => exact placeOf_toBytes (List.all_eq_true.1 pages e (by simpa [hp] using hx))
  have read := map_chunks (read := fun b => placeOf (b.take 6)) placeBytes_length reads []
  have values : places.map placeRead = l.map Place.entry ++ List.replicate (72 - l.length) .empty := by
    simp [hp, placeRead, Function.comp_def]
  rw [List.append_nil, count, hp, ← remapBody_eq_places few, ← hp, values] at read
  rw [remapOfBody, read, entriesOf_entries]
  exact if_pos valid

end

/-- Settles O20: the header names the kind, the length and the CRC of the body behind it, and each body is cut back into the items
that it was put together from. -/
theorem recordsReadBack : Obligations.RecordsReadBack := by
  refine ⟨fun t gen eight valid => ⟨?config, recordGen_recordBytes ..⟩,
    fun l gen few pages valid => ⟨?remap, recordGen_recordBytes ..⟩⟩
  case config =>
    rw [configOfSlot, recordBody_recordBytes _ _ _ _ (Table.toBytes_length eight)]
    simp [Table.ofBytes_toBytes eight, valid]
  case remap =>
    rw [remapOfSlot, recordBody_recordBytes _ _ _ _ (remapBody_length few)]
    exact remapOfBody_remapBody few pages valid

end Sys2Proof.Machine
end

section
/-! The load: the pages read, the choice of a record, and what the records and their absence leave (R103, R114, R143, R144). -/

namespace Sys2Proof.Machine

/- One theorem after another: waiting ones would each hold a thread. -/
set_option Elab.async false

/-! ### The choice between two slots (R143) -/

section
variable {α : Type} {genA genB : Word32}

theorem chooseSlot_b {x y : α} (above : isAbove genB genA = true) :
    chooseSlot (some x) (some y) genA genB = some (.b, genB, y) := if_pos above

theorem chooseSlot_a {x y : α} (notAbove : ¬isAbove genB genA = true) :
    chooseSlot (some x) (some y) genA genB = some (.a, genA, x) := if_neg notAbove

theorem chooseSlot_eq_none_iff {a b : Option α} : chooseSlot a b genA genB = none ↔ a = none ∧ b = none := by
  cases a <;> cases b <;> simp [chooseSlot]
  split <;> simp

/-- Either a record is chosen, or both slots are invalid. -/
theorem chooseSlot_some_or_none (a b : Option α) (genA genB : Word32) :
    (∃ slot gen x, chooseSlot a b genA genB = some (slot, gen, x) ∧ ¬(a = none ∧ b = none)) ∨ (a = none ∧ b = none) := by
  rw [← chooseSlot_eq_none_iff (genA := genA) (genB := genB)]
  cases h : chooseSlot a b genA genB with
  | none => exact .inr rfl
  | some x => exact .inl ⟨x.1, x.2.1, x.2.2, rfl, nofun⟩

end

/-! ### The free spares (R103) -/

theorem mem_spares_iff {table : List RemapEntry} {d : Dev} {p : Nat} : p ∈ table.filterMap (RemapEntry.spareOf d) ↔
    (∃ h, RemapEntry.remap d h p ∈ table) ∨ RemapEntry.retiredSpare d p ∈ table := by
  rw [List.mem_filterMap]
  constructor
  · rintro ⟨e, he, names⟩
    cases e <;> simp [RemapEntry.spareOf] at names
    case remap => exact .inl ⟨_, names.1 ▸ names.2 ▸ he⟩
    case retiredSpare => exact .inr (names.1 ▸ names.2 ▸ he)
  · rintro (⟨h, he⟩ | he)
    · exact ⟨_, he, if_pos rfl⟩
    · exact ⟨_, he, if_pos rfl⟩

theorem mem_buildFree_iff {table : List RemapEntry} {d : Dev} {p : Nat} : p ∈ buildFree table d ↔
    isSparePage d p = true ∧ (∀ h, RemapEntry.remap d h p ∉ table) ∧ RemapEntry.retiredSpare d p ∉ table := by
  rw [mem_buildFree, mem_spares_iff, not_or, not_exists]

theorem buildFree_sorted (table : List RemapEntry) (d : Dev) : (buildFree table d).Pairwise (· < ·) :=
  List.Pairwise.filter _ List.pairwise_lt_range'

/-- What a fault record does to the management port rests on the port alone. -/
theorem State.postFault_mgp_congr {s t : State} (mgp : s.mgp = t.mgp) (kind : FaultKind) (dev : Option Dev)
    (page count : Option Nat) : (s.postFault kind dev page count).mgp = (t.postFault kind dev page count).mgp := by
  rw [State.postFault_eq, State.postFault_eq, mgp]
  rfl

section
variable {s : State} {a b : List Byte}

/-! ### The config kind (R115, R118, R143, R144) -/

theorem State.loadConfig_of_chosen {slot : Slot} {gen : Word32} {t : Table}
    (chosen : chooseSlot (configOfSlot a) (configOfSlot b) (recordGen a) (recordGen b) = some (slot, gen, t)) :
    s.loadConfig a b = { s with
      wd := { s.wd with live := t, persist := .done }
      mu := { s.mu with config := { s.mu.config with newestGen := gen, newestSlot := some slot } } } := by
  simp only [State.loadConfig, chosen]
  rfl

theorem State.loadConfig_of_none (invalid : configOfSlot a = none ∧ configOfSlot b = none) :
    s.loadConfig a b = ({ s with
      wd := { s.wd with live := Table.default (s.dev .d1).takes, persist := .pending }
      mu := { s.mu with config := { s.mu.config with newestGen := 0, newestSlot := none, pending := true } } } :
        State).postFault .metaDefaulted (some .d0) (some 8186) none := by
  simp only [State.loadConfig, chooseSlot_eq_none_iff.2 invalid]
  rfl

theorem State.loadConfig_rest : (s.loadConfig a b).wd.change = s.wd.change ∧ (s.loadConfig a b).mu.remap = s.mu.remap := by
  rcases chooseSlot_some_or_none (configOfSlot a) (configOfSlot b) (recordGen a) (recordGen b) with
    ⟨slot, gen, t, chosen, -⟩ | invalid
  · rw [State.loadConfig_of_chosen chosen]
    exact ⟨rfl, rfl⟩
  · rw [State.loadConfig_of_none invalid]
    exact ⟨by simp, by simp⟩

theorem State.loadConfig_mgp {t : State} (mgp : s.mgp = t.mgp) : (s.loadConfig a b).mgp =
    (if configOfSlot a = none ∧ configOfSlot b = none then t.postFault .metaDefaulted (some .d0) (some 8186) none else t).mgp := by
  rcases chooseSlot_some_or_none (configOfSlot a) (configOfSlot b) (recordGen a) (recordGen b) with
    ⟨slot, gen, t, chosen, valid⟩ | invalid
  · rw [State.loadConfig_of_chosen chosen, if_neg valid]
    exact mgp
  · rw [State.loadConfig_of_none invalid, if_pos invalid]
    exact State.postFault_mgp_congr (by exact mgp) ..

/-! ### The remap kind (R103, R143, R144) -/

theorem State.loadRemap_of_chosen {slot : Slot} {gen : Word32} {table : List RemapEntry}
    (chosen : chooseSlot (remapOfSlot a) (remapOfSlot b) (recordGen a) (recordGen b) = some (slot, gen, table)) :
    s.loadRemap a b = { s with
      ru := { s.ru with table := table, free := ⟨buildFree table .d0, buildFree table .d1⟩ }
      mu := { s.mu with remap := { s.mu.remap with newestGen := gen, newestSlot := some slot } } } := by
  simp only [State.loadRemap, chosen]
  rfl

theorem State.loadRemap_of_none (invalid : remapOfSlot a = none ∧ remapOfSlot b = none) :
    s.loadRemap a b = ({ s with
      ru := { s.ru with table := [], free := ⟨buildFree [] .d0, buildFree [] .d1⟩ }
      mu := { s.mu with remap := { s.mu.remap with newestGen := 0, newestSlot := none, pending := true } } } :
        State).postFault .metaDefaulted (some .d0) (some 8188) none := by
  simp only [State.loadRemap, chooseSlot_eq_none_iff.2 invalid]
  rfl

theorem State.loadRemap_rest : (s.loadRemap a b).ru.change = s.ru.change ∧ (s.loadRemap a b).mu.config = s.mu.config ∧
    ∀ d, (s.loadRemap a b).ru.free.get d = buildFree (s.loadRemap a b).ru.table d := by
  rcases chooseSlot_some_or_none (remapOfSlot a) (remapOfSlot b) (recordGen a) (recordGen b) with
    ⟨slot, gen, t, chosen, -⟩ | invalid
  · rw [State.loadRemap_of_chosen chosen]
    exact ⟨rfl, rfl, fun d => by cases d <;> rfl⟩
  · rw [State.loadRemap_of_none invalid]
    exact ⟨by simp, by simp, fun d => by cases d <;> simp [PerDev.get]⟩

theorem State.loadRemap_mgp {t : State} (mgp : s.mgp = t.mgp) : (s.loadRemap a b).mgp =
    (if remapOfSlot a = none ∧ remapOfSlot b = none then t.postFault .metaDefaulted (some .d0) (some 8188) none else t).mgp := by
  rcases chooseSlot_some_or_none (remapOfSlot a) (remapOfSlot b) (recordGen a) (recordGen b) with
    ⟨slot, gen, t, chosen, valid⟩ | invalid
  · rw [State.loadRemap_of_chosen chosen, if_neg valid]
    exact mgp
  · rw [State.loadRemap_of_none invalid, if_pos invalid]
    exact State.postFault_mgp_congr (by exact mgp) ..

end

/-! ### After the last page (R103, R114, R143, R157) -/

/-- The two records or their defaults, and the spares counted: the load but for the staged table and the next read. -/
def State.recordsLoaded (s : State) (configA configB remapA remapB : List Byte) : State :=
  (((s.loadConfig configA configB).loadRemap remapA remapB).sparesLowAtLoad .d0).sparesLowAtLoad .d1

section
variable {s : State} {a b c d e last : List Byte}

/-- The staged table is a copy of the live one, and the dump header is read next (R114, R151). -/
theorem State.headerAsked_eq {v : State} (takes : (v.dev .d0).takes = true) :
    ((((v.setMgp { v.mgp with staged := v.wd.live }).setSc { v.sc with step := some .headerRead }).setOp
      (some .headerRead)).muRequest (.read Config.headerPage 0 2)) = { v with
        mgp := { v.mgp with staged := v.wd.live }
        sc := { v.sc with step := some .headerRead }
        mu := { v.mu with op := some .headerRead }
        mp := { v.mp with reqs := v.mp.reqs ++ [⟨.mu, .d0, .read 8182 0 2⟩] } } :=
  State.muRequest_of_takes (by exact takes) _

theorem State.loadDone_eq (takes : (s.dev .d0).takes = true) {v : State} (hv : v = s.recordsLoaded a b (c ++ d) (e ++ last)) :
    s.loadDone [a, b, c, d, e, last] = { v with
      mgp := { v.mgp with staged := v.wd.live }
      sc := { s.sc with step := some .headerRead }
      mu := { v.mu with op := some .headerRead }
      mp := { s.mp with reqs := s.mp.reqs ++ [⟨.mu, .d0, .read 8182 0 2⟩] } } := by
  have mp : v.mp = s.mp := by simp [hv, State.recordsLoaded]
  have sc : v.sc = s.sc := by simp [hv, State.recordsLoaded]
  have taken : (v.dev .d0).takes = true := by rwa [State.dev, mp]
  have asked : s.loadDone [a, b, c, d, e, last] = (((v.setMgp { v.mgp with staged := v.wd.live }).setSc
      { v.sc with step := some .headerRead }).setOp (some .headerRead)).muRequest (.read Config.headerPage 0 2) := by
    simp [hv, State.loadDone, State.recordsLoaded]
  rw [asked, State.headerAsked_eq taken, mp, sc]

end

section
variable {s : State} {a b x y : List Byte}

theorem State.recordsLoaded_wd : (s.recordsLoaded a b x y).wd = (s.loadConfig a b).wd := by simp [State.recordsLoaded]

theorem State.recordsLoaded_ru : (s.recordsLoaded a b x y).ru = ((s.loadConfig a b).loadRemap x y).ru := by
  simp [State.recordsLoaded]

theorem State.recordsLoaded_config : (s.recordsLoaded a b x y).mu.config = (s.loadConfig a b).mu.config := by
  simp [State.recordsLoaded, State.loadRemap_rest]

theorem State.recordsLoaded_remap :
    (s.recordsLoaded a b x y).mu.remap = ((s.loadConfig a b).loadRemap x y).mu.remap := by
  simp [State.recordsLoaded]

theorem State.recordsLoaded_configChosen {slot : Slot} {gen : Word32} {t : Table}
    (chosen : chooseSlot (configOfSlot a) (configOfSlot b) (recordGen a) (recordGen b) = some (slot, gen, t)) :
    (s.recordsLoaded a b x y).wd.live = t ∧ (s.recordsLoaded a b x y).wd.persist = .done ∧
      (s.recordsLoaded a b x y).mu.config = { s.mu.config with newestGen := gen, newestSlot := some slot } := by
  rw [State.recordsLoaded_wd, State.recordsLoaded_config, State.loadConfig_of_chosen chosen]
  exact ⟨rfl, rfl, rfl⟩

theorem State.recordsLoaded_configNone (invalid : configOfSlot a = none ∧ configOfSlot b = none) :
    (s.recordsLoaded a b x y).wd.live = Table.default (s.dev .d1).takes ∧
      (s.recordsLoaded a b x y).mu.config = { s.mu.config with newestGen := 0, newestSlot := none, pending := true } ∧
      (s.recordsLoaded a b x y).wd.persist = .pending := by
  rw [State.recordsLoaded_wd, State.recordsLoaded_config, State.loadConfig_of_none invalid]
  simp

theorem State.recordsLoaded_remapChosen {slot : Slot} {gen : Word32} {table : List RemapEntry}
    (chosen : chooseSlot (remapOfSlot x) (remapOfSlot y) (recordGen x) (recordGen y) = some (slot, gen, table)) :
    (s.recordsLoaded a b x y).ru.table = table ∧
      (s.recordsLoaded a b x y).mu.remap = { s.mu.remap with newestGen := gen, newestSlot := some slot } := by
  rw [State.recordsLoaded_ru, State.recordsLoaded_remap, State.loadRemap_of_chosen chosen,
    ← (State.loadConfig_rest (s := s) (a := a) (b := b)).2]
  exact ⟨rfl, rfl⟩

theorem State.recordsLoaded_remapNone (invalid : remapOfSlot x = none ∧ remapOfSlot y = none) :
    (s.recordsLoaded a b x y).ru.table = [] ∧ (s.recordsLoaded a b x y).mu.remap =
      { s.mu.remap with newestGen := 0, newestSlot := none, pending := true } := by
  rw [State.recordsLoaded_ru, State.recordsLoaded_remap, State.loadRemap_of_none invalid,
    ← (State.loadConfig_rest (s := s) (a := a) (b := b)).2]
  simp

theorem State.sparesLowAtLoad_mgp {t u v : State} {i : Dev} (mgp : v.mgp = t.mgp) (dev : v.dev i = s.dev i)
    (ru : v.ru = u.ru) : (v.sparesLowAtLoad i).mgp =
      (if (s.dev i).state ≠ .absent ∧ (u.ru.free.get i).length ≤ 4 then
        t.postFault .sparesLow (some i) none (some (u.ru.free.get i).length) else t).mgp := by
  rw [← dev, ← ru]
  unfold State.sparesLowAtLoad
  split
  · rw [if_pos ‹_›]
    exact State.postFault_mgp_congr mgp ..
  · rw [if_neg ‹_›]
    exact mgp

/-- A fault record for each kind defaulted, and for each device low on spares. -/
theorem State.recordsLoaded_mgp {t u : State} (mgp : s.mgp = t.mgp) (dev : ∀ i, s.dev i = t.dev i)
    (ru : u.ru = (s.recordsLoaded a b x y).ru) :
    let config := if configOfSlot a = none ∧ configOfSlot b = none then
      t.postFault .metaDefaulted (some .d0) (some 8186) none else t
    let remap := if remapOfSlot x = none ∧ remapOfSlot y = none then
      config.postFault .metaDefaulted (some .d0) (some 8188) none else config
    let low (v : State) (i : Dev) : State := if (t.dev i).state ≠ .absent ∧ (u.ru.free.get i).length ≤ 4 then
      v.postFault .sparesLow (some i) none (some (u.ru.free.get i).length) else v
    (s.recordsLoaded a b x y).mgp = (low (low remap .d0) .d1).mgp := by
  have records := State.loadRemap_mgp (a := x) (b := y) (State.loadConfig_mgp (a := a) (b := b) mgp)
  have same := ru.trans State.recordsLoaded_ru
  have dev0 : ((s.loadConfig a b).loadRemap x y).dev .d0 = t.dev .d0 := Eq.trans (by simp [State.dev]) (dev .d0)
  have dev1 : (((s.loadConfig a b).loadRemap x y).sparesLowAtLoad .d0).dev .d1 = t.dev .d1 :=
    Eq.trans (by simp [State.dev]) (dev .d1)
  exact State.sparesLowAtLoad_mgp (State.sparesLowAtLoad_mgp records dev0 same.symm) dev1 (by simp [same])

end

/-! ### The end of a page's read -/

theorem loadPages_get {n : Nat} (more : n < 5) : loadPages[n + 1]? = some (8187 + n) := by
  interval_cases n <;> rfl

theorem State.muReadEnds_loadMore {s : State} {pages : List (List Byte)} (boot : s.sc.state = .boot)
    (op : s.mu.op = some (.load pages)) (takes : (s.dev .d0).takes = true) (more : pages.length < 5) (bytes : List Byte) :
    s.muReadEnds bytes = { s with
      mu := { s.mu with op := some (.load (pages ++ [bytes])) }
      mp := { s.mp with reqs := s.mp.reqs ++ [⟨.mu, .d0, .read (8187 + pages.length) 0 16⟩] } } := by
  have next : loadPages[(pages ++ [bytes]).length]? = some (8187 + pages.length) := by
    rw [List.length_append]
    exact loadPages_get more
  simp only [State.muReadEnds, boot, op, next, ne_eq, not_true_eq_false, if_false]
  exact State.muRequest_of_takes (by exact takes) _

theorem State.muReadEnds_loadDone {s : State} {a b c d e : List Byte} (boot : s.sc.state = .boot)
    (op : s.mu.op = some (.load [a, b, c, d, e])) (bytes : List Byte) :
    s.muReadEnds bytes = s.loadDone [a, b, c, d, e, bytes] := by
  simp [State.muReadEnds, boot, op, loadPages]

/-- Settles O50: a page read before the last asks for the next; after the last each kind is loaded from the slot chosen, and the
tables of the state reached are the ones that the two loads leave, which nothing after them changes. -/
theorem loads : Obligations.Loads := by
  refine ⟨fun _ => rfl, ?more, ?done⟩
  case more =>
    intro s t page line n pages answer alive bus req boot op takes more
    refine congrArg _ ((State.event_of_alive alive _).trans (congrArg State.settle ?_))
    rw [State.transferEnds_muRead bus req, State.muReadEnds_loadMore (by exact boot) (by exact op) (by exact takes) more]
    rfl
  case done =>
    intro s t page line n a b c d e answer alive bus req boot op takes
    dsimp only
    generalize hread : (s.nvm.get .d0).readBytes page line n = last
    obtain ⟨v, hv⟩ : ∃ v, v = s.busFree.recordsLoaded a b (c ++ d) (e ++ last) := ⟨_, rfl⟩
    have ended : s.transferEnds answer = { v with
        mgp := { v.mgp with staged := v.wd.live }
        sc := { s.sc with step := some .headerRead }
        mu := { v.mu with op := some .headerRead }
        mp := { s.mp with bus := none, reqs := s.mp.reqs ++ [⟨.mu, .d0, .read 8182 0 2⟩] } } := by
      rw [State.transferEnds_muRead bus req, hread, State.muReadEnds_loadDone (by exact boot) (by exact op),
        State.loadDone_eq (by exact takes) hv]
      rfl
    have configRead {slot gen table} (chosen : chooseSlot (configOfSlot a) (configOfSlot b) (recordGen a) (recordGen b) =
        some (slot, gen, table)) : v.wd.live = table ∧ v.wd.persist = .done ∧
        v.mu.config = { s.mu.config with newestGen := gen, newestSlot := some slot } := by
      rw [hv]
      exact State.recordsLoaded_configChosen chosen
    have configDefaulted (invalid : configOfSlot a = none ∧ configOfSlot b = none) :
        v.wd.live = Table.default (s.dev .d1).takes ∧
          v.mu.config = { s.mu.config with newestGen := 0, newestSlot := none, pending := true } ∧
          v.wd.persist = .pending := by
      rw [hv]
      exact State.recordsLoaded_configNone invalid
    have remapRead {slot gen table} (chosen : chooseSlot (remapOfSlot (c ++ d)) (remapOfSlot (e ++ last))
        (recordGen (c ++ d)) (recordGen (e ++ last)) = some (slot, gen, table)) : v.ru.table = table ∧
        v.mu.remap = { s.mu.remap with newestGen := gen, newestSlot := some slot } := by
      rw [hv]
      exact State.recordsLoaded_remapChosen chosen
    have remapDefaulted (invalid : remapOfSlot (c ++ d) = none ∧ remapOfSlot (e ++ last) = none) : v.ru.table = [] ∧
        v.mu.remap = { s.mu.remap with newestGen := 0, newestSlot := none, pending := true } := by
      rw [hv]
      exact State.recordsLoaded_remapNone invalid
    have free (i : Dev) : v.ru.free.get i = buildFree v.ru.table i := by
      rw [hv, State.recordsLoaded_ru]
      exact State.loadRemap_rest.2.2 i
    refine ⟨_, congrArg _ ((State.event_of_alive alive _).trans (congrArg State.settle ended)), rfl, rfl, rfl, rfl, ?mgp, ?pwb,
      ?nvm, ?wdChange, ?ruChange, ?configs, ?configA, ?configB, ?configNone, ?remaps, ?remapA, ?remapB, ?remapNone, ?member,
      ?sorted⟩
    case mgp =>
      have posted := State.recordsLoaded_mgp (s := s.busFree) (t := s) (u := v) (a := a) (b := b) (x := c ++ d) (y := e ++ last)
        rfl (fun _ => rfl) (by rw [hv])
      rw [← hv] at posted
      exact congrArg (fun m : ManagementPort => { m with staged := v.wd.live }) posted
    case pwb => simp [hv, State.recordsLoaded, State.busFree]
    case nvm => simp [hv, State.recordsLoaded, State.busFree]
    case wdChange =>
      change v.wd.change = s.busFree.wd.change
      rw [hv, State.recordsLoaded_wd, State.loadConfig_rest.1]
    case ruChange =>
      change v.ru.change = s.ru.change
      simp [hv, State.recordsLoaded_ru, State.loadRemap_rest, State.busFree]
    case configs =>
      intro x y valid0 valid1 _
      exact ⟨fun above => configRead (by rw [valid0, valid1, chooseSlot_b above]),
        fun notAbove => configRead (by rw [valid0, valid1, chooseSlot_a notAbove])⟩
    case configA =>
      intro x valid0 invalid1
      exact configRead (by rw [valid0, invalid1]; rfl)
    case configB =>
      intro y invalid0 valid1
      exact configRead (by rw [invalid0, valid1]; rfl)
    case configNone =>
      intro invalid0 invalid1
      exact configDefaulted ⟨invalid0, invalid1⟩
    case remaps =>
      intro x y valid0 valid1 _
      exact ⟨fun above => remapRead (by rw [valid0, valid1, chooseSlot_b above]),
        fun notAbove => remapRead (by rw [valid0, valid1, chooseSlot_a notAbove])⟩
    case remapA =>
      intro x valid0 invalid1
      exact remapRead (by rw [valid0, invalid1]; rfl)
    case remapB =>
      intro y invalid0 valid1
      exact remapRead (by rw [invalid0, valid1]; rfl)
    case remapNone =>
      intro invalid0 invalid1
      exact remapDefaulted ⟨invalid0, invalid1⟩
    case member =>
      intro i p
      rw [free]
      exact mem_buildFree_iff
    case sorted =>
      intro i
      rw [free]
      exact buildFree_sorted _ i

end Sys2Proof.Machine
end

section
/-! The arrivals that need no decode (R105, R112), and the release of the strobe (R106, R111). -/

namespace Sys2Proof.Machine

/- One theorem after another: waiting ones would each hold a thread. -/
set_option Elab.async false

/-! ### An arrival that needs no decode (R105, R112) -/

theorem State.accessArrives_notReady {s : State} (opens : s.opensAccess) (idle : s.sc.state ≠ .run) (ha : BitVec 22)
    (hbl hbh : Bool) {hrd hwr : Bool} (hd : Half) (strobe : (hrd || hwr) = true) :
    s.accessArrives ha hbl hbh hrd hwr hd =
      s.refused (newAccess (arrivalAddr ha hbl hbh) hbl hbh (arrivalDir hrd) hd s.stallLimit) .notReady := by
  have outside : (s.openAccess (arrivalAddr ha hbl hbh) hbl hbh (arrivalDir hrd) hd).sc.state ≠ .run := idle
  unfold State.accessArrives
  rw [if_neg (by simp [opens.2, strobe])]
  dsimp only
  rw [if_pos outside]
  rfl

/-- The state once an access has been completed without /HERR (R106). -/
def State.completed (s : State) (a : Access) (data : Half) : State :=
  s.setHp { s.hp with access := some (a.done data) }

theorem State.completed_settled {s : State} (settled : s.settled) (free : s.hp.access = none) (a : Access)
    (data : Half) : (s.completed a data).settled :=
  (State.setHp_settled s (s.completed a data).hp s.mgp
    (by simp [State.heldPhase, free, State.completed, Access.done])).2 settled

theorem State.accessArrives_noLane {s : State} (opens : s.opensAccess) (run : s.sc.state = .run) (ha : BitVec 22)
    {hrd hwr : Bool} (hd : Half) (strobe : (hrd || hwr) = true) :
    s.accessArrives ha false false hrd hwr hd =
      s.completed (newAccess (arrivalAddr ha false false) false false (arrivalDir hrd) hd s.stallLimit) 0xFFFF := by
  have running : (s.openAccess (arrivalAddr ha false false) false false (arrivalDir hrd) hd).sc.state = .run := run
  unfold State.accessArrives
  rw [if_neg (by simp [opens.2, strobe])]
  dsimp only
  rw [if_neg (not_not_intro running)]
  rfl

/-- Settles O23: neither access reaches decode, and a completed one makes nothing due. -/
theorem arrivalAtOnce : Obligations.ArrivalAtOnce := by
  refine ⟨fun s ha hbl hbh hrd hwr hd opens settled idle strobe => ?_,
    fun s ha hrd hwr hd opens settled run strobe => ?_⟩
  · have still := State.refused_settled settled opens.2
      (newAccess (arrivalAddr ha hbl hbh) hbl hbh (arrivalDir hrd) hd s.stallLimit) .notReady
    rw [State.arrives_of_opens opens, State.accessArrives_notReady opens idle ha hbl hbh hd strobe,
      State.settle_of_settled still]
    rfl
  · have still := State.completed_settled settled opens.2
      (newAccess (arrivalAddr ha false false) false false (arrivalDir hrd) hd s.stallLimit) 0xFFFF
    rw [State.arrives_of_opens opens, State.accessArrives_noLane opens run ha hd strobe]
    exact congrArg _ (State.settle_of_settled still)

/-! ### The release of the strobe (R106, R111) -/

theorem State.strobeReleased_of_complete {s : State} {a : Access} (access : s.hp.access = some a)
    (phase : a.phase = .complete) : s.strobeReleased = s.setHp { s.hp with access := none } := by
  simp only [State.strobeReleased, access, phase, if_true]

theorem State.strobeReleased_of_held {s : State} {a : Access} (access : s.hp.access = some a)
    (held : a.phase ≠ .complete) : s.strobeReleased = s.abandon a := by
  simp only [State.strobeReleased, access, held, if_false]

/-- Settles O30: a completed access by its phase, a held one by the block that holds it. -/
theorem strobeReleased : Obligations.StrobeReleased := by
  have releases {s t : State} (alive : s.alive = true) (h : s.strobeReleased = t) :
      exec .hostStrobeRelease s = .next t.settle :=
    congrArg _ ((State.event_of_alive alive _).trans (congrArg State.settle h))
  refine ⟨fun s a alive settled access phase => ?completed, fun s a alive access => ?held⟩
  case completed =>
    have still := (State.setHp_settled s { s.hp with access := none } s.mgp
      (by simp [State.heldPhase, access, phase])).2 settled
    rw [releases alive (State.strobeReleased_of_complete access phase)]
    exact congrArg _ (State.settle_of_settled still)
  case held =>
    have abandons {t : State} (held : a.phase ≠ .complete) (h : s.abandon a = t) :
        exec .hostStrobeRelease s = .next t.settle :=
      releases alive ((State.strobeReleased_of_held access held).trans h)
    refine ⟨fun phase => abandons (by simp [phase]) ?_, fun phase => abandons (by simp [phase]) ?_,
      fun r phase host waits => abandons (by simp [phase]) ?_, fun r phase host transfer => abandons (by simp [phase]) ?_⟩
    · simp only [State.abandon, phase]
      rfl
    · simp only [State.abandon, phase]
      rfl
    · simp only [State.abandon, phase, State.abandonRead, State.setHp, host, waits, if_false]
      rfl
    · simp only [State.abandon, phase, State.abandonRead, State.setHp, host, transfer, if_true]
      rfl

end Sys2Proof.Machine
end

section
/-! The bytes of an arrival and the decode by a window and by a table (R104, R105, R107). -/

namespace Sys2Proof.Machine

/- One theorem after another: waiting ones would each hold a thread. -/
set_option Elab.async false

/-! ### Window records (R107, R114, R116) -/

theorem anyPair_eq_false_iff {α : Type} (meet : α → α → Bool) (l : List α) :
    anyPair meet l = false ↔ l.Pairwise fun x y => meet x y = false := by
  induction l with
  | nil => simp [anyPair]
  | cons x xs ih => simp [anyPair, ih]

theorem rangesMeet_eq_false_iff (a m b n : Nat) : rangesMeet a m b n = false ↔ ¬(a < b + n ∧ b < a + m) := by
  rw [← Bool.not_eq_true, rangesMeet]
  simp

theorem policyCode_toNat (b : Byte) : b.toNat / 2 % 4 = (b.extractLsb' 1 2).toNat := by
  simp [BitVec.extractLsb', Nat.shiftRight_eq_div_pow]

theorem WindowRecord.policy?_eq_some_iff (w : WindowRecord) (p : Policy) : w.policy? = some p ↔
    w.flags.extractLsb' 1 2 = 0 ∧ p = .posted ∨ w.flags.extractLsb' 1 2 = 1 ∧ p = .writeThrough ∨
      w.flags.extractLsb' 1 2 = 2 ∧ p = .readOnly := by
  rw [WindowRecord.policy?, policyCode_toNat]
  generalize w.flags.extractLsb' 1 2 = code
  cases p <;> revert code <;> decide

theorem WindowRecord.device?_eq_some_iff (w : WindowRecord) (d : Dev) :
    w.device? = some d ↔ w.device = 0 ∧ d = .d0 ∨ w.device = 1 ∧ d = .d1 := by
  by_cases zero : w.device = 0
  · simp [WindowRecord.device?, zero, devOfNat, eq_comm]
  · by_cases one : w.device = 1
    · simp [WindowRecord.device?, one, devOfNat, eq_comm]
    · have other : w.device? = none := devOfNat_of_other (fun h => zero (BitVec.eq_of_toNat_eq h))
        fun h => one (BitVec.eq_of_toNat_eq h)
      exact ⟨fun h => absurd (other ▸ h) nofun, fun h => h.elim (fun h => absurd h.1 zero) fun h => absurd h.1 one⟩

theorem WindowRecord.decode_eq_some_iff (w : WindowRecord) (addr : BitVec 23) (x : Decoded) :
    w.decode addr = some x ↔ (w.enabled = true ∧ w.covers (hostPage addr) = true) ∧
      w.policy? = some x.policy ∧ w.device? = some x.loc.dev ∧
      x.loc.page = w.memBase.toNat + (hostPage addr - w.hostBase.toNat) ∧ x.loc.line = lineOf addr := by
  obtain ⟨⟨dev, page, line⟩, policy⟩ := x
  unfold WindowRecord.decode
  by_cases hit : w.enabled = true ∧ w.covers (hostPage addr) = true
  · rw [if_pos (by simp [hit])]
    cases w.policy? <;> cases w.device? <;> simp [hit, eq_comm]
    tauto
  · simp [hit]

theorem WindowRecord.covers_iff (w : WindowRecord) (page : Nat) : w.covers page = true ↔
    w.hostBase.toNat ≤ page ∧ page < w.hostBase.toNat + w.size.toNat := by
  simp [WindowRecord.covers]

/-- Two enabled windows that cover one host page meet (R107, check 6 of R116). -/
theorem hostMeet_of_covers {v w : WindowRecord} {page : Nat} (hv : v.covers page = true) (hw : w.covers page = true) :
    hostMeet v w = true := by
  rw [WindowRecord.covers_iff] at hv hw
  rw [hostMeet, ← Bool.not_eq_false, rangesMeet_eq_false_iff]
  omega

/-! ### The bytes of an arrival (R104, R105) -/

theorem byteAt_set {l : List (Option Byte)} {i : Nat} (h : i < l.length) (b : Byte) (k : Nat) :
    byteAt (l.set i (some b)) k = if k = i then some b else byteAt l k := by
  by_cases here : k = i
  · simp [byteAt, here, h]
  · simp [byteAt, here, List.getElem?_set_ne (Ne.symm here)]

theorem byteAt_emptyLine (k : Nat) : byteAt emptyLine k = none := by
  by_cases h : k < emptyLine.length
  · rw [byteAt_of_lt h]
    exact List.getElem_replicate h
  · exact byteAt_of_length_le (Nat.le_of_not_lt h)

theorem byteAt_laneBytes (addr : BitVec 23) (even odd : Bool) (hd : Half) (k : Nat) :
    byteAt (laneBytes addr even odd hd) k =
      if even = true ∧ k = evenPosition addr then some (hd.extractLsb' 0 8)
      else if odd = true ∧ k = evenPosition addr + 1 then some (hd.extractLsb' 8 8)
      else none := by
  have room : evenPosition addr + 1 < 16 := by unfold evenPosition; omega
  have low : hd.setWidth 8 = hd.extractLsb' 0 8 := BitVec.setWidth_eq_extractLsb' (by decide)
  have high : (hd >>> 8).setWidth 8 = hd.extractLsb' 8 8 := BitVec.eq_of_toNat_eq (by simp)
  have first : evenPosition addr < emptyLine.length := by simp [emptyLine]; omega
  have second : evenPosition addr + 1 < emptyLine.length := by simpa [emptyLine] using room
  rw [laneBytes, low, high]
  cases even <;> cases odd
  · simp [byteAt_emptyLine]
  · simp [byteAt_set second, byteAt_emptyLine]
  · simp [byteAt_set first, byteAt_emptyLine]
  · simp only [if_true, true_and]
    rw [byteAt_set (by simpa using second), byteAt_set first, byteAt_emptyLine]
    by_cases here : k = evenPosition addr
    · rw [if_neg (by omega), if_pos here, if_pos here]
    · rw [if_neg here, if_neg here]

theorem mem_lanePositions (addr : BitVec 23) (even odd : Bool) (k : Nat) : k ∈ lanePositions addr even odd ↔
    (even = true ∧ k = evenPosition addr) ∨ (odd = true ∧ k = evenPosition addr + 1) := by
  cases even <;> cases odd <;> simp [lanePositions]

/-! ### The decode by a table (R107) -/

/-- When no two members of a list are found, the one that is found is the first. -/
theorem findSome?_of_pairwise {α β : Type} {f : α → Option β} {l : List α}
    (apart : l.Pairwise fun a b => f a = none ∨ f b = none) {a : α} (mem : a ∈ l) {x : β} (found : f a = some x) :
    l.findSome? f = some x := by
  induction l with
  | nil => cases mem
  | cons b l ih =>
    obtain ⟨head, tail⟩ := List.pairwise_cons.1 apart
    obtain rfl | inTail := List.mem_cons.1 mem
    · exact List.findSome?_cons_of_isSome (by simp [found]) |>.trans found
    · have skipped : f b = none := (head a inTail).resolve_right (by simp [found])
      rw [List.findSome?_cons, skipped]
      exact ih tail inTail

theorem Table.valid_apart {t : Table} (valid : t.valid = true) : anyPair hostMeet t.enabledWindows = false := by
  simp only [Table.valid, Bool.and_eq_true, Bool.not_eq_true'] at valid
  obtain ⟨⟨-, apart⟩, -⟩ := valid
  exact apart

/-- In a table that a COMMIT could install at most one window matches an address. -/
theorem Table.decode_apart {t : Table} (valid : t.valid = true) (addr : BitVec 23) :
    t.windows.Pairwise fun v w => v.decode addr = none ∨ w.decode addr = none := by
  have apart := (anyPair_eq_false_iff _ _).1 (Table.valid_apart valid)
  refine (List.pairwise_filter.1 apart).imp fun {v w} away => ?_
  by_contra both
  obtain ⟨⟨x, hv⟩, ⟨y, hw⟩⟩ : (∃ x, v.decode addr = some x) ∧ ∃ y, w.decode addr = some y := by
    simpa [Option.ne_none_iff_exists'] using both
  obtain ⟨⟨vOn, vCovers⟩, -⟩ := (v.decode_eq_some_iff addr x).1 hv
  obtain ⟨⟨wOn, wCovers⟩, -⟩ := (w.decode_eq_some_iff addr y).1 hw
  exact absurd (hostMeet_of_covers vCovers wCovers) (by simp [away vOn wOn])

/-- Settles O22: an arrival's bytes by their position in the line, a window's match by its fields, and a table's by the one
window that matches. -/
theorem arrivalDecoded : Obligations.ArrivalDecoded := by
  refine ⟨fun ha odd => ?even, fun ha => ?odd, fun ha even odd lane k => ?positions, fun ha even odd hd lane k => ?bytes,
    fun w addr x => ?window, fun t addr => ⟨List.findSome?_eq_none_iff, fun x found => ?some,
      fun w mem x valid found => ?valid⟩⟩
  case even =>
    rw [arrivalAddr, if_pos rfl]
    bv_omega
  case odd =>
    rw [arrivalAddr, if_neg (by simp), if_pos rfl]
    bv_omega
  case positions => rw [mem_lanePositions, evenPosition_arrivalAddr lane]
  case bytes => rw [byteAt_laneBytes, evenPosition_arrivalAddr lane]
  case window =>
    rw [WindowRecord.decode_eq_some_iff, WindowRecord.covers_iff, WindowRecord.policy?_eq_some_iff,
      WindowRecord.device?_eq_some_iff, and_assoc, and_assoc]
    rfl
  case some => exact List.exists_of_findSome?_eq_some found
  case valid => exact findSome?_of_pairwise (Table.decode_apart valid addr) mem found

end Sys2Proof.Machine
end

section
/-! The requests of the management port's own state (R180, R183 to R186). -/

namespace Sys2Proof.Machine

/- One theorem after another: waiting ones would each hold a thread. -/
set_option Elab.async false

/-! ### A request that changes the port alone (R180, R183 to R186) -/

section
variable {s : State}

theorem State.byteTaken_eq_setMgp (s : State) (i : Byte) : s.byteTaken i = s.setMgp (s.mgp.byteTaken i) :=
  (s.byteTaken_eq i).trans (s.advanceAt_eq i)

/-- A request whose whole effect is on the port takes its byte and makes nothing due. -/
theorem State.request_port (alive : s.alive = true) (settled : s.settled) {code : Byte} {take : State → State}
    {m : ManagementPort} (gives : s.request code take = s.setMgp m) :
    (.next (s.event (fun s => (s.request code take).advanceAt 0x0C)) : Host.Outcome State Fault Refusal) =
      .next (s.setMgp (m.byteTaken 0x0C)) := by
  rw [State.event_of_alive alive, gives, State.advanceAt_eq]
  exact congrArg _ (State.settle_of_settled ((s.setMgp_settled _).2 settled))

theorem State.request_inHand (inHand : s.mgp.inHand = true) (code : Byte) (take : State → State) :
    s.request code take = s.setMgp { s.mgp with code := code, result := .busy } :=
  if_pos inHand

/-- The flags that an argument of CLEAR_STATUS selects, and the arguments that select any (R186). -/
theorem clearStatus_arg (a : Byte) : (1 ≤ a.toNat ∧ a.toNat ≤ 3 ↔ a = 1 ∨ a = 2 ∨ a = 3) ∧
    (a = 1 ∨ a = 2 ∨ a = 3 → (!a.getLsbD 0) = (a == 2) ∧ (!a.getLsbD 1) = (a == 1)) := by
  refine ⟨by bv_omega, fun h => ?_⟩
  obtain rfl | rfl | rfl := h <;> decide

theorem State.takeClearStatus_eq (s : State) : s.takeClearStatus = s.setMgp
    (if s.mgp.arg1 = 1 ∨ s.mgp.arg1 = 2 ∨ s.mgp.arg1 = 3 then
      { s.mgp with
        fenceLoss := s.mgp.fenceLoss && s.mgp.arg1 == 2
        overflow := s.mgp.overflow && s.mgp.arg1 == 1
        result := .done }
    else { s.mgp with result := .invalidArgument }) := by
  obtain ⟨range, bits⟩ := clearStatus_arg s.mgp.arg1
  unfold State.takeClearStatus
  dsimp only
  by_cases h : s.mgp.arg1 = 1 ∨ s.mgp.arg1 = 2 ∨ s.mgp.arg1 = 3
  · rw [if_pos (range.2 h), if_pos h, (bits h).1, (bits h).2]
  · rw [if_neg (mt range.1 h), if_neg h]
    rfl

theorem State.takeSelectRemap_eq (s : State) : s.takeSelectRemap = s.setMgp
    (if s.mgp.arg2.toNat ≤ 71 then { s.mgp with remapIndex := s.mgp.arg2.toNat, result := .done }
    else { s.mgp with result := .invalidArgument }) := by
  unfold State.takeSelectRemap
  split <;> rfl

/-- A code outside 1 to 8 names no request. -/
theorem State.takeCode_unknown (s : State) {code : Byte} (unknown : code = 0 ∨ 8 < code.toNat) :
    s.takeCode code = s.setResult .invalidArgument := by
  have outside : code.toNat = 0 ∨ 8 < code.toNat := unknown.imp_left (congrArg BitVec.toNat)
  unfold State.takeCode
  split
  case h_9 => rfl
  all_goals omega

end

/-- Settles O57: each request by what it does to the port, and the one in hand first. -/
theorem portRequests : Obligations.PortRequests := by
  refine ⟨fun s takes settled => ?free, fun s i code alive settled inHand which => ?busy⟩
  case free =>
    obtain ⟨alive, free⟩ := takes
    have answers (code : Byte) {take : State → State} {m : ManagementPort}
        (gives : take (s.setMgp { s.mgp with code := code }) = s.setMgp m) :=
      State.request_port alive settled ((State.request_of_free free code take).trans gives)
    dsimp only
    rw [State.byteTaken_eq_setMgp]
    refine ⟨(answers 5 rfl).trans ?_, (answers 6 (State.takeSelectRemap_eq _)).trans ?_, (answers 7 rfl).trans ?_,
      (answers 8 (State.takeClearStatus_eq _)).trans ?_, fun code unknown =>
        (answers code (State.takeCode_unknown _ unknown)).trans ?_⟩
    · rw [List.drop_one]
      rfl
    · by_cases inRange : s.mgp.arg2.toNat ≤ 71
      · rw [if_pos (by exact inRange), if_pos inRange]
        rfl
      · rw [if_neg (by exact inRange), if_neg inRange]
        rfl
    · rfl
    · by_cases flags : s.mgp.arg1 = 1 ∨ s.mgp.arg1 = 2 ∨ s.mgp.arg1 = 3
      · rw [if_pos (by exact flags), if_pos flags]
        rfl
      · rw [if_neg (by exact flags), if_neg flags]
        rfl
    · rfl
  case busy =>
    have busy (take : State → State) := State.request_port alive settled (State.request_inHand inHand code take)
    dsimp only
    rw [State.byteTaken_eq_setMgp]
    obtain ⟨rfl, rfl⟩ | ⟨rfl, rfl⟩ | ⟨rfl, rfl⟩ | ⟨rfl, rfl⟩ | ⟨rfl, rfl⟩ | ⟨rfl, rfl⟩ | ⟨rfl, rfl⟩ | ⟨rfl, rfl⟩ | rfl :=
      which
    all_goals exact busy _

end Sys2Proof.Machine
end

section
/-! COMMIT, its checks and its swap (R116 to R118). -/

namespace Sys2Proof.Machine

/- One theorem after another: waiting ones would each hold a thread. -/
set_option Elab.async false

/-! ### The checks of a COMMIT (R115, R116) -/

theorem Params.inRange_iff (p : Params) : p.inRange = true ↔
    (p.sealDelay = 0 ∨ 16 ≤ p.sealDelay.toNat ∧ p.sealDelay.toNat ≤ 4096 ∧ p.sealDelay.toNat % 16 = 0) ∧
      (8 ≤ p.highWater.toNat ∧ p.highWater.toNat ≤ 32) ∧ (1 ≤ p.stallLimit.toNat ∧ p.stallLimit.toNat ≤ 127) ∧
      p.readAhead.toNat ≤ 3 ∧ p.suspendLimit.toNat ≤ 7 := by
  simp [Params.inRange, and_assoc]

theorem WindowRecord.policy?_isSome_iff (w : WindowRecord) : w.policy?.isSome = true ↔ w.flags.extractLsb' 1 2 ≠ 3 := by
  rw [WindowRecord.policy?, policyCode_toNat]
  generalize w.flags.extractLsb' 1 2 = code
  revert code
  decide

theorem WindowRecord.device?_isSome_iff (w : WindowRecord) : w.device?.isSome = true ↔ w.device = 0 ∨ w.device = 1 := by
  simp [Option.isSome_iff_exists, WindowRecord.device?_eq_some_iff, exists_or]

theorem WindowRecord.inRange_iff (w : WindowRecord) : w.inRange = true ↔
    w.flags.extractLsb' 1 2 ≠ 3 ∧ (w.device = 0 ∨ w.device = 1) ∧ 1 ≤ w.size.toNat ∧ w.size.toNat ≤ 8192 := by
  simp only [WindowRecord.inRange, Bool.and_eq_true, decide_eq_true_eq, WindowRecord.policy?_isSome_iff,
    WindowRecord.device?_isSome_iff, and_assoc]

theorem hostApart_iff (l : List WindowRecord) : anyPair hostMeet l = false ↔
    l.Pairwise fun v w => ¬(v.hostBase.toNat < w.hostBase.toNat + w.size.toNat ∧
      w.hostBase.toNat < v.hostBase.toNat + v.size.toNat) := by
  simp only [anyPair_eq_false_iff, hostMeet, rangesMeet_eq_false_iff]

theorem memoryApart_iff (l : List WindowRecord) : anyPair memoryMeet l = false ↔
    l.Pairwise fun v w => ¬(v.device = w.device ∧ v.memBase.toNat < w.memBase.toNat + w.size.toNat ∧
      w.memBase.toNat < v.memBase.toNat + v.size.toNat) := by
  simp only [anyPair_eq_false_iff, memoryMeet, Bool.and_eq_false_iff, rangesMeet_eq_false_iff, decide_eq_false_iff_not,
    not_and_or]

/-- What the checks 3 to 5 answer on a window of a device that exists (R116). -/
def State.windowCheck (s : State) (w : WindowRecord) : Option ReqResult :=
  if 32768 < w.hostBase.toNat + w.size.toNat then some .hostRange
  else if (if w.device = 0 then 8150 else 8160) < w.memBase.toNat + w.size.toNat then some .memoryRange
  else if (s.dev (if w.device = 0 then .d0 else .d1)).state = .absent then some .deviceAbsent
  else none

theorem State.windowRefusal_eq (s : State) {w : WindowRecord} (device : w.device = 0 ∨ w.device = 1) :
    s.windowRefusal w = s.windowCheck w := by
  have named : w.device? = some (if w.device = 0 then .d0 else .d1) ∧
      Config.userPages (if w.device = 0 then .d0 else .d1) = if w.device = 0 then 8150 else 8160 := by
    obtain h | h := device <;> simp [WindowRecord.device?, h, devOfNat, Config.userPages]
  obtain ⟨dev, pages⟩ := named
  unfold State.windowRefusal State.windowCheck WindowRecord.hostFits WindowRecord.memoryFits
  simp only [dev, pages, Bool.not_eq_true', decide_eq_false_iff_not, Nat.not_le]

section
variable {s : State}

theorem State.commitRefusal_of_not_run (idle : s.sc.state ≠ .run) : s.commitRefusal = some .refusedState :=
  if_pos idle

/-- The second check, on what it examines. -/
theorem Table.inRange_iff (t : Table) : t.inRange = true ↔
    t.params.inRange = true ∧ ∀ w ∈ t.enabledWindows, w.inRange = true := by
  simp [Table.inRange]

theorem State.commitRefusal_of_not_inRange (run : s.sc.state = .run) (out : s.mgp.staged.inRange ≠ true) :
    s.commitRefusal = some .invalidArgument := by
  unfold State.commitRefusal
  dsimp only
  rw [if_neg (not_not_intro run), if_pos (by simp [out])]

theorem findSome?_congr_of_mem {α β : Type} {f g : α → Option β} {l : List α} (h : ∀ a ∈ l, f a = g a) :
    l.findSome? f = l.findSome? g := by
  induction l with
  | nil => rfl
  | cons a l ih =>
    obtain ⟨first, rest⟩ := List.forall_mem_cons.1 h
    rw [List.findSome?_cons, List.findSome?_cons, first, ih rest]

/-- The later checks of a COMMIT in RUN whose values are in their ranges. -/
theorem State.commitRefusal_of_inRange (run : s.sc.state = .run) (ranged : s.mgp.staged.inRange = true) :
    s.commitRefusal =
      ((s.mgp.staged.enabledWindows.findSome? s.windowCheck).or
        (if anyPair hostMeet s.mgp.staged.enabledWindows = true then some .hostOverlap
        else if anyPair memoryMeet s.mgp.staged.enabledWindows = true then some .memoryOverlap
        else none)) := by
  obtain ⟨-, windows⟩ := (Table.inRange_iff _).1 ranged
  have checks : s.mgp.staged.enabledWindows.findSome? s.windowRefusal =
      s.mgp.staged.enabledWindows.findSome? s.windowCheck := findSome?_congr_of_mem fun w mem => by
    obtain ⟨-, device, -⟩ := w.inRange_iff.1 (windows w mem)
    exact s.windowRefusal_eq device
  unfold State.commitRefusal
  dsimp only
  rw [if_neg (not_not_intro run), if_neg (by simp [ranged]), checks]
  cases s.mgp.staged.enabledWindows.findSome? s.windowCheck <;> rfl

end

/-! ### The swap (R117, R118) -/

/-- The live table is the image, its persist is asked for, and the COMMIT is done. -/
def State.swapped (s : State) (t : Table) : State := { s with
  wd := { s.wd with
    live := t, image := none, change := s.wd.change + 1, persist := if s.mu.config.fault then .failed else .pending }
  mu := { s.mu with config := { s.mu.config with pending := true } }
  mgp := { s.mgp with inHand := false, result := .done } }

theorem State.swap_of_free {s : State} {t : Table} (image : s.wd.image = some t) (free : s.heldPhase = none) :
    s.swap = some (s.swapped t) := by
  simp only [State.swap, image, if_pos free]
  rfl

/-- The staged table is the commit image, and the COMMIT is in hand. -/
def State.imageTaken (s : State) : State := { s with
  wd := { s.wd with image := some s.mgp.staged }
  mgp := { s.mgp with result := .accepted, inHand := true } }

theorem State.takeCommit_refused {s : State} {r : ReqResult} (refused : s.commitRefusal = some r) :
    s.takeCommit = s.setResult r := by
  simp only [State.takeCommit, refused]

theorem State.takeCommit_accepted {s : State} (accepted : s.commitRefusal = none) :
    s.takeCommit = s.imageTaken.swap.getD s.imageTaken := by
  simp only [State.takeCommit, accepted]
  rfl

/-- Settles O55: the checks one after another, the request by its refusal, and the swap by the held access. -/
theorem commits : Obligations.Commits := by
  refine ⟨fun s => ?checks, fun s takes => ?request, fun s t alive image free => ?swap⟩
  case checks =>
    have ranged : s.mgp.staged.inRange = true ↔ _ := (Table.inRange_iff _).trans
      (and_congr (Params.inRange_iff _) (forall₂_congr fun w _ => w.inRange_iff))
    have checked := State.commitRefusal_of_inRange (s := s)
    simp only [and_assoc] at ranged ⊢
    refine ⟨State.commitRefusal_of_not_run, fun run out => State.commitRefusal_of_not_inRange run (mt ranged.1 out),
      fun run within => ?_⟩
    have chain := checked run (ranged.2 within)
    have hostMeets : anyPair hostMeet s.mgp.staged.enabledWindows = true ↔ _ :=
      (iff_of_eq (Bool.not_eq_false _)).symm.trans (not_congr (hostApart_iff _))
    have memoryMeets : anyPair memoryMeet s.mgp.staged.enabledWindows = true ↔ _ :=
      (iff_of_eq (Bool.not_eq_false _)).symm.trans (not_congr (memoryApart_iff _))
    refine ⟨fun r window => ?_, fun window host => ?_, fun window host memory => ?_, fun window host memory => ?_⟩
    all_goals refine chain.trans ((congrArg (Option.or · _) window).trans ?_)
    · rfl
    · exact if_pos (hostMeets.2 host)
    · exact (if_neg (mt hostMeets.1 (not_not_intro host))).trans (if_pos (memoryMeets.2 memory))
    · exact (if_neg (mt hostMeets.1 (not_not_intro host))).trans (if_neg (mt memoryMeets.1 (not_not_intro memory)))
  case request =>
    obtain ⟨alive, free⟩ := takes
    have answers {take : State → State} {t : State} (gives : take (s.setMgp { s.mgp with code := 1 }) = t) :
        (.next (s.event (fun s => (s.request 1 take).advanceAt 0x0C)) : Host.Outcome State Fault Refusal) =
          .next (t.setMgp (t.mgp.byteTaken 0x0C)).settle := by
      rw [State.event_of_alive alive, State.request_of_free free, gives, State.advanceAt_eq]
    dsimp only
    rw [State.byteTaken_eq_setMgp]
    refine ⟨fun r settled refused => ?_, fun accepted free => ?_, fun accepted held => ?_⟩
    · exact State.request_port alive settled
        ((State.request_of_free free 1 State.takeCommit).trans (State.takeCommit_refused (by exact refused)))
    · refine (answers (State.takeCommit_accepted (by exact accepted))).trans ?_
      rw [State.swap_of_free (by rfl) (by exact free)]
      rfl
    · refine (answers (State.takeCommit_accepted (by exact accepted))).trans ?_
      rw [(State.swap_eq_none_iff _).2 (fun _ => by exact held)]
      rfl
  case swap => exact congrArg _ (State.named_of_due alive (State.swap_of_free image free))

end Sys2Proof.Machine
end

section
/-! The outcomes of a persist's programs (R146 to R150, R153, R164). -/

namespace Sys2Proof.Machine

/- One theorem after another: waiting ones would each hold a thread. -/
set_option Elab.async false

/-! ### A program of the metadata unit ends (R128, R146, R147) -/

section
variable {s : State} {p : Persist}

/-- The unit's program has passed, and its outcome is not yet acted on. -/
def State.unitPassed (s : State) : State := { s with
  nvm := (s.nvmPass .d0).nvm
  mp := { s.mp with bus := none, devs := { s.mp.devs with d0 := (s.dev .d0).toIdle } } }

section
variable {t : Transfer} (bus : s.mp.bus = some t) (cmd : t.req.cmd = .readStatus) (dev : t.req.dev = .d0)
  (programming : (s.dev .d0).activity = .programming) (owner : (s.dev .d0).owner = some .mu)
  (unordered : s.waits (isResetOf .d0) = false)
include bus cmd dev programming owner unordered

theorem State.transferEnds_unitPass : s.transferEnds (.status .readyPass) = s.unitPassed.muProgramEnds true := by
  have busy : (s.busFree.dev .d0).activity = .programming := programming
  rw [State.transferEnds_readStatus bus cmd, dev]
  simp only [State.statusReturned, busy, answerStatus]
  rw [State.programReady_mu (by exact owner) (State.busFree_resetOrdered unordered), if_pos rfl, State.busFree,
    State.nvmPass_setMp]
  rfl

theorem State.transferEnds_unitFail : s.transferEnds (.status .readyFail) = s.writeSpoiled.muProgramEnds false := by
  have busy : (s.busFree.dev .d0).activity = .programming := programming
  rw [State.transferEnds_readStatus bus cmd, dev]
  simp only [State.statusReturned, busy, answerStatus]
  rw [State.programReady_mu (by exact owner) (State.busFree_resetOrdered unordered), if_neg (by simp), State.busFree,
    State.nvmSpoil_setMp]
  rfl

end

/-! ### What the outcome means for a persist (R146, R147, R150) -/

section
variable (op : s.mu.op = some (.persist p))
include op

theorem State.muProgramEnds_last (last : slotParts p.snapshot.kind ≤ p.part + 1) :
    s.muProgramEnds true = s.persistDone p := by
  simp [State.muProgramEnds, op, last]

theorem State.muProgramEnds_next (more : p.part + 1 < slotParts p.snapshot.kind) (goes : p.stopping = false) :
    s.muProgramEnds true = s.requestPart { p with part := p.part + 1 } := by
  simp [State.muProgramEnds, op, Nat.not_le.2 more, goes]

theorem State.muProgramEnds_fail (goes : p.stopping = false) : s.muProgramEnds false = s.attemptFails p := by
  simp [State.muProgramEnds, op, goes]

/-- A persist being stopped is broken off by a program that fails, or that is not its last. -/
theorem State.muProgramEnds_stopping (stopping : p.stopping = true) {pass : Bool}
    (short : pass = false ∨ p.part + 1 < slotParts p.snapshot.kind) : s.muProgramEnds pass = s.breakOff p true := by
  have unfinished : (pass && decide (slotParts p.snapshot.kind ≤ p.part + 1)) = false := by
    obtain rfl | more := short
    · rfl
    · simp [Nat.not_le.2 more]
  simp [State.muProgramEnds, op, stopping, unfinished]

end

theorem State.breakOff_touched (s : State) (p : Persist) : s.breakOff p true =
    let x := s.mu.slot p.snapshot.kind
    s.setMu { s.mu.setSlot p.snapshot.kind { x with
      pending := true, newestSlot := if x.newestSlot = some p.target then none else x.newestSlot } with op := none } := by
  simp only [State.breakOff, Bool.true_and, decide_eq_true_eq]

/-! ### A persist is done (R118, R146) -/

theorem State.persistDone_remap {table : List RemapEntry} (kind : p.snapshot = .remap table) : s.persistDone p = { s with
    mu := { s.mu with op := none, remap := { s.mu.remap with newestGen := p.gen, newestSlot := some p.target } }
    ru := { s.ru with reported := some p.change } } := by
  simp only [State.persistDone, kind, Snapshot.kind]
  rfl

theorem State.persistDone_config {table : Table} (kind : p.snapshot = .config table) : s.persistDone p = { s with
    mu := { s.mu with op := none, config := { s.mu.config with newestGen := p.gen, newestSlot := some p.target } }
    wd := { s.wd with
      persist := if p.change = s.wd.change then .done else s.wd.persist
      reported := some p.change }
    mgp := { s.mgp with commitPersisted := s.mgp.commitPersisted || (p.change != 0 && (match s.wd.reported with
      | some m => isAbove p.change m
      | none => true)) } } := by
  have flags : s.wd.flagsCommit p.change = (p.change != 0 && (match s.wd.reported with
      | some m => isAbove p.change m
      | none => true)) := by
    unfold WindowDecoder.flagsCommit
    cases s.wd.reported <;> rfl
  simp only [State.persistDone, kind, Snapshot.kind, ← flags]
  rfl

theorem State.requestPart_of_takes (takes : (s.dev .d0).takes = true) : s.requestPart p = { s with
    mp := { s.mp with reqs := s.mp.reqs ++ [⟨.mu, .d0, .programPage (slotPage p.snapshot.kind p.target + p.part)
      (padTo 256 (((p.snapshot.record p.gen).drop (256 * p.part)).take 256))⟩] }
    mu := { s.mu with op := some (.persist p) } } :=
  State.muRequest_of_takes (by exact takes) _

/-! ### A second attempt has failed (R147, R148, R164) -/

theorem SlotStatus.markBad_isBad_other (x : SlotStatus) (t : Slot) : (x.markBad t).isBad t.other = x.isBad t.other := by
  cases t <;> simp [SlotStatus.markBad, SlotStatus.isBad, Slot.other]

theorem SlotStatus.markBad_good (x : SlotStatus) (t : Slot) :
    (x.markBad t).good = if x.isBad t.other = true then 0 else 1 := by
  cases t <;> simp [SlotStatus.markBad, SlotStatus.good, SlotStatus.isBad, Slot.other] <;> rfl

/-- The slot is bad, and its fault record is posted. -/
def State.slotLost (s : State) (p : Persist) (left : Nat) : State :=
  (s.setMu (s.mu.setSlot p.snapshot.kind ((s.mu.slot p.snapshot.kind).markBad p.target))).postFault .metadataWrite
    (some .d0) (some (slotPage p.snapshot.kind p.target)) (some left)

theorem State.attemptFails_first (first : p.attempt = 1) :
    s.attemptFails p = s.requestPart { p with attempt := 2, part := 0 } :=
  if_pos (by omega)

theorem State.attemptFails_otherSlot (second : p.attempt = 2)
    (other : (s.mu.slot p.snapshot.kind).isBad p.target.other = false) :
    s.attemptFails p = (s.slotLost p 1).requestPart { p with target := p.target.other, attempt := 1, part := 0 } := by
  unfold State.attemptFails
  rw [if_neg (by omega)]
  dsimp only
  rw [SlotStatus.markBad_isBad_other, SlotStatus.markBad_good, if_neg (by simp [other]), if_neg (by simp [other])]
  rfl

theorem State.attemptFails_faults (second : p.attempt = 2)
    (other : (s.mu.slot p.snapshot.kind).isBad p.target.other = true) :
    s.attemptFails p = ((s.slotLost p 0).setOp none).raiseFault p.snapshot.kind := by
  unfold State.attemptFails
  rw [if_neg (by omega)]
  dsimp only
  rw [SlotStatus.markBad_isBad_other, SlotStatus.markBad_good, if_pos other, if_pos other]
  rfl

/-- The metadata fault of a kind, with no operation in hand and no restart to give up. -/
def State.kindFaulted (s : State) (k : Kind) : State := { s with
  mu := s.mu.setSlot k { s.mu.slot k with fault := true }
  wd := if k = .config then { s.wd with persist := .failed } else s.wd }

theorem State.raiseFault_of_idle (idle : s.mu.op = none) (k : Kind) :
    s.raiseFault k = (s.kindFaulted k).giveUpRestart := by
  rw [State.raiseFault_eq, State.endPersistOf_idle ((State.flagFault_op s k).trans idle)]
  cases k <;> rfl

theorem State.resumeEngine_of_unstopped {d : Dev} (going : ∀ c, s.ctx d = some c → c.phase ≠ .stopped) :
    s.resumeEngine d = s.engineGoes d := by
  rcases ctx : s.ctx d with - | c
  · rw [State.resumeEngine_of_idle ctx, State.engineGoes_eq, State.resumed_nil, ctx]
  · exact State.resumeEngine_of_busy ctx (going c ctx)

/-- RUN is entered with no engine stopped (R162, R164). -/
theorem State.enterRun_of_unstopped (going : ∀ d c, s.ctx d = some c → c.phase ≠ .stopped) : s.enterRun = { s with
    de := ⟨{ s.de.d0 with stopping := false }, { s.de.d1 with stopping := false }⟩
    sc := { s.sc with state := .run, step := none, returnWrite := false, plan := none } } := by
  unfold State.enterRun
  rw [State.resumeEngine_of_unstopped (d := .d0) (by exact going .d0),
    State.resumeEngine_of_unstopped (d := .d1) (by exact going .d1)]
  rfl

end

/-- Settles O48: the persist is done, goes on, or is broken off, and an attempt that fails is made again, in the other slot, or
ends in the kind's fault. -/
theorem persistOutcomes : Obligations.PersistOutcomes := by
  intro s t p alive bus cmd dev programming owner takes unordered op
  have passes {u : State} (h : s.unitPassed.muProgramEnds true = u) :
      exec (.memoryTransferEnd (.status .readyPass)) s = .next u.settle :=
    State.exec_transferEnd alive ((State.transferEnds_unitPass bus cmd dev programming owner unordered).trans h)
  have fails {u : State} (h : s.writeSpoiled.muProgramEnds false = u) :
      exec (.memoryTransferEnd (.status .readyFail)) s = .next u.settle :=
    State.exec_transferEnd alive ((State.transferEnds_unitFail bus cmd dev programming owner unordered).trans h)
  have passed : s.unitPassed.mu.op = some (.persist p) := op
  have failed : s.writeSpoiled.mu.op = some (.persist p) := op
  have other : p.target.other = if p.target = .a then .b else .a := by cases p.target <;> rfl
  dsimp only
  simp only [List.append_nil, ← other]
  refine ⟨fun table kind last => ?remapDone, fun table kind => ?configDone, fun table kind first goes => ?remapNext,
    fun goes attempt => ?again, fun goes attempt good => ?otherSlot, fun goes attempt bad => ?faulted,
    fun stopping => ⟨fun table kind first => ?brokenPass, ?brokenFail⟩⟩
  case remapDone =>
    refine passes ((State.muProgramEnds_last passed ?_).trans (State.persistDone_remap kind))
    simpa [kind, Snapshot.kind, slotParts] using last
  case configDone =>
    refine passes ((State.muProgramEnds_last passed ?_).trans (State.persistDone_config kind))
    simp [kind, Snapshot.kind, slotParts]
  case remapNext =>
    refine passes ((State.muProgramEnds_next passed ?_ goes).trans ((State.requestPart_of_takes (by exact takes)).trans ?_))
    · simp [kind, Snapshot.kind, slotParts, first]
    · simp only [first]
      rfl
  case again =>
    refine fails ((State.muProgramEnds_fail failed goes).trans ((State.attemptFails_first attempt).trans ?_))
    exact State.requestPart_of_takes (by exact takes)
  case otherSlot =>
    refine fails ((State.muProgramEnds_fail failed goes).trans
      ((State.attemptFails_otherSlot attempt (by exact good)).trans ?_))
    rw [State.slotLost, State.postFault_eq, State.postFault_eq]
    exact State.requestPart_of_takes (by exact takes)
  case faulted =>
    have raised := (State.muProgramEnds_fail failed goes).trans
      ((State.attemptFails_faults attempt (by exact bad)).trans (State.raiseFault_of_idle (by rfl) _))
    rw [State.slotLost, State.postFault_eq] at raised
    simp only [State.postFault_eq]
    refine ⟨fun state => fails (raised.trans ?_), fun state going => fails (raised.trans ?_)⟩
    · rw [State.giveUpRestart_eq (by exact state)]
      cases p.snapshot.kind <;> rfl
    · refine (if_pos (by exact state)).trans ?_
      rw [State.enterRun_of_unstopped (by exact going)]
      cases p.snapshot.kind <;> rfl
  case brokenPass =>
    refine passes ((State.muProgramEnds_stopping passed stopping (.inr ?_)).trans ?_)
    · simp [kind, Snapshot.kind, slotParts, first]
    · exact State.breakOff_touched _ _
  case brokenFail =>
    refine fails ((State.muProgramEnds_stopping failed stopping (.inl rfl)).trans (State.breakOff_touched _ _))

end Sys2Proof.Machine
end

section
/-! The staged table (R179): beside a byte written through the map, the load and a cold reset, no operation changes it. Each
lemma goes through the branches of its operation and closes them by what the parts leave alone. -/

namespace Sys2Proof.Machine

/- One theorem after another: waiting ones would each hold a thread. -/
set_option Elab.async false

section
variable (s : State)

/-! ### Counts, fault records and completions (R106, R182, R185) -/

@[simp] theorem State.setResult_staged (r : ReqResult) : (s.setResult r).mgp.staged = s.mgp.staged := rfl

@[simp] theorem State.count_staged (c : Counter) (n : Nat) : (s.count c n).mgp.staged = s.mgp.staged := rfl

@[simp] theorem State.postFault_staged (kind : FaultKind) (dev : Option Dev) (page n : Option Nat) :
    (s.postFault kind dev page n).mgp.staged = s.mgp.staged := by
  unfold State.postFault
  dsimp only
  (repeat' split) <;> simp

@[simp] theorem State.complete_staged (cause : Option Cause) (data : Half) :
    (s.complete cause data).mgp.staged = s.mgp.staged := by
  unfold State.complete
  dsimp only
  (repeat' split) <;> simp

@[simp] theorem State.declareLost_staged (p : Entry → Bool) : (s.declareLost p).mgp.staged = s.mgp.staged := by
  simp [State.declareLost]

@[simp] theorem State.markerDone_staged (m : Marker) : (s.markerDone m).mgp.staged = s.mgp.staged := by
  unfold State.markerDone
  dsimp only
  simp

@[simp] theorem State.fenceArrival_staged : s.fenceArrival.mgp.staged = s.mgp.staged := by
  unfold State.fenceArrival
  dsimp only
  (repeat' split) <;> simp

/-! ### The host's side -/

@[simp] theorem State.mergeWrite_staged (w : PendingWrite) : (s.mergeWrite w).mgp.staged = s.mgp.staged := by
  unfold State.mergeWrite
  dsimp only
  simp

@[simp] theorem State.allocateAndAccept_staged (w : PendingWrite) :
    (s.allocateAndAccept w).mgp.staged = s.mgp.staged := by
  unfold State.allocateAndAccept
  dsimp only
  (repeat' split) <;> simp

@[simp] theorem State.takeEntry_staged (w : PendingWrite) : (s.takeEntry w).mgp.staged = s.mgp.staged := by
  unfold State.takeEntry
  dsimp only
  (repeat' split) <;> simp

@[simp] theorem State.placeWrite_staged (w : PendingWrite) : (s.placeWrite w).mgp.staged = s.mgp.staged := by
  unfold State.placeWrite
  (repeat' split) <;> simp

@[simp] theorem State.readArrives_staged (loc : Loc) (positions : List Nat) :
    (s.readArrives loc positions).mgp.staged = s.mgp.staged := by
  unfold State.readArrives
  (repeat' split) <;> simp

@[simp] theorem State.handOn_staged (x : Decoded) (addr : BitVec 23) (even odd : Bool) (dir : Dir) (hd : Half) :
    (s.handOn x addr even odd dir hd).mgp.staged = s.mgp.staged := by
  unfold State.handOn
  split <;> simp

@[simp] theorem State.decodeAccess_staged (addr : BitVec 23) (even odd : Bool) (dir : Dir) (hd : Half) :
    (s.decodeAccess addr even odd dir hd).mgp.staged = s.mgp.staged := by
  unfold State.decodeAccess
  dsimp only
  (repeat' split) <;> simp

@[simp] theorem State.accessArrives_staged (ha : BitVec 22) (hbl hbh hrd hwr : Bool) (hd : Half) :
    (s.accessArrives ha hbl hbh hrd hwr hd).mgp.staged = s.mgp.staged := by
  unfold State.accessArrives
  dsimp only
  (repeat' split) <;> simp

@[simp] theorem State.strobeReleased_staged : s.strobeReleased.mgp.staged = s.mgp.staged := by
  unfold State.strobeReleased State.abandon
  dsimp only
  (repeat' split) <;> simp

@[simp] theorem State.timeoutAccess_staged (a : Access) : (s.timeoutAccess a).mgp.staged = s.mgp.staged := by
  simp [State.timeoutAccess]

@[simp] theorem State.stallExpires_staged : s.stallExpires.mgp.staged = s.mgp.staged := by
  unfold State.stallExpires
  dsimp only
  (repeat' split) <;> simp

@[simp] theorem State.readsOffline_staged (d : Dev) : (s.readsOffline d).mgp.staged = s.mgp.staged := by
  unfold State.readsOffline
  dsimp only
  (repeat' split) <;> simp

/-! ### The drain engines -/

@[simp] theorem State.loseContext_staged (d : Dev) (c : Ctx) (k : FaultKind) :
    (s.loseContext d c k).mgp.staged = s.mgp.staged := by
  simp [State.loseContext]

@[simp] theorem State.endByPersist_staged (d : Dev) (c : Ctx) : (s.endByPersist d c).mgp.staged = s.mgp.staged := by
  unfold State.endByPersist
  dsimp only
  (repeat' split) <;> simp

@[simp] theorem State.enterAwait_staged (d : Dev) (c : Ctx) : (s.enterAwait d c).mgp.staged = s.mgp.staged := by
  unfold State.enterAwait
  dsimp only
  (repeat' split) <;> simp

@[simp] theorem State.unremappable_staged (d : Dev) (c : Ctx) (changed : Bool) :
    (s.unremappable d c changed).mgp.staged = s.mgp.staged := by
  unfold State.unremappable
  dsimp only
  (repeat' split) <;> simp

theorem State.takeSpare_staged {s t : State} {d : Dev} {p : Nat} (h : s.takeSpare d = some (p, t)) :
    t.mgp.staged = s.mgp.staged := by
  unfold State.takeSpare at h
  split at h <;> cases h
  split <;> simp

@[simp] theorem State.retireProgram_staged (d : Dev) (c : Ctx) (image : List Byte) :
    (s.retireProgram d c image).mgp.staged = s.mgp.staged := by
  unfold State.retireProgram
  (repeat' split)
  · simp
  · next taken => simp [State.takeSpare_staged taken]
  · simp

@[simp] theorem State.retireRead_staged (d : Dev) (c : Ctx) (changed : Bool) :
    (s.retireRead d c changed).mgp.staged = s.mgp.staged := by
  unfold State.retireRead
  (repeat' split) <;> simp

@[simp] theorem State.stopEngine_staged (d : Dev) : (s.stopEngine d).mgp.staged = s.mgp.staged := by
  unfold State.stopEngine
  dsimp only
  (repeat' split) <;> simp

@[simp] theorem State.awaitAgain_staged (d : Dev) (c : Ctx) : (s.awaitAgain d c).mgp.staged = s.mgp.staged := by
  unfold State.awaitAgain
  (repeat' split) <;> simp

@[simp] theorem State.resumeEngine_staged (d : Dev) : (s.resumeEngine d).mgp.staged = s.mgp.staged := by
  unfold State.resumeEngine
  dsimp only
  (repeat' split) <;> simp

@[simp] theorem State.programExpires_staged (d : Dev) : (s.programExpires d).mgp.staged = s.mgp.staged := by
  unfold State.programExpires
  dsimp only
  (repeat' split) <;> simp

@[simp] theorem State.retireOnRequest_staged (d : Dev) (page : Nat) :
    (s.retireOnRequest d page).mgp.staged = s.mgp.staged := by
  simp [State.retireOnRequest]

/-! ### The state controller -/

@[simp] theorem State.enterRun_staged : s.enterRun.mgp.staged = s.mgp.staged := by
  simp [State.enterRun]

@[simp] theorem State.cleanFailed_staged : s.cleanFailed.mgp.staged = s.mgp.staged := by
  simp [State.cleanFailed]

@[simp] theorem State.refuseHeld_staged : s.refuseHeld.mgp.staged = s.mgp.staged := by
  unfold State.refuseHeld
  dsimp only
  (repeat' split) <;> simp

@[simp] theorem State.leaveRun_staged : s.leaveRun.mgp.staged = s.mgp.staged := by
  simp [State.leaveRun]

@[simp] theorem State.enterHoldup_staged : s.enterHoldup.mgp.staged = s.mgp.staged := by
  simp [State.enterHoldup]

@[simp] theorem State.enterStopped_staged : s.enterStopped.mgp.staged = s.mgp.staged := by
  simp [State.enterStopped]

@[simp] theorem State.enterRestarting_staged : s.enterRestarting.mgp.staged = s.mgp.staged := by
  simp [State.enterRestarting]

@[simp] theorem State.beginReturn_staged : s.beginReturn.mgp.staged = s.mgp.staged := by
  unfold State.beginReturn
  dsimp only
  (repeat' split) <;> simp

@[simp] theorem State.enterDumped_staged : s.enterDumped.mgp.staged = s.mgp.staged := by
  unfold State.enterDumped
  dsimp only
  (repeat' split) <;> simp

@[simp] theorem State.holdupEnds_staged : s.holdupEnds.mgp.staged = s.mgp.staged := by
  unfold State.holdupEnds
  dsimp only
  (repeat' split) <;> simp

@[simp] theorem State.writeFailed_staged (w : ScWrite) : (s.writeFailed w).mgp.staged = s.mgp.staged := by
  unfold State.writeFailed
  dsimp only
  (repeat' split) <;> simp

@[simp] theorem State.pfailRises_staged : s.pfailRises.mgp.staged = s.mgp.staged := by
  unfold State.pfailRises
  dsimp only
  (repeat' split) <;> simp

@[simp] theorem State.pfailFalls_staged : s.pfailFalls.mgp.staged = s.mgp.staged := by
  unfold State.pfailFalls
  dsimp only
  (repeat' split) <;> simp

/-! ### The metadata unit and the memory port -/

@[simp] theorem State.raiseFault_staged (k : Kind) : (s.raiseFault k).mgp.staged = s.mgp.staged := by
  unfold State.raiseFault
  dsimp only
  (repeat' split) <;> simp

@[simp] theorem State.muOffline_staged : s.muOffline.mgp.staged = s.mgp.staged := by
  unfold State.muOffline
  dsimp only
  (repeat' split) <;> simp

@[simp] theorem State.muProgramExpires_staged : s.muProgramExpires.mgp.staged = s.mgp.staged := by
  unfold State.muProgramExpires
  dsimp only
  (repeat' split) <;> simp

@[simp] theorem State.markOffline_staged (d : Dev) : (s.markOffline d).mgp.staged = s.mgp.staged := by
  unfold State.markOffline
  dsimp only
  (repeat' split) <;> simp

@[simp] theorem State.resetExpires_staged (d : Dev) : (s.resetExpires d).mgp.staged = s.mgp.staged := by
  unfold State.resetExpires
  dsimp only
  (repeat' split) <;> simp

@[simp] theorem State.grantTo_staged (r : Request) : (s.grantTo r).mgp.staged = s.mgp.staged := by
  unfold State.grantTo
  dsimp only
  (repeat' split) <;> simp

/-! ### The requests of the port -/

@[simp] theorem State.advanceAt_staged (i : Byte) : (s.advanceAt i).mgp.staged = s.mgp.staged := by
  unfold State.advanceAt
  split <;> rfl

@[simp] theorem State.takeFence_staged : s.takeFence.mgp.staged = s.mgp.staged := by
  simp [State.takeFence]

@[simp] theorem State.takeRestart_staged : s.takeRestart.mgp.staged = s.mgp.staged := by
  unfold State.takeRestart
  (repeat' split) <;> simp

@[simp] theorem State.takeRetirePage_staged : s.takeRetirePage.mgp.staged = s.mgp.staged := by
  unfold State.takeRetirePage
  (repeat' split) <;> simp

@[simp] theorem State.takePopFault_staged : s.takePopFault.mgp.staged = s.mgp.staged := rfl

@[simp] theorem State.takeSelectRemap_staged : s.takeSelectRemap.mgp.staged = s.mgp.staged := by
  unfold State.takeSelectRemap
  dsimp only
  (repeat' split) <;> simp

@[simp] theorem State.takeClearCounters_staged : s.takeClearCounters.mgp.staged = s.mgp.staged := rfl

@[simp] theorem State.takeClearStatus_staged : s.takeClearStatus.mgp.staged = s.mgp.staged := by
  unfold State.takeClearStatus
  dsimp only
  (repeat' split) <;> simp

end

end Sys2Proof.Machine
end

section
/-! What the commands leave of the memory devices, the input lines and the staged table (R114, R121, R156, R176, R179). -/

namespace Sys2Proof.Machine

/- One theorem after another: waiting ones would each hold a thread. -/
set_option Elab.async false

/-! ### The steps of the same event, and the staged table -/

section
variable {s t : State}

theorem State.bootStarts_staged (h : s.bootStarts = some t) : t.mgp.staged = s.mgp.staged := by
  unfold State.bootStarts at h
  split at h <;> cases h
  dsimp only
  split <;> simp

theorem State.fillPending_staged (h : s.fillPending = some t) : t.mgp.staged = s.mgp.staged := by
  unfold State.fillPending at h
  (repeat' split at h) <;> cases h
  simp

theorem State.completeHead_staged (h : s.completeHead = some t) : t.mgp.staged = s.mgp.staged := by
  unfold State.completeHead at h
  (repeat' split at h) <;> cases h
  simp

theorem State.completeWait_staged (h : s.completeWait = some t) : t.mgp.staged = s.mgp.staged := by
  unfold State.completeWait at h
  split at h
  · exact nomatch h
  · split at h <;> cases h
    simp

theorem State.swap_staged (h : s.swap = some t) : t.mgp.staged = s.mgp.staged := by
  unfold State.swap at h
  (repeat' split at h) <;> cases h <;> rfl

theorem State.endContext_staged (d : Dev) (h : s.endContext d = some t) : t.mgp.staged = s.mgp.staged := by
  unfold State.endContext at h
  (repeat' split at h) <;> cases h
  simp

theorem State.endByFault_staged (d : Dev) (h : s.endByFault d = some t) : t.mgp.staged = s.mgp.staged := by
  unfold State.endByFault at h
  (repeat' split at h) <;> cases h
  simp

theorem State.holdupEnd_staged (h : s.holdupEnd = some t) : t.mgp.staged = s.mgp.staged := by
  unfold State.holdupEnd at h
  split at h <;> cases h
  simp

theorem State.gather_staged (d : Dev) (h : s.gather d = some t) : t.mgp.staged = s.mgp.staged := by
  unfold State.gather at h
  dsimp only at h
  (repeat' split at h) <;> cases h <;> simp

theorem State.takeWrite_staged (h : s.takeWrite = some t) : t.mgp.staged = s.mgp.staged := by
  unfold State.takeWrite at h
  dsimp only at h
  split at h <;> cases h
  split <;> simp

theorem State.grant_staged (h : s.grant = some t) : t.mgp.staged = s.mgp.staged := by
  unfold State.grant at h
  split at h
  · obtain ⟨r, -, rfl⟩ := Option.map_eq_some_iff.1 h
    simp
  · exact nomatch h

theorem State.stoppedReset_eq (h : s.stoppedReset = some t) : t = s.internalReset := by
  unfold State.stoppedReset at h
  split at h <;> cases h
  rfl

theorem State.restartEnd_eq (h : s.restartEnd = some t) : t = s.internalReset := by
  unfold State.restartEnd at h
  split at h <;> cases h
  rfl

end

/-! ### What a step of the same event leaves (R121, R179) -/

/-- The lines, what the devices hold, and the staged table are as they were. -/
structure State.Quiet (s t : State) : Prop where
  pins    : t.pins = s.pins := by simp
  nvm     : t.nvm = s.nvm := by simp
  indet   : t.indet = s.indet := by simp
  samples : t.samples = s.samples := by simp
  staged  : t.mgp.staged = s.mgp.staged := by simp

theorem State.Quiet.trans {s t u : State} (h : s.Quiet t) (k : t.Quiet u) : s.Quiet u where
  pins := k.pins.trans h.pins
  nvm := k.nvm.trans h.nvm
  indet := k.indet.trans h.indet
  samples := k.samples.trans h.samples
  staged := k.staged.trans h.staged

/-- Of the steps of the same event only an internal cold reset changes one of them. -/
theorem Due.quiet_or_reset {s t : State} (h : Due s t) : s.Quiet t ∨ t = s.internalReset := by
  cases h with
  | bootStarts h => refine .inl ⟨?_, ?_, ?_, ?_, State.bootStarts_staged h⟩ <;> simp [State.bootStarts_frame h]
  | fillPending h => refine .inl ⟨?_, ?_, ?_, ?_, State.fillPending_staged h⟩ <;> simp [State.fillPending_frame h]
  | completeHead h => refine .inl ⟨?_, ?_, ?_, ?_, State.completeHead_staged h⟩ <;> simp [State.completeHead_frame h]
  | completeWait h => refine .inl ⟨?_, ?_, ?_, ?_, State.completeWait_staged h⟩ <;> simp [State.completeWait_frame h]
  | swap h => refine .inl ⟨?_, ?_, ?_, ?_, State.swap_staged h⟩ <;> simp [State.swap_frame h]
  | endContext d h => refine .inl ⟨?_, ?_, ?_, ?_, State.endContext_staged d h⟩ <;> simp [State.endContext_frame d h]
  | endByFault d h => refine .inl ⟨?_, ?_, ?_, ?_, State.endByFault_staged d h⟩ <;> simp [State.endByFault_frame d h]
  | holdupEnd h => refine .inl ⟨?_, ?_, ?_, ?_, State.holdupEnd_staged h⟩ <;> simp [State.holdupEnd_frame h]
  | stoppedReset h => exact .inr (State.stoppedReset_eq h)
  | replayEnd h => refine .inl ⟨?_, ?_, ?_, ?_, ?_⟩ <;> simp [State.replayEnd_frame h]
  | restartEnd h => exact .inr (State.restartEnd_eq h)
  | gather d h => refine .inl ⟨?_, ?_, ?_, ?_, State.gather_staged d h⟩ <;> simp [State.gather_frame d h]
  | takeWrite h => refine .inl ⟨?_, ?_, ?_, ?_, State.takeWrite_staged h⟩ <;> simp [State.takeWrite_frame h]
  | startPersist h => refine .inl ⟨?_, ?_, ?_, ?_, ?_⟩ <;> simp [State.startPersist_frame h]
  | hostAsks h => refine .inl ⟨?_, ?_, ?_, ?_, ?_⟩ <;> simp [State.hostAsks_frame h]
  | fetchAsks h => refine .inl ⟨?_, ?_, ?_, ?_, ?_⟩ <;> simp [State.fetchAsks_frame h]
  | grant h => refine .inl ⟨?_, ?_, ?_, ?_, State.grant_staged h⟩ <;> simp [State.grant_frame h]

/-- Every line keeps its level, but MADR where it has been sampled afresh (R176). -/
structure State.LinesKept (s t : State) : Prop where
  levels  : t.pins = { s.pins with madr := t.pins.madr }
  samples : s.samples ≤ t.samples
  pins    : t.samples = s.samples → t.pins = s.pins

theorem State.LinesKept.trans {s t u : State} (h : s.LinesKept t) (k : t.LinesKept u) : s.LinesKept u where
  levels := by rw [k.levels, h.levels]
  samples := h.samples.trans k.samples
  pins same := by
    have first : t.samples = s.samples := le_antisymm (k.samples.trans same.le) h.samples
    exact (k.pins (same.trans first.symm)).trans (h.pins first)

theorem State.LinesKept.of_same {s t : State} (pins : t.pins = s.pins) (samples : t.samples = s.samples) :
    s.LinesKept t :=
  ⟨by rw [pins], samples.ge, fun _ => pins⟩

theorem State.internalReset_linesKept (s : State) : s.LinesKept s.internalReset where
  levels := by simp
  samples := by simp
  pins same := absurd same (by simp)

theorem Due.linesKept {s t : State} (h : Due s t) : s.LinesKept t := by
  obtain quiet | rfl := h.quiet_or_reset
  · exact .of_same quiet.pins quiet.samples
  · exact s.internalReset_linesKept

theorem State.settle_linesKept (s : State) : s.LinesKept s.settle :=
  State.settle_keeps (P := fun t => s.LinesKept t) (fun _ _ h kept => kept.trans (due_of_firstDue h).linesKept)
    (.of_same rfl rfl)

theorem State.event_linesKept {s : State} {f : State → State} (kept : s.LinesKept (f s)) : s.LinesKept (s.event f) := by
  unfold State.event
  split
  · exact kept.trans (f s).settle_linesKept
  · exact .of_same rfl rfl

/-! ### After an internal cold reset (R157, R179) -/

/-- What of an internal cold reset stands while the event goes on: the staged table is zero, and nothing changes it, as the
part is in BOOT or STOPPED, with the buffer empty and no write asked for. -/
structure State.ResetStands (s : State) : Prop where
  staged  : s.mgp.staged = Table.zero
  state   : s.sc.state = .boot ∨ s.sc.state = .stopped
  entries : s.pwb.entries = []
  filled  : s.pwb.waiting = none
  unasked : s.mu.waiting = none

theorem State.internalReset_resetStands (s : State) : s.internalReset.ResetStands := ⟨rfl, .inl rfl, rfl, rfl, rfl⟩

/-- A step that leaves the controller, the buffer and the write asked for as they are leaves it. -/
theorem State.ResetStands.of_same {s t : State} (h : s.ResetStands) (quiet : s.Quiet t) (sc : t.sc = s.sc)
    (pwb : t.pwb = s.pwb) (write : t.mu.waiting = s.mu.waiting) : t.ResetStands where
  staged := quiet.staged.trans h.staged
  state := sc ▸ h.state
  entries := pwb ▸ h.entries
  filled := pwb ▸ h.filled
  unasked := write.trans h.unasked

/-- The end of a context leaves it: it frees no entry, as there is none. -/
theorem State.ResetStands.of_works {s t : State} (h : s.ResetStands) (quiet : s.Quiet t) (works : s.Works t)
    (entries : t.pwb.entries = []) : t.ResetStands where
  staged := quiet.staged.trans h.staged
  state := works.controller ▸ h.state
  entries := entries
  filled := works.waiting.trans h.filled
  unasked := works.write.trans h.unasked

theorem State.declareLost_empty {s : State} (empty : s.pwb.entries = []) (p : Entry → Bool) :
    (s.declareLost p).pwb.entries = [] := by
  simp [State.declareLost, State.freeWhere, empty]

theorem State.loseContext_empty {s : State} (empty : s.pwb.entries = []) (d : Dev) (c : Ctx) (k : FaultKind) :
    (s.loseContext d c k).pwb.entries = [] := by
  simp [State.loseContext, State.declareLost_empty empty]

theorem State.endByPersist_empty {s : State} (empty : s.pwb.entries = []) (d : Dev) (c : Ctx) :
    (s.endByPersist d c).pwb.entries = [] := by
  unfold State.endByPersist
  dsimp only
  (repeat' split) <;> simp [State.loseContext_empty empty, State.freeWhere, empty]

@[simp] theorem State.stopEngine_pwb (s : State) (d : Dev) : (s.stopEngine d).pwb = s.pwb := by
  unfold State.stopEngine
  dsimp only
  (repeat' split) <;> simp

theorem State.endContext_empty {s t : State} (empty : s.pwb.entries = []) {d : Dev} (h : s.endContext d = some t) :
    t.pwb.entries = [] := by
  unfold State.endContext at h
  (repeat' split at h) <;> cases h
  exact State.endByPersist_empty empty d _

theorem State.endByFault_empty {s t : State} (empty : s.pwb.entries = []) {d : Dev} (h : s.endByFault d = some t) :
    t.pwb.entries = [] := by
  unfold State.endByFault at h
  (repeat' split at h) <;> cases h
  exact State.loseContext_empty empty d _ _

/-- Boot leaves it: the part probes, or is STOPPED (R157). -/
theorem State.ResetStands.bootStarts {s t : State} (stands : s.ResetStands) (h : s.bootStarts = some t) :
    t.ResetStands := by
  unfold State.bootStarts at h
  split at h
  case isFalse => exact nomatch h
  case isTrue begins =>
    obtain ⟨boot, -⟩ := begins
    cases h
    dsimp only
    split
    · exact ⟨by simp [stands.staged], .inr (State.enterStopped_state _), by simp [State.enterStopped, stands.entries],
        by simp [State.enterStopped, stands.filled], by simp [State.enterStopped]⟩
    · exact ⟨by simp [stands.staged], .inl (by simp [State.startProbe, boot]), by simp [stands.entries],
        by simp [stands.filled], by simp [stands.unasked]⟩

theorem Due.resetStands {s t : State} (h : Due s t) (stands : s.ResetStands) : t.ResetStands := by
  obtain quiet | rfl := h.quiet_or_reset
  case inr => exact s.internalReset_resetStands
  case inl =>
    have other {x : OpState} (boot : x ≠ .boot) (stopped : x ≠ .stopped) : s.sc.state ≠ x := fun h =>
      stands.state.elim (fun k => boot (h.symm.trans k)) fun k => stopped (h.symm.trans k)
    cases h with
    | bootStarts h => exact stands.bootStarts h
    | fillPending h => exact absurd h (by simp [State.fillPending, stands.filled])
    | completeHead h =>
      have works := State.completeHead_works h
      exact stands.of_same quiet works.controller (by simp [State.completeHead_frame h]) works.write
    | completeWait h =>
      exact stands.of_same quiet (by simp [State.completeWait_frame h]) (by simp [State.completeWait_frame h])
        (by simp [State.completeWait_frame h])
    | swap h =>
      have works := State.swap_works h
      exact stands.of_same quiet works.controller (by simp [State.swap_frame h]) works.write
    | endContext d h =>
      exact stands.of_works quiet (State.endContext_works h) (State.endContext_empty stands.entries h)
    | endByFault d h =>
      exact stands.of_works quiet (State.endByFault_works h) (State.endByFault_empty stands.entries h)
    | holdupEnd h => exact absurd h (by simp [State.holdupEnd, other])
    | stoppedReset h =>
      rw [State.stoppedReset_eq h]
      exact s.internalReset_resetStands
    | replayEnd h => exact absurd h (by simp [State.replayEnd, other])
    | restartEnd h => exact absurd h (by simp [State.restartEnd, other])
    | gather d h => exact absurd h (by simp [State.gather, State.gatherable, other])
    | takeWrite h => exact absurd h (by simp [State.takeWrite, stands.unasked])
    | startPersist h => exact absurd h (by simp [State.startPersist, State.persistDue, other])
    | hostAsks h =>
      exact stands.of_same quiet (by simp [State.hostAsks_frame h]) (by simp [State.hostAsks_frame h])
        (by simp [State.hostAsks_frame h])
    | fetchAsks h =>
      exact stands.of_same quiet (by simp [State.fetchAsks_frame h]) (by simp [State.fetchAsks_frame h])
        (by simp [State.fetchAsks_frame h])
    | grant h =>
      exact stands.of_same quiet (by simp [State.grant_frame h]) (by simp [State.grant_frame h])
        (by simp [State.grant_frame h])

/-- The staged table is that of a state, or a reset stands. -/
def State.StagedSince (s t : State) : Prop := t.mgp.staged = s.mgp.staged ∨ t.ResetStands

theorem Due.stagedSince {s t u : State} (h : Due t u) (since : s.StagedSince t) : s.StagedSince u := by
  obtain same | stands := since
  · obtain quiet | rfl := h.quiet_or_reset
    · exact .inl (quiet.staged.trans same)
    · exact .inr t.internalReset_resetStands
  · exact .inr (h.resetStands stands)

theorem State.StagedSince.settle {s t : State} (since : s.StagedSince t) : s.StagedSince t.settle :=
  State.settle_keeps (P := s.StagedSince) (fun _ _ h kept => (due_of_firstDue h).stagedSince kept) since

/-! ### What a command does before the steps of its event (R114, R121, R179) -/

/-- A command takes no event, or it is a quiet effect, or a step that is due, and what follows. -/
inductive State.Follows (s : State) : State → Prop
  | none : s.Follows s
  | quiet {u : State} (h : s.Quiet u) : s.Follows u.settle
  | due {u : State} (h : Due s u) : s.Follows u.settle

theorem State.event_follows {s : State} {f : State → State} (quiet : s.Quiet (f s)) : s.Follows (s.event f) := by
  unfold State.event
  split
  · exact .quiet quiet
  · exact .none

theorem State.named_follows {s : State} {f : State → Option State} (due : ∀ t, f s = some t → Due s t) :
    s.Follows (s.named f) := by
  unfold State.named State.event
  dsimp only
  split
  · cases hf : f s with
    | none => exact .quiet {}
    | some t => exact .due (due t hf)
  · exact .none

theorem State.Quiet.advanceAt {s t : State} (h : s.Quiet t) (i : Byte) : s.Quiet (t.advanceAt i) := h.trans {}

theorem State.request_quiet (s : State) (code : Byte) {take : State → State} (taken : ∀ u : State, u.Quiet (take u)) :
    s.Quiet (s.request code take) := by
  have coded : s.Quiet (s.setMgp { s.mgp with code := code }) := {}
  unfold State.request
  dsimp only
  split
  · exact coded.trans {}
  · exact coded.trans (taken _)

@[simp] theorem State.takeCommit_staged (s : State) : s.takeCommit.mgp.staged = s.mgp.staged := by
  cases refusal : s.commitRefusal with
  | some r =>
    rw [State.takeCommit_refused refusal]
    rfl
  | none =>
    rw [State.takeCommit_accepted refusal]
    cases swaps : s.imageTaken.swap with
    | none => rfl
    | some t => exact (State.swap_staged swaps).trans rfl

@[simp] theorem State.takeCode_staged (s : State) (code : Byte) : (s.takeCode code).mgp.staged = s.mgp.staged := by
  unfold State.takeCode
  split <;> simp

theorem ManagementPort.writeRemapIndex_staged (m : ManagementPort) (b : Byte) :
    (m.writeRemapIndex b).staged = m.staged := by
  unfold ManagementPort.writeRemapIndex
  split <;> rfl

theorem ManagementPort.setIndex_staged (m : ManagementPort) (b : Byte) : (m.setIndex b).staged = m.staged := by
  unfold ManagementPort.setIndex
  split <;> rfl

theorem ManagementPort.start_staged (m : ManagementPort) (b : Byte) : (m.start b).staged = m.staged := by
  unfold ManagementPort.start
  split <;> rfl

theorem State.byteRead_staged (s : State) (ack : Bool) : (s.byteRead ack).mgp.staged = s.mgp.staged := by
  unfold State.byteRead
  split <;> rfl

/-- The commands that are no event of the lines or the supplies, and touch neither the devices nor the staged table. -/
theorem exec_follows {i : Instr} (pins : touchesPins i = false) (staged : touchesStaged i = false) {s t : State}
    (h : exec i s = .next t) : s.Follows t := by
  have event {f : State → State} (quiet : s.Quiet (f s)) : s.Follows (s.event f) := State.event_follows quiet
  have named {f : State → Option State} (due : ∀ t, f s = some t → Due s t) : s.Follows (s.named f) :=
    State.named_follows due
  have request {take : State → State} (code : Byte) (taken : ∀ u : State, u.Quiet (take u)) :
      s.Follows (s.event fun s => (s.request code take).advanceAt 0x0C) :=
    event ((s.request_quiet code taken).advanceAt _)
  have port {m : ManagementPort} (same : m.staged = s.mgp.staged) : s.Quiet (s.setMgp m) := { staged := same }
  cases i <;> injection h with h <;> subst h
  case hostAccessArrival => exact event {}
  case pendingAllocationFill => exact named fun _ => .fillPending
  case hostStrobeRelease => exact event {}
  case stallLimitExpiry => exact event {}
  case sealDeadlineExpiry => exact event {}
  case fenceLineRisingEdge => exact event {}
  case markerCompletion => exact named fun _ => .completeHead
  case writeThroughCompletion => exact named fun _ => .completeWait
  case pdonePulseEnd => exact event {}
  case arbiterGrant => exact named fun _ => .grant
  case memoryTransferEnd => exact nomatch staged
  case statusPollDue => exact event {}
  case suspendAckLimitExpiry => exact event {}
  case programTimeLimitExpiry => exact event {}
  case metadataProgramTimeExpiry => exact event {}
  case resetDeadlineExpiry => exact event {}
  case drainGather => exact named fun _ => .gather _
  case persistDoneContextEnd => exact named fun _ => .endContext _
  case persistStart => exact named fun _ => .startPersist
  case writeRequestTaken => exact named fun _ => .takeWrite
  case pfailAssert => exact nomatch pins
  case holdupEnd => exact named fun _ => .holdupEnd
  case pfailRelease => exact nomatch pins
  case stoppedQuietReset => exact named fun _ => .stoppedReset
  case resetAssert => exact nomatch pins
  case resetRelease => exact nomatch pins
  case powerUp => exact nomatch pins
  case replayEnd => exact named fun _ => .replayEnd
  case restartEnd => exact named fun _ => .restartEnd
  case commit => exact request 1 fun _ => {}
  case commitSwap => exact named fun _ => .swap
  case fence => exact request 2 fun _ => {}
  case restart => exact request 3 fun _ => {}
  case retirePage => exact request 4 fun _ => {}
  case popFault => exact request 5 fun _ => {}
  case selectRemap => exact request 6 fun _ => {}
  case clearCounters => exact request 7 fun _ => {}
  case clearStatus => exact request 8 fun _ => {}
  case unknownRequestCode code => exact request code fun _ => {}
  case eventFlagsWrite => exact event ((port (by rfl)).advanceAt _)
  case eventEnablesWrite => exact event ((port (by rfl)).advanceAt _)
  case remapViewIndexWrite => exact event ((port (s.mgp.writeRemapIndex_staged _)).advanceAt _)
  case mapByteWrite => exact nomatch staged
  case indexSet => exact event (port (s.mgp.setIndex_staged _))
  case snapshotCapture ack => exact event { staged := s.byteRead_staged ack }
  case transactionEnd => exact event (port rfl)
  case pdonePulseStart => exact event {}
  case transactionStart => exact event (port (s.mgp.start_staged _))
  case powerLoss => exact nomatch pins

/-! ### What the commands keep (R114, R121, R176, R179) -/

section
variable {s t : State}

theorem State.Follows.linesKept (h : s.Follows t) : s.LinesKept t := by
  cases h with
  | none => exact .of_same rfl rfl
  | quiet h => exact (State.LinesKept.of_same h.pins h.samples).trans (State.settle_linesKept _)
  | due h => exact h.linesKept.trans (State.settle_linesKept _)

theorem Due.storeKept (h : Due s t) : t.nvm = s.nvm ∧ t.indet = s.indet := by
  obtain quiet | rfl := h.quiet_or_reset
  · exact ⟨quiet.nvm, quiet.indet⟩
  · simp

theorem State.Follows.storeKept (h : s.Follows t) : t.nvm = s.nvm ∧ t.indet = s.indet := by
  cases h with
  | none => exact ⟨rfl, rfl⟩
  | quiet h => simp [h.nvm, h.indet]
  | due h => simp [h.storeKept]

theorem State.Follows.stagedSince (h : s.Follows t) : s.StagedSince t := by
  cases h with
  | none => exact .inl rfl
  | quiet h => exact State.StagedSince.settle (.inl h.staged)
  | due h => exact (h.stagedSince (.inl rfl)).settle

/-- An event of the PFAIL line is no other event, or it follows the change of the line's level (R156). -/
theorem exec_pfail_follows {i : Instr} (line : i = .pfailAssert ∨ i = .pfailRelease) (h : exec i s = .next t) :
    s.Follows t ∨ ∃ level, (s.pfailLine level).Follows t := by
  have still : s.Follows (s.event id) := State.event_follows {}
  have rises := State.event_follows (s := s.pfailLine true) (f := State.pfailRises) {}
  have falls := State.event_follows (s := s.pfailLine false) (f := State.pfailFalls) {}
  obtain rfl | rfl := line <;> injection h with h <;> subst h <;> split
  · exact .inl still
  · exact .inr ⟨_, rises⟩
  · exact .inr ⟨_, falls⟩
  · exact .inl still

theorem State.event_storeKept {f : State → State} (nvm : (f s).nvm = s.nvm) (indet : (f s).indet = s.indet) :
    (s.event f).nvm = s.nvm ∧ (s.event f).indet = s.indet := by
  unfold State.event
  split <;> simp [nvm, indet]

theorem exec_storeKept {i : Instr} (memory : touchesMemory i = false) (h : exec i s = .next t) :
    t.nvm = s.nvm ∧ t.indet = s.indet := by
  have pfail (line : i = .pfailAssert ∨ i = .pfailRelease) : t.nvm = s.nvm ∧ t.indet = s.indet := by
    obtain follows | ⟨level, follows⟩ := exec_pfail_follows line h
    · exact follows.storeKept
    · exact follows.storeKept
  cases i with
  | pfailAssert => exact pfail (.inl rfl)
  | pfailRelease => exact pfail (.inr rfl)
  | resetAssert =>
    injection h with h
    subst h
    (repeat' split) <;> simp
  | resetRelease madr =>
    injection h with h
    subst h
    (repeat' split)
    · exact State.event_storeKept rfl rfl
    · simp
    · simp
  | mapByteWrite b =>
    injection h with h
    subst h
    exact State.event_storeKept (by simp) (by simp)
  | memoryTransferEnd answer => exact nomatch memory
  | powerUp pfail madr => exact nomatch memory
  | powerLoss => exact nomatch memory
  | _ => exact (exec_follows rfl rfl h).storeKept

theorem State.nvmSpoil_samples (s : State) (d : Dev) : (s.nvmSpoil d).samples = s.samples := by
  unfold State.nvmSpoil
  dsimp only
  split <;> rfl

theorem State.programReady_samples (s : State) (d : Dev) (pass : Bool) : (s.programReady d pass).samples = s.samples := by
  unfold State.programReady
  dsimp only
  (repeat' split) <;> simp [State.nvmSpoil_samples]

theorem State.statusReturned_samples (s : State) (d : Dev) (r : StatusResult) :
    (s.statusReturned d r).samples = s.samples := by
  unfold State.statusReturned
  split <;> simp [State.programReady_samples]

theorem State.resetTaken_samples (s : State) (q : Requester) (d : Dev) : (s.resetTaken q d).samples = s.samples := by
  unfold State.resetTaken
  dsimp only
  split <;> simp [State.nvmSpoil_samples]

theorem State.transferEnds_samples (s : State) (answer : BusAnswer) : (s.transferEnds answer).samples = s.samples := by
  unfold State.transferEnds
  dsimp only
  (repeat' split) <;> simp [State.statusReturned_samples, State.resetTaken_samples]

theorem exec_linesKept {i : Instr} (pins : touchesPins i = false) (h : exec i s = .next t) : s.LinesKept t := by
  cases i with
  | mapByteWrite b =>
    injection h with h
    subst h
    exact State.event_linesKept (.of_same (by simp) (by simp))
  | memoryTransferEnd answer =>
    injection h with h
    subst h
    exact State.event_linesKept (.of_same (by simp) (s.transferEnds_samples answer))
  | pfailAssert => exact nomatch pins
  | pfailRelease => exact nomatch pins
  | resetAssert => exact nomatch pins
  | resetRelease madr => exact nomatch pins
  | powerUp pfail madr => exact nomatch pins
  | powerLoss => exact nomatch pins
  | _ => exact (exec_follows rfl rfl h).linesKept

theorem exec_stagedSince {i : Instr} (staged : touchesStaged i = false) (h : exec i s = .next t) : s.StagedSince t := by
  have pfail (line : i = .pfailAssert ∨ i = .pfailRelease) : s.StagedSince t := by
    obtain follows | ⟨level, follows⟩ := exec_pfail_follows line h
    · exact follows.stagedSince
    · exact follows.stagedSince
  cases i with
  | pfailAssert => exact pfail (.inl rfl)
  | pfailRelease => exact pfail (.inr rfl)
  | mapByteWrite b => exact nomatch staged
  | memoryTransferEnd answer => exact nomatch staged
  | resetAssert => exact nomatch staged
  | resetRelease madr => exact nomatch staged
  | powerUp pfail madr => exact nomatch staged
  | powerLoss => exact nomatch staged
  | _ => exact (exec_follows rfl rfl h).stagedSince

end

/-- Settles O3: a command is a quiet effect or a step that is due, and of the steps that follow only an internal cold reset
changes a line or the staged table. -/
theorem commandsKeep : Obligations.CommandsKeep := by
  refine ⟨fun i s t h => ⟨fun memory => exec_storeKept memory h, fun pins => ?lines⟩, fun i s t staged h => ?staged⟩
  case lines =>
    have kept := exec_linesKept pins h
    exact ⟨kept.levels, kept.pins⟩
  case staged => exact (exec_stagedSince staged h).imp_right fun stands => ⟨stands.staged, stands.state, stands.entries⟩

end Sys2Proof.Machine
end

section
/-! The order of boot (R126, R157), and the canonical form of the memory devices (R121): what every step keeps of them. -/

namespace Sys2Proof.Machine

/- One theorem after another: waiting ones would each hold a thread. -/
set_option Elab.async false

/-! ### The order of boot (R126, R157) -/

/-- Settles O11: each effect that a command is made of keeps nothing in hand before the probe, and nothing beside it. -/
theorem bootOrderKept : Obligations.BootOrderKept := fun _ _ h he =>
  step_keeps_of_effects (fun _ _ e => (keeps_of_effect e).order) h he

/-! ### The canonical form of the memory devices (R121) -/

section
variable {s t : State}

/-- The form is said of the devices alone. -/
theorem State.MemoryForm.congr (h : s.MemoryForm) (nvm : t.nvm = s.nvm) : t.MemoryForm := by
  unfold State.MemoryForm
  rw [nvm]
  exact h

theorem State.MemoryForm.programTaken (h : s.MemoryForm) (q : Requester) (d : Dev) (page : Nat)
    (bytes : List (Option Byte)) : (s.programTaken q d page bytes).MemoryForm := by
  refine (State.nvmStart_memoryForm h d page bytes).congr ?_
  unfold State.programTaken
  dsimp only
  split <;> simp

theorem State.MemoryForm.resetTaken (h : s.MemoryForm) (q : Requester) (d : Dev) : (s.resetTaken q d).MemoryForm := by
  refine (State.nvmSpoil_memoryForm h d).congr ?_
  unfold State.resetTaken
  dsimp only
  split <;> simp

theorem State.MemoryForm.programReady (h : s.MemoryForm) (d : Dev) (pass : Bool) : (s.programReady d pass).MemoryForm := by
  have ended : (if pass then s.nvmPass d else s.nvmSpoil d).MemoryForm := by
    split
    · exact State.nvmPass_memoryForm h d
    · exact State.nvmSpoil_memoryForm h d
  refine ended.congr ?_
  unfold State.programReady
  dsimp only
  (repeat' split) <;> simp

theorem State.MemoryForm.statusReturned (h : s.MemoryForm) (d : Dev) (r : StatusResult) :
    (s.statusReturned d r).MemoryForm := by
  unfold State.statusReturned
  split
  · exact h.programReady d true
  · exact h.programReady d false
  all_goals exact h.congr (by simp)

/-- A transfer that ends starts a program, aborts one, or brings the status that ends one; any other leaves the devices. -/
theorem State.MemoryForm.transferEnds (h : s.MemoryForm) (answer : BusAnswer) : (s.transferEnds answer).MemoryForm := by
  have free : (s.setMp { s.mp with bus := none }).MemoryForm := h
  unfold State.transferEnds
  split
  · exact h
  · dsimp only
    split
    · split <;> exact h.congr (by simp)
    · exact free.programTaken _ _ _ _
    · exact free.programTaken _ _ _ _
    · exact free.statusReturned _ _
    · exact h.congr (by simp)
    · exact h.congr (by simp)
    · exact free.resetTaken _ _
    · exact h.congr (by simp)

/-- The devices are touched by the end of a transfer, and by a supply that goes. -/
theorem memoryForm_of_effect (e : Effect s t) (h : s.MemoryForm) : t.MemoryForm := by
  cases e with
  | due due => exact h.congr due.storeKept.1
  | nvmSpoil d => exact State.nvmSpoil_memoryForm h d
  | transferEnds answer => exact h.transferEnds answer
  | _ => exact h.congr (by simp)

end

/-- Settles O13: a program that starts or ends leaves its device's pages in their order, with none of them blank. -/
theorem memoryFormKept : Obligations.MemoryFormKept := fun _ _ h he =>
  step_keeps_of_effects (fun _ _ => memoryForm_of_effect) h he

end Sys2Proof.Machine
end

section
/-! Cold reset by /RESET and at the supplies (R171, R175, R176, R191). -/

namespace Sys2Proof.Machine

/- One theorem after another: waiting ones would each hold a thread. -/
set_option Elab.async false

section
variable {s : State}

/-! ### Values after cold reset -/

theorem State.coldReset_allReset (s : State) : s.coldReset.AllReset :=
  ⟨⟨⟨rfl, rfl, rfl, rfl, rfl, rfl, rfl, rfl⟩, rfl, rfl, rfl⟩, rfl, rfl, rfl⟩

theorem State.coldReset_resetKeeps (s : State) : resetKeeps s s.coldReset := ⟨rfl, rfl, rfl, rfl, rfl, rfl, rfl⟩

theorem State.coldReset_coldResetOf (s : State) : coldResetOf s s.coldReset :=
  ⟨s.coldReset_allReset, s.coldReset_resetKeeps⟩

/-- PDONE's time low is the one value after cold reset that the line gives, so another low time is as good. -/
theorem coldResetOf.setFu_reset {t : State} (h : coldResetOf s t) : coldResetOf s (t.setFu FenceUnit.reset) := by
  obtain ⟨⟨⟨blocks, -, sc, mgp⟩, port⟩, keeps⟩ := h
  exact ⟨⟨⟨blocks, rfl, sc, mgp⟩, port⟩, keeps⟩

/-- The levels of R191, with every block at its value after cold reset and the part taking no event. -/
theorem State.AllReset.outputsHeld (h : s.AllReset) (held : s.alive = false) : s.outputsHeld := by
  obtain ⟨⟨⟨hp, -, -, -, -, -, mp, -⟩, fu, sc, -⟩, -⟩ := h
  have int : s.intAsserted = false := by
    unfold State.intAsserted
    exact (congrArg (· && _) held).trans (Bool.false_and _)
  refine ⟨?hwait, ?herr, ?hd, ?ready, ?pdone, int, ?msda, ?memory, fun d => ?select⟩
  case hwait => simp [State.hwait, hp, HostPort.reset]
  case herr => simp [State.herr, hp, HostPort.reset]
  case hd => simp [State.hd, hp, HostPort.reset]
  case ready => exact decide_eq_false (by rw [sc]; exact nofun)
  case pdone => exact (congrArg FenceUnit.high fu).trans rfl
  case msda => simp [State.msda, held]
  case memory => simp [State.memoryLines, held]
  case select => simp [State.chipSelect, mp, MemoryPort.reset]

/-! ### Programs cut off (R121, R171) -/

theorem State.nvmSpoil_running (s : State) (d : Dev) : ((s.nvmSpoil d).nvm.get d).running = none := by
  cases runs : (s.nvm.get d).running with
  | none => simp [State.nvmSpoil, runs]
  | some r => simp [State.nvmSpoil, runs]

theorem State.nvmSpoil_other (s : State) {d e : Dev} (h : e ≠ d) : (s.nvmSpoil d).nvm.get e = s.nvm.get e := by
  cases runs : (s.nvm.get d).running with
  | none => simp [State.nvmSpoil, runs]
  | some r => simp [State.nvmSpoil, runs, PerDev.get_set_other _ h]

/-- With the supplies gone no program runs in either device. -/
theorem State.supplyLost_running (s : State) (d : Dev) : (s.supplyLost.nvm.get d).running = none := by
  show (((s.nvmSpoil .d0).nvmSpoil .d1).nvm.get d).running = none
  cases d with
  | d0 => rw [State.nvmSpoil_other _ (by decide)]; exact s.nvmSpoil_running .d0
  | d1 => exact State.nvmSpoil_running _ .d1

end

/-- Settles O5: both ends of /RESET are a cold reset with the line's new level, and a part held in reset has the
levels of R191. -/
theorem resetLine : Obligations.ResetLine := by
  constructor
  case left =>
    intro s powered released
    have cold := ({ s with pins := { s.pins with reset := true } } : State).coldReset_coldResetOf
    refine ⟨s.resetAsserted, ?_, cold, cold.1.outputsHeld (by simp [State.alive])⟩
    simp [exec, execResetAssert, powered, released]
  case right =>
    intro s madr powered asserted
    refine ⟨s.resetReleased madr, ?_, (State.coldReset_coldResetOf _).setFu_reset⟩
    simp [exec, execResetRelease, powered, asserted]

/-- Settles O6: the loss and the return of the supplies are cold resets, the loss with both devices' programs cut
off first. -/
theorem supplies : Obligations.Supplies := by
  constructor
  case left =>
    intro s powered
    have cold : s.supplyLost.AllReset := (State.coldReset_coldResetOf _).setFu_reset.1
    have pins : s.supplyLost.pins = { s.pins with powered := false } := by simp [State.supplyLost]
    refine ⟨s.supplyLost, ?_, cold, cold.outputsHeld (by simp [State.alive, pins]), pins, rfl, s.supplyLost_running .d0,
      s.supplyLost_running .d1⟩
    simp [exec, execPowerLoss, powered]
  case right =>
    intro s pfail madr unpowered
    refine ⟨s.supplyUp pfail madr, ?_, (State.coldReset_coldResetOf _).setFu_reset⟩
    have alive : (s.supplyUp pfail madr).alive = !s.pins.reset := by simp [State.alive, State.supplyUp]
    simp only [exec, execPowerUp, unpowered, Bool.false_eq_true, if_false, State.event, alive]
    cases s.pins.reset <;> rfl

end Sys2Proof.Machine
end

section
/-! The classes, the eligibility and the arbiter's choice (R134 to R138). -/

namespace Sys2Proof.Machine

/- One theorem after another: waiting ones would each hold a thread. -/
set_option Elab.async false

/-! ### Classes (R135) -/

theorem Cmd.isMaintenance_iff (c : Cmd) :
    c.isMaintenance = true ↔ c = .suspend ∨ c = .resume ∨ c = .deviceReset ∨ c = .readStatus := by
  cases c <;> simp [Cmd.isMaintenance]

theorem Request.grantClass_eq (r : Request) : r.grantClass = match r.requester with
    | .port => 1
    | .hostRead => 2
    | .fetch => 2
    | .probe => 3
    | .mu => if r.cmd = .suspend ∨ r.cmd = .resume ∨ r.cmd = .deviceReset ∨ r.cmd = .readStatus then 1 else 3
    | .engine => if r.cmd = .suspend ∨ r.cmd = .resume ∨ r.cmd = .deviceReset ∨ r.cmd = .readStatus then 1 else 4
    | .refill => 5 := by
  cases own : r.requester <;> simp only [Request.grantClass, own, Cmd.isMaintenance_iff]

/-! ### Eligibility (R134, R136) -/

section
variable (s : State) (r : Request)

theorem State.isHeldRead_iff : s.isHeldRead r = true ↔
    (r.requester = .hostRead ∧ ∃ h, s.rp.host = some h ∧ h.phase = .suspendHeld) ∨
    (r.requester = .fetch ∧ ∃ f, s.rp.fetch = some f ∧ f.phase = .suspendHeld) := by
  unfold State.isHeldRead
  split
  case h_1 own => simp [own, Option.any_eq_true]
  case h_2 own => simp [own, Option.any_eq_true]
  case h_3 host fetch => exact iff_of_false Bool.false_ne_true fun held => held.elim (host ·.1) (fetch ·.1)

theorem State.eligible_iff : s.eligible r = true ↔
    (r.requester = .probe ∨ (s.dev r.dev).owner = some .probe ∨ (s.dev r.dev).state = .online ∨
      (s.dev r.dev).state = .writeLocked) ∧
    ((s.dev r.dev).activity = .idle → r.cmd ≠ .suspend ∧ r.cmd ≠ .resume ∧ r.cmd ≠ .readStatus) ∧
    ((s.dev r.dev).activity = .programming → r.cmd = .readStatus ∨ r.cmd = .suspend ∨ r.cmd = .deviceReset) ∧
    ((s.dev r.dev).activity = .suspended → r.cmd = .resume ∨ r.cmd = .deviceReset ∨
      (r.requester = .hostRead ∧ ∃ h, s.rp.host = some h ∧ h.phase = .suspendHeld) ∨
      (r.requester = .fetch ∧ ∃ f, s.rp.fetch = some f ∧ f.phase = .suspendHeld)) ∧
    ((s.dev r.dev).activity = .resetting → r.cmd = .readStatus) := by
  rw [State.eligible, Bool.and_eq_true, s.mayQueue_iff r, DevRecord.takes_iff, ← s.isHeldRead_iff r]
  refine and_congr Iff.rfl ?_
  cases (s.dev r.dev).activity <;> simp [and_assoc, or_assoc]

end

/-! ### The first eligible request of a kind (R135, R137) -/

/-- Of the eligible requests of its kind it has joined first. -/
structure State.FirstOf (s : State) (p : Request → Prop) (r : Request) : Prop where
  kind     : p r
  eligible : s.eligible r = true
  joined   : ∃ older newer, s.mp.reqs = older ++ r :: newer ∧ ∀ q ∈ older, s.eligible q = true → ¬p q

section
variable {s : State} {p : Request → Bool} {r : Request}

theorem State.firstOf_of_find (h : s.eligibles.find? p = some r) : s.FirstOf (p · = true) r := by
  simp only [State.eligibles, List.find?_filter, List.find?_eq_some_iff_append, decide_eq_true_eq] at h
  obtain ⟨⟨eligible, kind⟩, older, newer, split, before⟩ := h
  exact ⟨kind, eligible, older, newer, split, fun q hq he hp => by simpa [he, hp] using before q hq⟩

theorem State.FirstOf.mem {p : Request → Prop} (h : s.FirstOf p r) : r ∈ s.mp.reqs := by
  obtain ⟨older, newer, split, -⟩ := h.joined
  simp [split]

theorem State.none_of_find (h : s.eligibles.find? p = none) : ∀ q ∈ s.mp.reqs, s.eligible q = true → ¬p q = true := by
  simpa [State.eligibles] using h

end

/-! ### The choice (R137, R138) -/

/-- The starvation guard acts: a class 3 or 4 request takes the place of the class 2 request that is due (R138). -/
def State.Guarded (s : State) : Prop :=
  s.mp.starve = 8 ∧ (∀ q ∈ s.mp.reqs, s.eligible q = true → q.grantClass ≠ 1) ∧
    (∃ q ∈ s.mp.reqs, s.eligible q = true ∧ q.grantClass = 2) ∧
    ∃ q ∈ s.mp.reqs, s.eligible q = true ∧ (q.grantClass = 3 ∨ q.grantClass = 4)

/-- What the arbiter may choose: the first of the highest class, the first that the guard prefers, or nothing. -/
inductive State.Chooses (s : State) : Option Request → Prop
  | highest {k : Nat} {r : Request} (first : s.FirstOf (·.grantClass = k) r)
      (above : ∀ q ∈ s.mp.reqs, s.eligible q = true → k ≤ q.grantClass) (free : ¬s.Guarded) : s.Chooses (some r)
  | guarded {r : Request} (guard : s.Guarded) (first : s.FirstOf (fun q => q.grantClass = 3 ∨ q.grantClass = 4) r) :
      s.Chooses (some r)
  | nothing (idle : ∀ q ∈ s.mp.reqs, s.eligible q = false) : s.Chooses none

theorem State.choice_chooses (s : State) : s.Chooses s.choice := by
  have found {k : Nat} {r : Request} (h : s.eligibles.find? (fun q => q.grantClass = k) = some r) :
      s.FirstOf (·.grantClass = k) r := by simpa using State.firstOf_of_find h
  have absent {k : Nat} (h : s.eligibles.find? (fun q => q.grantClass = k) = none) :
      ∀ q ∈ s.mp.reqs, s.eligible q = true → q.grantClass ≠ k := by simpa using State.none_of_find h
  unfold State.choice
  dsimp only
  split
  case h_1 one =>
    have first := found one
    exact .highest first (fun q _ _ => q.grantClass_range.1)
      fun ⟨_, empty, _⟩ => empty _ first.mem first.eligible first.kind
  case h_2 r y empty₁ two yields =>
    have first := found two
    have yielding := State.firstOf_of_find yields
    simp only [Request.yielding_iff] at yielding
    split
    case isTrue full =>
      exact .guarded ⟨full, absent empty₁, ⟨r, first.mem, first.eligible, first.kind⟩,
        ⟨y, yielding.mem, yielding.eligible, yielding.kind⟩⟩ yielding
    case isFalse counts =>
      refine .highest first (fun q hq he => ?_) fun guard => counts guard.1
      have := absent empty₁ q hq he
      have := q.grantClass_range
      omega
  case h_3 r empty₁ two yields =>
    have unyielding := State.none_of_find yields
    simp only [Request.yielding_iff] at unyielding
    refine .highest (found two) (fun q hq he => ?_) fun ⟨_, _, _, q, hq, he, yielding⟩ => unyielding q hq he yielding
    have := absent empty₁ q hq he
    have := q.grantClass_range
    omega
  case h_4 empty₁ empty₂ =>
    have free : ¬s.Guarded := fun ⟨_, _, ⟨q, hq, he, two⟩, _⟩ => absent empty₂ q hq he two
    have above : ∀ q ∈ s.mp.reqs, s.eligible q = true → 3 ≤ q.grantClass := fun q hq he => by
      have := absent empty₁ q hq he
      have := absent empty₂ q hq he
      have := q.grantClass_range
      omega
    split
    case h_1 three => exact .highest (found three) above free
    case h_2 empty₃ four =>
      refine .highest (found four) (fun q hq he => ?_) free
      have := absent empty₃ q hq he
      have := above q hq he
      omega
    case h_3 empty₃ empty₄ =>
      have above : ∀ q ∈ s.mp.reqs, s.eligible q = true → 5 ≤ q.grantClass := fun q hq he => by
        have := absent empty₃ q hq he
        have := absent empty₄ q hq he
        have := above q hq he
        omega
      cases five : s.eligibles.find? (fun q => q.grantClass = 5) with
      | some r => exact .highest (found five) above free
      | none =>
        refine .nothing fun q hq => Bool.eq_false_iff.2 fun he => ?_
        have := absent five q hq he
        have := above q hq he
        have := q.grantClass_range
        omega

theorem State.choice_eq_none_iff (s : State) : s.choice = none ↔ ∀ q ∈ s.mp.reqs, s.eligible q = false := by
  have chooses := s.choice_chooses
  generalize s.choice = c at chooses
  cases chooses with
  | highest first => simpa using ⟨_, first.mem, first.eligible⟩
  | guarded _ first => simpa using ⟨_, first.mem, first.eligible⟩
  | nothing idle => simpa using idle

/-- Settles O35: the two ways in which a request is chosen, the highest class and the guard, exclude each other. -/
theorem arbiterChoice : Obligations.ArbiterChoice := by
  refine ⟨Request.grantClass_eq, State.eligible_iff, fun s => ⟨s.choice_eq_none_iff, fun r choice => ?_⟩⟩
  have chooses := s.choice_chooses
  rw [choice] at chooses
  cases chooses with
  | highest first above free =>
    obtain ⟨rfl, eligible, older, newer, split, joined⟩ := first
    exact ⟨older, newer, split, eligible, fun _ => ⟨above, joined⟩, fun guard => absurd guard free⟩
  | guarded guard first =>
    obtain ⟨kind, eligible, older, newer, split, joined⟩ := first
    exact ⟨older, newer, split, eligible, fun free => absurd guard free, fun _ => ⟨kind, by simpa using joined⟩⟩

end Sys2Proof.Machine
end

section
/-! What follows in one event, and what follows a cold reset: boot with its probe, or STOPPED (R126, R157, R165, R175,
R176). -/

namespace Sys2Proof.Machine

/- One theorem after another: waiting ones would each hold a thread. -/
set_option Elab.async false

/-! ### Following the steps of one event -/

theorem settleFor_of_settled {s : State} (h : s.settled) (n : Nat) : settleFor n s = s := by
  have h : firstDue followSteps s = none := h
  cases n <;> simp [settleFor, h]

theorem settleFor_of_due {s t : State} (h : firstDue followSteps s = some t) (n : Nat) :
    settleFor (n + 1) s = settleFor n t := by
  simp [settleFor, h]

/-- Boot is looked at before every other step. -/
theorem firstDue_of_bootStarts {s t : State} (h : s.bootStarts = some t) : firstDue followSteps s = some t := by
  simp [firstDue, followSteps, h]

/-! ### The part while boot begins -/

section
variable {s : State}

theorem State.AfterReset.state (h : s.AfterReset) : s.sc.state = .boot := (congrArg StateController.state h.2.2.1).trans rfl

theorem State.AfterReset.step (h : s.AfterReset) : s.sc.step = none := (congrArg StateController.step h.2.2.1).trans rfl

theorem State.AfterReset.mp (h : s.AfterReset) : s.mp = MemoryPort.reset := by
  obtain ⟨⟨-, -, -, -, -, -, mp, -⟩, -⟩ := h
  exact mp

theorem State.AfterReset.queue (h : s.AfterReset) : s.fu.queue = [] := (congrArg FenceUnit.queue h.2.1).trans rfl

theorem State.AfterReset.wait (h : s.AfterReset) : s.fu.wait = none := (congrArg FenceUnit.wait h.2.1).trans rfl

/-- The state with a state controller, a memory port and engines of its own. -/
def State.begun (s : State) (x : StateController) (m : MemoryPort) (e : PerDev Engine) : State :=
  { s with sc := x, mp := m, de := e }

/-- With boot begun, or in STOPPED with PFAIL high, and every other block at its value after cold reset, a grant alone can be
due. -/
theorem State.AfterReset.firstDue_begun (h : s.AfterReset) {x : StateController} (m : MemoryPort) {e : PerDev Engine}
    (idle : ∀ d, (e.get d).ctx = none)
    (state : x.state = .boot ∧ x.step ≠ none ∨ x.state = .stopped ∧ x.pfail = true) :
    firstDue followSteps (s.begun x m e) = (s.begun x m e).grant := by
  have queue := h.queue
  have wait := h.wait
  obtain ⟨⟨-, wd, pwb, rp, -, -, -, mu⟩, -⟩ := h
  have others : ∀ f ∈ followSteps.dropLast, f (s.begun x m e) = none := by
    simp only [followSteps, List.dropLast, List.forall_mem_cons, List.not_mem_nil, IsEmpty.forall_iff, implies_true,
      and_true, State.bootStarts_eq_none_iff, State.fillPending_eq_none_iff, State.completeHead_eq_none_iff,
      State.completeWait_eq_none_iff, State.swap_eq_none_iff, State.endContext_eq_none_iff,
      State.endByFault_eq_none_iff, State.holdupEnd_eq_none_iff, State.stoppedReset_eq_none_iff,
      State.replayEnd_eq_none_iff, State.restartEnd_eq_none_iff, State.gather_eq_none_iff, State.takeWrite_eq_none_iff,
      State.startPersist_eq_none_iff, State.hostAsks_eq_none_iff, State.fetchAsks_eq_none_iff, State.gatherable,
      State.persistDue, State.begun, State.ctx, idle, wd, pwb, rp, mu, queue, wait]
    rcases state with ⟨boot, step⟩ | ⟨stopped, pfail⟩
    · simp [boot, step, WindowDecoder.reset, WriteBuffer.reset, ReadPath.reset, MetadataUnit.reset]
    · simp [stopped, pfail, WindowDecoder.reset, WriteBuffer.reset, ReadPath.reset, MetadataUnit.reset]
  show List.findSome? (fun f => f (s.begun x m e)) (followSteps.dropLast ++ [State.grant]) = _
  rw [List.findSome?_append, List.findSome?_eq_none_iff.2 others, Option.none_or, List.findSome?_singleton]

/-! ### Boot with PFAIL low (R126, R157) -/

/-- Boot has begun: the probe is in hand, and its first request waits. -/
def State.probeAsked (s : State) : State :=
  s.begun { s.sc with pfail := false, step := some .probe }
    { MemoryPort.reset with probe := some ⟨none, none⟩, reqs := [⟨.probe, .d0, .deviceReset⟩] } s.de

/-- The probe's first reset is on the bus. -/
def State.probing (s : State) : State :=
  s.begun { s.sc with pfail := false, step := some .probe }
    { MemoryPort.reset with
      probe := some ⟨none, none⟩
      bus := some { req := ⟨.probe, .d0, .deviceReset⟩, home := 0, underSuspend := false } } s.de

theorem State.probeAsked_grant (s : State) : s.probeAsked.grant = some s.probing := rfl

theorem State.probing_grant (s : State) : s.probing.grant = none := rfl

theorem State.AfterReset.idle (h : s.AfterReset) (d : Dev) : (s.de.get d).ctx = none := by
  obtain ⟨⟨-, -, -, -, de, -⟩, -⟩ := h
  cases d <;> simp [de, PerDev.get, Engine.reset]

theorem State.AfterReset.bootStarts_low (h : s.AfterReset) (low : s.pins.pfail = false) :
    s.bootStarts = some s.probeAsked := by
  have begins : s.bootStarts = some _ := if_pos ⟨h.state, h.step⟩
  simp only [low, State.setSc, Bool.false_eq_true, if_false, State.startProbe, State.join_probe_eq, State.setMp, h.mp]
    at begins
  exact begins

theorem State.AfterReset.firstDue_probeAsked (h : s.AfterReset) : firstDue followSteps s.probeAsked = some s.probing := by
  have grants : firstDue followSteps s.probeAsked = s.probeAsked.grant :=
    h.firstDue_begun _ h.idle (.inl ⟨by exact h.state, nofun⟩)
  exact grants.trans s.probeAsked_grant

theorem State.AfterReset.probing_settled (h : s.AfterReset) : s.probing.settled := by
  have grants : firstDue followSteps s.probing = s.probing.grant :=
    h.firstDue_begun _ h.idle (.inl ⟨by exact h.state, nofun⟩)
  exact grants.trans s.probing_grant

theorem State.AfterReset.settleFor_low (h : s.AfterReset) (low : s.pins.pfail = false) (n : Nat) :
    settleFor (n + 2) s = s.probing := by
  rw [settleFor_of_due (firstDue_of_bootStarts (h.bootStarts_low low)), settleFor_of_due h.firstDue_probeAsked,
    settleFor_of_settled h.probing_settled]

/-! ### Boot with PFAIL high (R157, R165) -/

/-- STOPPED has been entered, and both engines are told to stop. -/
def State.stoppedAtBoot (s : State) : State :=
  s.begun { s.sc with pfail := true, state := .stopped } MemoryPort.reset
    ⟨{ ctx := none, stopping := true }, { ctx := none, stopping := true }⟩

theorem State.stoppedAtBoot_grant (s : State) : s.stoppedAtBoot.grant = none := rfl

/-- STOPPED entered with nothing in hand stops the engines, and beside the controller it changes no other block. -/
theorem State.AfterReset.enterStopped (h : s.AfterReset) (x : StateController) : (s.setSc x).enterStopped =
    s.begun { x with state := .stopped, step := none } MemoryPort.reset
      ⟨{ ctx := none, stopping := true }, { ctx := none, stopping := true }⟩ := by
  obtain ⟨⟨-, -, -, -, de, -, mp, mu⟩, -⟩ := h
  rcases s
  dsimp only at de mp mu
  subst de mp mu
  rfl

theorem State.AfterReset.bootStarts_high (h : s.AfterReset) (high : s.pins.pfail = true) :
    s.bootStarts = some s.stoppedAtBoot := by
  have begins : s.bootStarts = some _ := if_pos ⟨h.state, h.step⟩
  rw [begins, high, if_pos (by rfl), h.enterStopped]
  simp only [State.stoppedAtBoot, h.step]

theorem State.AfterReset.stoppedAtBoot_settled (h : s.AfterReset) : s.stoppedAtBoot.settled :=
  (h.firstDue_begun _ (fun d => by cases d <;> rfl) (.inr ⟨rfl, rfl⟩)).trans s.stoppedAtBoot_grant

theorem State.AfterReset.settleFor_high (h : s.AfterReset) (high : s.pins.pfail = true) (n : Nat) :
    settleFor (n + 1) s = s.stoppedAtBoot := by
  rw [settleFor_of_due (firstDue_of_bootStarts (h.bootStarts_high high)), settleFor_of_settled h.stoppedAtBoot_settled]

end

/-- Settles O2: the steps are followed by the recursion of `settleFor`, and what boot brings leaves the grant as the one step
that can be due. -/
theorem whatFollows : Obligations.WhatFollows := by
  refine ⟨fun _ => rfl, ?still, fun n s t due => settleFor_of_due due n, fun _ _ => rfl, ?low, ?high⟩
  case still =>
    rintro n s (settled | rfl)
    · exact settleFor_of_settled settled n
    · rfl
  case low =>
    intro s n reset low two
    obtain ⟨n, rfl⟩ := Nat.exists_eq_add_of_le' two
    rw [reset.settleFor_low low n]
    refine ⟨?_, reset.probing_settled⟩
    rw [reset.mp]
    rfl
  case high =>
    intro s n reset high one
    obtain ⟨n, rfl⟩ := Nat.exists_eq_add_of_le' one
    rw [reset.settleFor_high high n]
    refine ⟨?_, reset.stoppedAtBoot_settled⟩
    rw [State.stoppedAtBoot, State.begun, ← reset.mp]

end Sys2Proof.Machine
end


section
/-! A dump record in its bytes and back, the pages of a dump, and the dump read back from them (R152, R168, R190). -/

namespace Sys2Proof.Machine

/- One theorem after another: waiting ones would each hold a thread. -/
set_option Elab.async false

/-! ### The mask of a line (R190) -/

theorem maskOf_lt (l : List (Option Byte)) : maskOf l < 2 ^ l.length := by
  induction l with
  | nil => decide
  | cons b l ih =>
    rw [maskOf, List.length_cons, pow_succ]
    split <;> omega

/-- Flag k of the mask is set when byte k is there. -/
theorem testBit_maskOf (l : List (Option Byte)) (i : Nat) : (maskOf l).testBit i = (l[i]?.getD none).isSome := by
  induction l generalizing i with
  | nil => simp [maskOf]
  | cons b l ih =>
    have flag : maskOf (b :: l) = 2 * maskOf l + b.isSome.toNat := by cases b <;> simp [maskOf, Nat.add_comm]
    cases i with
    | zero => cases b <;> simp [flag]
    | succ i =>
      have half : (2 * maskOf l + b.isSome.toNat) / 2 = maskOf l := by
        have := b.isSome.toNat_le
        omega
      rw [Nat.testBit_succ, flag, half, ih, List.getElem?_cons_succ]

theorem maskOf_eq_zero_iff (l : List (Option Byte)) : maskOf l = 0 ↔ ∀ b ∈ l, b = none := by
  induction l with
  | nil => simp [maskOf]
  | cons b l ih => cases b <;> simp [maskOf, ih]

theorem maskedLine_maskOf {l : List (Option Byte)} (size : l.length = 16) :
    maskedLine (maskOf l) (l.map (fun b => b.getD 0)) = l := by
  refine List.ext_getElem (by simp [maskedLine, size]) fun i _ hi => ?_
  simp only [maskedLine, List.getElem_map, List.getElem_range, testBit_maskOf, List.getElem?_map,
    List.getElem?_eq_getElem hi, Option.map_some, Option.getD_some]
  cases l[i] <;> rfl

/-! ### A dump record (R152, R190) -/

theorem DumpRecord.inRange_iff (r : DumpRecord) : r.inRange = true ↔
    isUserPage r.loc.dev r.loc.page = true ∧ r.loc.line < 16 ∧ r.bytes.length = 16 ∧
      ∃ b ∈ r.bytes, b.isSome = true := by
  simp [DumpRecord.inRange, and_assoc]

theorem DumpRecord.bytes_length_of_inRange {r : DumpRecord} (ranged : r.inRange = true) : r.bytes.length = 16 := by
  obtain ⟨-, -, size, -⟩ := r.inRange_iff.1 ranged
  exact size

theorem DumpRecord.toBytes_length {r : DumpRecord} (size : r.bytes.length = 16) : r.toBytes.length = 24 := by
  simp [DumpRecord.toBytes, le16, size]

theorem DumpRecord.flatMap_toBytes_length {l : List DumpRecord} (size : ∀ r ∈ l, r.bytes.length = 16) :
    (l.flatMap DumpRecord.toBytes).length = 24 * l.length := by
  rw [List.length_flatMap, List.map_congr_left fun r hr => DumpRecord.toBytes_length (size r hr), List.map_const',
    List.sum_replicate_nat, Nat.mul_comm]

/-- A record passes the checks of R152 and reads back as it was written. -/
theorem dumpRecordOf_toBytes {r : DumpRecord} {present : Dev → Bool} (ranged : r.inRange = true) (small : r.ordinal < 256)
    (found : present r.loc.dev = true) : dumpRecordOf r.ordinal present r.toBytes = some r := by
  obtain ⟨user, line, size, covered⟩ := r.inRange_iff.1 ranged
  obtain ⟨ordinal, ⟨d, page, l⟩, wt, bytes⟩ := r
  dsimp only at user line size covered small found
  obtain ⟨b, hb, isSome⟩ := covered
  have masked : maskOf bytes ≠ 0 := fun clear => by
    rw [(maskOf_eq_zero_iff bytes).1 clear b hb] at isSome
    exact Bool.noConfusion isSome
  have bound : maskOf bytes < 65536 := (maskOf_lt bytes).trans_eq (by rw [size]; rfl)
  obtain ⟨x, hx⟩ : ∃ x, x = (DumpRecord.mk ordinal ⟨d, page, l⟩ wt bytes).toBytes := ⟨_, rfl⟩
  have ordinalRead : field x 0 1 = ordinal := by
    have read : field x 0 1 = ofLe [BitVec.ofNat 8 ordinal] := hx ▸ rfl
    simpa [ofLe, Nat.mod_eq_of_lt small] using read
  have deviceRead : field x 1 1 = ofLe [devByte d] := hx ▸ rfl
  have pageRead : field x 2 2 = page := hx ▸ ofLe_le16 (home_lt_of_isUserPage user)
  have lineRead : field x 4 1 = l := by
    have read : field x 4 1 = ofLe [BitVec.ofNat 8 l] := hx ▸ rfl
    simpa [ofLe, Nat.mod_eq_of_lt (show l < 256 by omega)] using read
  have wtRead : (field x 5 1).testBit 0 = wt := by
    have read : field x 5 1 = ofLe [if wt then 1 else 0] := hx ▸ rfl
    rw [read]
    cases wt <;> rfl
  have maskRead : field x 6 2 = maskOf bytes := hx ▸ ofLe_le16 bound
  have dataRead : x.drop 8 = bytes.map (fun b => b.getD 0) := hx ▸ rfl
  rw [← hx]
  simp only [dumpRecordOf, ordinalRead, deviceRead, pageRead, lineRead, wtRead, maskRead, dataRead, devOfNat_devByte,
    maskedLine_maskOf size]
  exact if_pos ⟨trivial, found, user, line, masked⟩

@[simp] theorem dumpRecords_length (es : List Entry) (k : Nat) : (dumpRecords es k).length = es.length := by
  induction es generalizing k with
  | nil => rfl
  | cons e es ih => simp [dumpRecords, ih]

/-- The records of a dump plan read back from their bytes, from an ordinal on. -/
theorem dumpRecordsOf_dumpRecords {present : Dev → Bool} {bytes : List Byte} {es : List Entry} {k : Nat}
    (found : ∀ e ∈ es, present e.loc.dev = true) (first : 1 ≤ k) (few : k + es.length ≤ 256)
    (ranged : ∀ r ∈ dumpRecords es k, r.inRange = true)
    (written : bytes.drop (24 * (k - 1)) = (dumpRecords es k).flatMap DumpRecord.toBytes) :
    dumpRecordsOf present bytes es.length k = some (dumpRecords es k) := by
  induction es generalizing k with
  | nil => rfl
  | cons e es ih =>
    obtain ⟨r, hr⟩ : ∃ r : DumpRecord, r = { ordinal := k, loc := e.loc, wt := e.wt, bytes := e.bytes } := ⟨_, rfl⟩
    have split : dumpRecords (e :: es) k = r :: dumpRecords es (k + 1) := hr ▸ rfl
    rw [split, List.forall_mem_cons] at ranged
    rw [split, List.flatMap_cons] at written
    rw [List.forall_mem_cons] at found
    rw [List.length_cons] at few
    have size : r.toBytes.length = 24 := DumpRecord.toBytes_length (DumpRecord.bytes_length_of_inRange ranged.1)
    have head : dumpRecordOf k present ((bytes.drop (24 * (k - 1))).take 24) = some r := by
      rw [written, List.take_left' size]
      have read := dumpRecordOf_toBytes (present := present) ranged.1
      rw [hr] at read ⊢
      exact read (by dsimp only; omega) found.1
    have tail : dumpRecordsOf present bytes es.length (k + 1) = some (dumpRecords es (k + 1)) := by
      refine ih found.2 (by omega) (by omega) ranged.2 ?_
      rw [show 24 * (k + 1 - 1) = 24 * (k - 1) + 24 by omega, ← List.drop_drop, written, List.drop_left' size]
    rw [List.length_cons, dumpRecordsOf, head, tail, split]

/-! ### The pages of a dump (R140, R168, R169) -/

theorem take_padTo {m n : Nat} {b : List Byte} (fits : b.length ≤ m) (le : m ≤ n) : (padTo n b).take m = padTo m b := by
  rw [padTo, List.take_append, List.take_of_length_le fits, List.take_replicate, padTo,
    Nat.min_eq_left (Nat.sub_le_sub_right le _)]

theorem padTo_append (n : Nat) (a b : List Byte) : padTo n (a ++ b) = a ++ padTo (n - a.length) b := by
  rw [padTo, padTo, List.length_append, List.append_assoc, Nat.sub_sub]

theorem padTo_of_full {n : Nat} {b : List Byte} (full : b.length = n) : padTo n b = b := by
  rw [padTo, full, Nat.sub_self, List.replicate_zero, List.append_nil]

/-- What is read back of a dump page that has room for `c` records and begins with the record after the first `i`; a page that
holds no record is not read. -/
def recordsPage (l : List DumpRecord) (i c : Nat) : List Byte :=
  if i < l.length then padTo (24 * c) (((l.drop i).take c).flatMap DumpRecord.toBytes) else []

/-- What is read back of dump page k, when it is read (R152). -/
def pageReadBack (l : List DumpRecord) (k : Nat) : List Byte :=
  if k = 0 ∨ dumpPageFirst k ≤ l.length then dumpPageRead k ((dumpPageBytes l k).drop (if k = 0 then 32 else 0)) else []

theorem flatMap_filter_eq {α β : Type} (p : α → Bool) (f : α → List β) (l : List α) :
    (l.filter p).flatMap f = l.flatMap (fun x => if p x then f x else []) := by
  induction l with
  | nil => rfl
  | cons x l ih =>
    rw [List.flatMap_cons, ← ih, List.filter_cons]
    split <;> simp

theorem dumpReadBack_eq_pages (l : List DumpRecord) : dumpReadBack l =
    pageReadBack l 0 ++ (pageReadBack l 1 ++ (pageReadBack l 2 ++ pageReadBack l 3)) := by
  have pages : List.range 4 = [0, 1, 2, 3] := rfl
  simp only [dumpReadBack, flatMap_filter_eq, pages, List.flatMap_cons, List.flatMap_nil, List.append_nil, pageReadBack,
    Bool.or_eq_true, decide_eq_true_eq]

section
variable {l : List DumpRecord} (size : ∀ r ∈ l, r.bytes.length = 16)
include size

theorem pageBytes_length (i c : Nat) :
    (((l.drop i).take c).flatMap DumpRecord.toBytes).length = 24 * ((l.drop i).take c).length :=
  DumpRecord.flatMap_toBytes_length fun r hr => size r (List.mem_of_mem_drop (List.mem_of_mem_take hr))

theorem pageBytes_length_le (i c : Nat) : (((l.drop i).take c).flatMap DumpRecord.toBytes).length ≤ 24 * c := by
  rw [pageBytes_length size]
  exact Nat.mul_le_mul_left 24 (List.length_take_le ..)

/-- A page's records come first in what is read back of it, and a later page is read only when this one is full. -/
theorem flatMap_drop_begins_readBack (i c : Nat) {more : List Byte}
    (later : (l.drop (i + c)).flatMap DumpRecord.toBytes <+: more) :
    (l.drop i).flatMap DumpRecord.toBytes <+: recordsPage l i c ++ more := by
  rw [recordsPage]
  split
  case isFalse none => simp [List.drop_of_length_le (Nat.le_of_not_lt none)]
  case isTrue =>
    have split : l.drop i = (l.drop i).take c ++ l.drop (i + c) := by rw [← List.drop_drop, List.take_append_drop]
    have bytes : (l.drop i).flatMap DumpRecord.toBytes =
        ((l.drop i).take c).flatMap DumpRecord.toBytes ++ (l.drop (i + c)).flatMap DumpRecord.toBytes := by
      conv_lhs => rw [split, List.flatMap_append]
    rw [bytes]
    rcases Nat.lt_or_ge l.length (i + c) with last | full
    · rw [List.drop_of_length_le last.le, List.flatMap_nil, List.append_nil, padTo, List.append_assoc]
      exact List.prefix_append ..
    · have count : ((l.drop i).take c).length = c := by
        rw [List.length_take, List.length_drop]
        omega
      rw [padTo_of_full (by rw [pageBytes_length size, count])]
      exact (List.prefix_append_right_inj _).2 later

theorem pageReadBack_first (some : 1 ≤ l.length) : pageReadBack l 0 = recordsPage l 0 9 := by
  have header : (headerBytes openCode 0 0).length = 32 := rfl
  have page : dumpPageBytes l 0 = headerBytes openCode 0 0 ++ padTo 224 ((l.take 9).flatMap DumpRecord.toBytes) := by
    simp only [dumpPageBytes, if_true, padTo_append, header]
    rfl
  have kept : dumpPageRead 0 ((dumpPageBytes l 0).drop 32) = padTo 216 ((l.take 9).flatMap DumpRecord.toBytes) := by
    rw [page, List.drop_left' header]
    exact take_padTo (pageBytes_length_le size 0 9) (by decide)
  exact (if_pos (.inl rfl)).trans (kept.trans (if_pos some).symm)

theorem pageReadBack_later {i k : Nat} (later : k ≠ 0) (first : dumpPageFirst k = i + 1)
    (records : dumpPageRecords l k = (l.drop i).take 10) : pageReadBack l k = recordsPage l i 10 := by
  have kept : dumpPageRead k (dumpPageBytes l k) = padTo 240 (((l.drop i).take 10).flatMap DumpRecord.toBytes) := by
    rw [dumpPageRead, dumpPageBytes, if_neg later, if_neg later, List.nil_append, records]
    exact take_padTo (pageBytes_length_le size i 10) (by decide)
  simp only [pageReadBack, later, false_or, first, if_false, List.drop_zero, kept]
  rfl

theorem dumpReadBack_eq_recordsPages (some : 1 ≤ l.length) (few : l.length ≤ 32) : dumpReadBack l =
    recordsPage l 0 9 ++ (recordsPage l 9 10 ++ (recordsPage l 19 10 ++ recordsPage l 29 10)) := by
  have last : dumpPageRecords l 3 = (l.drop 29).take 10 := by
    have left : (l.drop 29).length ≤ 3 := by
      rw [List.length_drop]
      omega
    rw [List.take_of_length_le (left.trans (by decide))]
    exact List.take_of_length_le left
  rw [dumpReadBack_eq_pages, pageReadBack_first size some, pageReadBack_later size (by decide) rfl rfl,
    pageReadBack_later size (by decide) rfl rfl, pageReadBack_later size (by decide) rfl last]

/-- What is read back begins with the records' bytes. -/
theorem take_dumpReadBack (some : 1 ≤ l.length) (few : l.length ≤ 32) :
    (dumpReadBack l).take (24 * l.length) = l.flatMap DumpRecord.toBytes := by
  have starts : l.flatMap DumpRecord.toBytes <+: dumpReadBack l := by
    have none_left : (l.drop (29 + 10)).flatMap DumpRecord.toBytes <+: [] := by
      rw [List.drop_of_length_le (by omega)]
      exact List.prefix_rfl
    have fourth := flatMap_drop_begins_readBack size 29 10 none_left
    have third := flatMap_drop_begins_readBack size 19 10 fourth
    have second := flatMap_drop_begins_readBack size 9 10 third
    have first := flatMap_drop_begins_readBack size 0 9 second
    rwa [List.append_nil, ← dumpReadBack_eq_recordsPages size some few] at first
  rw [← DumpRecord.flatMap_toBytes_length size]
  exact (List.prefix_iff_eq_take.1 starts).symm

end

/-- Settles O21: the pages give the records' bytes back in their order, and each record passes its checks there. -/
theorem dumpReadBack_validGood : Obligations.DumpReadBack := by
  intro s es present some few ranged
  rw [List.all_eq_true] at ranged
  have size (r : DumpRecord) (hr : r ∈ dumpRecords es 1) : r.bytes.length = 16 :=
    DumpRecord.bytes_length_of_inRange (ranged r hr)
  have taken := take_dumpReadBack size (by simpa using some) (by simpa using few)
  have read : dumpRecordsOf (fun d => (s.dev d).state ≠ .absent) ((dumpRecords es 1).flatMap DumpRecord.toBytes)
      es.length 1 = .some (dumpRecords es 1) :=
    dumpRecordsOf_dumpRecords (fun e he => decide_eq_true (present e he)) le_rfl (by omega) ranged rfl
  rw [dumpRecords_length] at taken
  rw [State.recordsReport, taken, dumpCrc, if_pos rfl, read]

end Sys2Proof.Machine
end

section
/-! The idle metadata unit starts a persist, or takes a write of the state controller (R145, R146, R153, R169). -/

namespace Sys2Proof.Machine

/- One theorem after another: waiting ones would each hold a thread. -/
set_option Elab.async false

section
variable {s : State}

/-! ### A persist (R145, R146) -/

theorem SlotStatus.target_eq (x : SlotStatus) : x.target =
    if x.newestSlot = some .a then (if x.badB then .a else .b) else (if x.badA then .b else .a) := by
  unfold SlotStatus.target
  rcases x.newestSlot with - | (- | -) <;> rfl

theorem slotPage_remap (slot : Slot) : slotPage .remap slot = if slot = .a then 8188 else 8190 := by cases slot <;> rfl

theorem slotPage_config (slot : Slot) : slotPage .config slot = if slot = .a then 8186 else 8187 := by cases slot <;> rfl

/-- The persist of a kind as it starts: the first attempt, at its first page (R146). -/
def State.newPersist (s : State) (k : Kind) : Persist :=
  { snapshot := (s.snapshot k).1, change := (s.snapshot k).2, gen := nextNonzero (s.mu.slot k).newestGen
    target := (s.mu.slot k).target, attempt := 1, part := 0, stopping := false }

theorem State.startPersist_of_due {k : Kind} (due : s.persistDue = some k) : s.startPersist =
    some ((s.setMu (s.mu.setSlot k { s.mu.slot k with pending := false })).requestPart (s.newPersist k)) := by
  simp only [State.startPersist, due]
  cases k <;> rfl

section
variable (op : s.mu.op = none) (waiting : s.mu.waiting = none) (takes : (s.dev .d0).takes = true)
  (state : s.sc.state = .replay ∨ s.sc.state = .run ∨ s.sc.state = .restarting)
include op waiting takes state

/-- The remap kind comes first (R145). -/
theorem State.persistDue_remap (pending : s.mu.remap.pending = true) (fault : s.mu.remap.fault = false) :
    s.persistDue = some .remap := by
  rw [State.persistDue, if_pos ⟨op, waiting, takes, state⟩, if_pos (by simp [pending, fault])]

theorem State.persistDue_config (other : (s.mu.remap.pending && !s.mu.remap.fault) = false)
    (pending : s.mu.config.pending = true) (fault : s.mu.config.fault = false) : s.persistDue = some .config := by
  rw [State.persistDue, if_pos ⟨op, waiting, takes, state⟩, if_neg (by simp [other]), if_pos (by simp [pending, fault])]

end

/-! ### A write of the state controller (R153, R169) -/

/-- Without a dump plan there are no records, and none is needed for a CLEAN change (R159, R161, R171). -/
theorem State.planned_eq {records : List DumpRecord} {w : ScWrite}
    (plan : (∃ reached, s.sc.plan = some ⟨records, reached⟩) ∨ (s.sc.plan = none ∧ records = [] ∧ w = .toClean)) :
    s.planned = records := by
  obtain ⟨reached, plan⟩ | ⟨plan, rfl, -⟩ := plan <;> rw [State.planned, plan]

theorem State.takeWrite_of_takes {w : ScWrite} (op : s.mu.op = none) (waiting : s.mu.waiting = some w)
    (takes : (s.dev .d0).takes = true) {cmd : Cmd} (programs : s.writeCmd w = cmd) : s.takeWrite = some { s with
      mu := { s.mu with waiting := none, op := some (.write w 1) }
      mp := { s.mp with reqs := s.mp.reqs ++ [⟨.mu, .d0, cmd⟩] } } := by
  subst programs
  simp only [State.takeWrite, op, waiting]
  refine congrArg some ((if_pos (by exact takes)).trans ?_)
  exact State.muRequest_of_takes (by exact takes) _

end

/-- Settles O47: the kind that is due is the persist's, its slot the target, and a write's command is made from the records of
the plan. -/
theorem metadataWorkStarts : Obligations.MetadataWorkStarts := by
  refine ⟨fun s alive op waiting takes state => ?persist, fun s w records alive op waiting takes plan => ?write⟩
  case persist =>
    have starts {k : Kind} {u : State} (due : s.persistDue = some k)
        (asks : (s.setMu (s.mu.setSlot k { s.mu.slot k with pending := false })).requestPart (s.newPersist k) = u) :
        exec .persistStart s = .next u.settle :=
      congrArg _ (State.named_of_due alive ((State.startPersist_of_due due).trans (congrArg some asks)))
    dsimp only
    simp only [← SlotStatus.target_eq, ← slotPage_remap, ← slotPage_config]
    exact ⟨fun pending fault => starts (State.persistDue_remap op waiting takes state pending fault)
        (State.requestPart_of_takes (by exact takes)),
      fun other pending fault => starts (State.persistDue_config op waiting takes state other pending fault)
        (State.requestPart_of_takes (by exact takes))⟩
  case write =>
    obtain rfl := State.planned_eq plan
    refine congrArg _ (State.named_of_due alive (State.takeWrite_of_takes op waiting takes ?_))
    cases w <;> rfl

end Sys2Proof.Machine
end

section
/-! The dump header is CLEAN in RUN and in RESTARTING (R162, R163): every step keeps it. RUN is entered with the header read or
written CLEAN, or from a restart given up, in which it is CLEAN already. -/

namespace Sys2Proof.Machine

/- One theorem after another: waiting ones would each hold a thread. -/
set_option Elab.async false

section
variable {s t : State}

/-! ### Where the law holds -/

/-- The law is said of the operating state and the header view alone. -/
theorem State.HeaderClean.of_same (h : s.HeaderClean) (state : t.sc.state = s.sc.state := by simp)
    (header : t.sc.header = s.sc.header := by simp) : t.HeaderClean := by
  unfold State.HeaderClean
  rw [state, header]
  exact h

theorem State.headerClean_of_clean (clean : s.sc.header = some .clean) : s.HeaderClean := fun _ => clean

/-- In a state other than RUN and RESTARTING nothing is asked of the header. -/
theorem State.headerClean_of_state {x : OpState} (state : s.sc.state = x) (run : x ≠ .run := by decide)
    (restarting : x ≠ .restarting := by decide) : s.HeaderClean := by
  subst state
  exact fun h => (h.elim run restarting).elim

/-- RUN may be entered with the header CLEAN. -/
theorem State.enterRun_headerClean (clean : s.sc.header = some .clean) : s.enterRun.HeaderClean :=
  State.headerClean_of_clean (by rw [s.enterRun_sc]; exact clean)

/-! ### The states entered (R155) -/

theorem State.halt_headerClean (s : State) : s.halt.HeaderClean := State.headerClean_of_state (x := .halted) rfl

theorem State.cleanFailed_headerClean (s : State) : s.cleanFailed.HeaderClean := State.halt_headerClean _

theorem State.enterStopped_headerClean (s : State) : s.enterStopped.HeaderClean :=
  State.headerClean_of_state s.enterStopped_state

theorem State.enterHoldup_headerClean (s : State) : s.enterHoldup.HeaderClean :=
  State.headerClean_of_state (x := .holdup) (by rw [s.enterHoldup_rest.1])

/-- RESTARTING is entered from RUN, where the header is CLEAN (R163). -/
theorem State.HeaderClean.enterRestarting (h : s.HeaderClean) (run : s.sc.state = .run) : s.enterRestarting.HeaderClean :=
  State.headerClean_of_clean (by simpa [State.enterRestarting] using h (.inl run))

/-- A return enters RUN with the header CLEAN alone, and otherwise asks for the CLEAN write where the part is (R171). -/
theorem State.HeaderClean.beginReturn (h : s.HeaderClean) : s.beginReturn.HeaderClean := by
  unfold State.beginReturn
  split
  · next clean => exact State.enterRun_headerClean clean
  · exact h

theorem State.enterDumped_headerClean (s : State) : s.enterDumped.HeaderClean := by
  have dumped : (s.setSc { s.sc with state := .dumped, step := none, plan := none, returnWrite := false }).HeaderClean :=
    State.headerClean_of_state (x := .dumped) rfl
  unfold State.enterDumped
  dsimp only
  split
  · exact dumped
  · exact dumped.beginReturn

theorem State.holdupEnds_headerClean (s : State) : s.holdupEnds.HeaderClean := by
  unfold State.holdupEnds
  dsimp only
  split
  · exact s.enterDumped_headerClean
  · split
    · exact State.headerClean_of_state (x := .dumping) rfl
    · exact State.enterDumped_headerClean _

/-! ### The writes of the state controller (R153, R159, R161, R169 to R171) -/

/-- A write is reported done: in BOOT, REPLAY and DUMPED the header is CLEAN by it, and a dump ends in DUMPED. -/
theorem State.HeaderClean.writeDone (h : s.HeaderClean) (w : ScWrite) : (s.writeDone w).HeaderClean := by
  unfold State.writeDone
  split
  case h_1 => exact State.enterRun_headerClean rfl
  case h_2 => exact State.enterRun_headerClean rfl
  case h_3 dumping =>
    split
    · exact State.headerClean_of_state (x := .dumping) (by split <;> exact dumping)
    · exact State.enterDumped_headerClean _
  case h_4 =>
    dsimp only
    split
    · exact State.enterHoldup_headerClean _
    · exact State.enterRun_headerClean rfl
  case h_5 => exact h

/-- A write is reported failed: a CLEAN write halts the part, and a dump ends in DUMPED. -/
theorem State.HeaderClean.writeFailed (h : s.HeaderClean) (w : ScWrite) : (s.writeFailed w).HeaderClean := by
  unfold State.writeFailed
  split
  case h_1 => exact s.cleanFailed_headerClean
  case h_2 => exact s.cleanFailed_headerClean
  case h_3 => exact State.enterDumped_headerClean _
  case h_4 => exact s.cleanFailed_headerClean
  case h_5 => exact h

theorem State.HeaderClean.writeFails (h : s.HeaderClean) (w : ScWrite) (attempt : Nat) :
    (s.writeFails w attempt).HeaderClean := by
  have free : (s.setOp none).HeaderClean := h
  unfold State.writeFails
  split
  · exact h.of_same
  · exact free.writeFailed w

theorem State.HeaderClean.takeWrite (h : s.HeaderClean) (ht : s.takeWrite = some t) : t.HeaderClean := by
  have taken : (s.setMu { s.mu with waiting := none }).HeaderClean := h
  unfold State.takeWrite at ht
  dsimp only at ht
  split at ht <;> cases ht
  split
  · exact h.of_same
  · exact taken.writeFailed _

/-! ### Metadata faults (R148, R149, R164) -/

/-- A fault may give up a restart for RUN, and the header is CLEAN in a restart. -/
theorem State.HeaderClean.raiseFault (h : s.HeaderClean) (k : Kind) : (s.raiseFault k).HeaderClean := by
  by_cases restarting : s.sc.state = .restarting
  · exact State.headerClean_of_clean (by rw [State.raiseFault_sc, if_pos restarting]; exact h (.inr restarting))
  · have kept : (s.raiseFault k).sc = s.sc := by rw [State.raiseFault_sc, if_neg restarting]
    exact h.of_same (by rw [kept]) (by rw [kept])

theorem State.HeaderClean.muOffline (h : s.HeaderClean) : s.muOffline.HeaderClean := by
  have faults : ((s.raiseFault .config).raiseFault .remap).HeaderClean := (h.raiseFault .config).raiseFault .remap
  have free : (((s.raiseFault .config).raiseFault .remap).setOp none).HeaderClean := faults
  unfold State.muOffline
  dsimp only
  split
  · exact free.writeFailed _
  · exact free
  · exact faults

/-! ### The programs of the metadata unit (R146, R147, R153) -/

theorem State.HeaderClean.attemptFails (h : s.HeaderClean) (p : Persist) : (s.attemptFails p).HeaderClean := by
  unfold State.attemptFails
  dsimp only
  split
  · exact h.of_same
  · split
    · exact State.HeaderClean.raiseFault (h.of_same (by simp) (by simp)) _
    · exact h.of_same

theorem State.HeaderClean.muProgramEnds (h : s.HeaderClean) (pass : Bool) : (s.muProgramEnds pass).HeaderClean := by
  have free : (s.setOp none).HeaderClean := h
  unfold State.muProgramEnds
  split
  · next p _ =>
    dsimp only
    (repeat' split)
    · exact h.of_same
    · exact h.of_same
    · exact h.of_same
    · exact h.attemptFails p
  · next w a _ =>
    split
    · exact free.writeDone w
    · exact h.writeFails w a
  · exact h

/-! ### Boot (R126, R157 to R160) -/

/-- The header report is taken in BOOT: RUN follows a CLEAN header alone, and REPLAY one with a good dump (R158). -/
theorem State.headerReported_headerClean (boot : s.sc.state = .boot) (r : HeaderReport) :
    (s.headerReported r).HeaderClean := by
  have writes {u : State} (state : u.sc.state = .boot) : u.bootCleanWrite.HeaderClean := State.headerClean_of_state state
  unfold State.headerReported
  split
  · exact State.enterRun_headerClean rfl
  · exact writes boot
  · exact writes (by simpa [State.setHeader] using boot)
  · exact writes (by simpa [State.setHeader] using boot)
  · exact State.headerClean_of_state (x := .replay) rfl

theorem State.HeaderClean.headerRead (h : s.HeaderClean) (boot : s.sc.state = .boot) (bytes : List Byte) :
    (s.headerRead bytes).HeaderClean := by
  have reported (r : HeaderReport) : ((s.setOp none).headerReported r).HeaderClean :=
    State.headerReported_headerClean (s := s.setOp none) boot r
  unfold State.headerRead
  dsimp only
  (repeat' split)
  · exact reported _
  · exact reported _
  · exact h.of_same
  · exact reported _
  · exact reported _

theorem State.HeaderClean.recordsRead (h : s.HeaderClean) (boot : s.sc.state = .boot) (n : Nat) (crc : Word32)
    (acc : List Byte) (k : Nat) (bytes : List Byte) : (s.recordsRead n crc acc k bytes).HeaderClean := by
  unfold State.recordsRead
  dsimp only
  split
  · exact h.of_same
  · exact State.headerReported_headerClean (s := s.setOp none) boot _

theorem State.HeaderClean.muReadEnds (h : s.HeaderClean) (bytes : List Byte) : (s.muReadEnds bytes).HeaderClean := by
  unfold State.muReadEnds
  split
  · exact h
  · next inBoot =>
    have boot : s.sc.state = .boot := not_not.1 inBoot
    split
    · dsimp only
      split
      · exact h.of_same
      · exact h.of_same (by simp [State.loadDone]) (by simp [State.loadDone])
    · exact h.headerRead boot _
    · exact h.recordsRead boot _ _ _ _ _
    · exact h

/-- The probe has reported: the part goes on where it is, or halts (R157). -/
theorem State.HeaderClean.probeReported (h : s.HeaderClean) : s.probeReported.HeaderClean := by
  unfold State.probeReported
  dsimp only
  split
  · exact h.of_same
  · exact State.halt_headerClean _

theorem State.HeaderClean.probeNext (h : s.HeaderClean) : s.probeNext.HeaderClean := by
  unfold State.probeNext
  (repeat' split)
  · exact h.of_same
  · exact h.of_same
  · exact h.probeReported
  · exact h

theorem State.HeaderClean.probeResetSettled (h : s.HeaderClean) (d : Dev) (ready : Bool) :
    (s.probeResetSettled d ready).HeaderClean := by
  unfold State.probeResetSettled
  split
  · exact h
  · next p _ =>
    have settled : (s.setMp { s.mp with probe := some (p.set d (some ready)) }).HeaderClean := h
    exact settled.probeNext

theorem State.HeaderClean.identified (h : s.HeaderClean) (d : Dev) (answer : BusAnswer) :
    (s.identified d answer).HeaderClean := by
  unfold State.identified
  dsimp only
  (repeat' split)
  · exact h
  · exact h.of_same
  · exact h.of_same
  · exact State.HeaderClean.probeReported (by exact h)
  · exact h.probeReported

theorem State.HeaderClean.bootStarts (h : s.HeaderClean) (ht : s.bootStarts = some t) : t.HeaderClean := by
  unfold State.bootStarts at ht
  dsimp only at ht
  split at ht <;> cases ht
  split
  · exact State.enterStopped_headerClean _
  · exact h.of_same (by simp [State.startProbe]) (by simp [State.startProbe])

/-! ### Status results, ends of transfers, and the loss of a device (R120, R128 to R133) -/

theorem State.HeaderClean.resetCompletes (h : s.HeaderClean) (d : Dev) : (s.resetCompletes d).HeaderClean := by
  have idle : (s.setDev d (s.dev d).toIdle).HeaderClean := h
  unfold State.resetCompletes
  dsimp only
  split
  · exact h.of_same
  · exact idle.muProgramEnds false
  · exact idle.probeResetSettled d true
  · exact idle

theorem State.HeaderClean.programReady (h : s.HeaderClean) (d : Dev) (pass : Bool) : (s.programReady d pass).HeaderClean := by
  have idle : ((if pass then s.nvmPass d else s.nvmSpoil d).setDev d (s.dev d).toIdle).HeaderClean := by
    split <;> exact h.of_same
  unfold State.programReady
  dsimp only
  generalize ((if pass then s.nvmPass d else s.nvmSpoil d).setDev d (s.dev d).toIdle) = u at idle
  (repeat' split)
  · exact idle
  · exact idle.of_same
  · exact idle.muProgramEnds pass
  · exact idle

theorem State.HeaderClean.statusReturned (h : s.HeaderClean) (d : Dev) (r : StatusResult) :
    (s.statusReturned d r).HeaderClean := by
  unfold State.statusReturned
  split
  · exact h.programReady d true
  · exact h.programReady d false
  · exact h.of_same
  · exact h.of_same
  · exact h.resetCompletes d
  · exact h.resetCompletes d
  · exact h.of_same
  · exact h

/-- A transfer that ends touches the controller by a read or a program of the metadata unit, or by the probe. -/
theorem State.HeaderClean.transferEnds (h : s.HeaderClean) (answer : BusAnswer) : (s.transferEnds answer).HeaderClean := by
  have free : (s.setMp { s.mp with bus := none }).HeaderClean := h
  unfold State.transferEnds
  split
  · exact h
  · dsimp only
    split
    · split
      · exact h.of_same
      · exact free.muReadEnds _
      · exact h.of_same
    · exact h.of_same
    · exact h.of_same
    · exact free.statusReturned _ _
    · exact h.of_same
    · exact h.of_same
    · exact h.of_same
    · exact free.identified _ _

/-- The loss of device 0 touches the controller by the metadata unit (R149), and that of device 1 not at all. -/
theorem State.HeaderClean.markOffline (h : s.HeaderClean) (d : Dev) : (s.markOffline d).HeaderClean := by
  have gone : (s.deviceGone d).HeaderClean := h.of_same (by rw [s.deviceGone_sc]) (by rw [s.deviceGone_sc])
  rw [s.markOffline_eq]
  split
  · exact gone.muOffline
  · exact gone

theorem State.HeaderClean.resetExpires (h : s.HeaderClean) (d : Dev) : (s.resetExpires d).HeaderClean := by
  unfold State.resetExpires
  (repeat' split)
  · have absent : (s.setDev d { (s.dev d).toIdle with state := .absent }).HeaderClean := h
    exact absent.probeResetSettled d false
  · exact h.markOffline d
  · exact h

/-! ### PFAIL (R156) -/

theorem State.HeaderClean.pfailRises (h : s.HeaderClean) : s.pfailRises.HeaderClean := by
  unfold State.pfailRises
  dsimp only
  split
  · exact State.enterStopped_headerClean _
  · exact State.enterStopped_headerClean _
  · exact State.enterHoldup_headerClean _
  · exact State.enterHoldup_headerClean _
  all_goals exact h

theorem State.HeaderClean.pfailFalls (h : s.HeaderClean) : s.pfailFalls.HeaderClean := by
  have released : (s.setPfail false).HeaderClean := h
  unfold State.pfailFalls
  dsimp only
  split
  · split
    · exact released
    · exact released.beginReturn
  all_goals exact released

/-! ### Every effect -/

theorem headerClean_of_due (due : Due s t) (h : s.HeaderClean) : t.HeaderClean := by
  cases due with
  | bootStarts ht => exact h.bootStarts ht
  | fillPending ht => exact h.of_same (by simp [State.fillPending_frame ht]) (by simp [State.fillPending_frame ht])
  | completeHead ht => exact h.of_same (by simp [State.completeHead_frame ht]) (by simp [State.completeHead_frame ht])
  | completeWait ht => exact h.of_same (by simp [State.completeWait_frame ht]) (by simp [State.completeWait_frame ht])
  | swap ht => exact h.of_same (by simp [State.swap_frame ht]) (by simp [State.swap_frame ht])
  | endContext d ht => exact h.of_same (by simp [State.endContext_frame d ht]) (by simp [State.endContext_frame d ht])
  | endByFault d ht => exact h.of_same (by simp [State.endByFault_frame d ht]) (by simp [State.endByFault_frame d ht])
  | holdupEnd ht =>
    unfold State.holdupEnd at ht
    split at ht <;> cases ht
    exact s.holdupEnds_headerClean
  | stoppedReset ht =>
    rw [State.stoppedReset_eq ht]
    exact State.headerClean_of_state (x := .boot) rfl
  | replayEnd ht => exact h.of_same (by simp [State.replayEnd_frame ht]) (by simp [State.replayEnd_frame ht])
  | restartEnd ht =>
    rw [State.restartEnd_eq ht]
    exact State.headerClean_of_state (x := .boot) rfl
  | gather d ht => exact h.of_same (by simp [State.gather_frame d ht]) (by simp [State.gather_frame d ht])
  | takeWrite ht => exact h.takeWrite ht
  | startPersist ht => exact h.of_same (by simp [State.startPersist_frame ht]) (by simp [State.startPersist_frame ht])
  | hostAsks ht => exact h.of_same (by simp [State.hostAsks_frame ht]) (by simp [State.hostAsks_frame ht])
  | fetchAsks ht => exact h.of_same (by simp [State.fetchAsks_frame ht]) (by simp [State.fetchAsks_frame ht])
  | grant ht => exact h.of_same (by simp [State.grant_frame ht]) (by simp [State.grant_frame ht])

theorem headerClean_of_effect (effect : Effect s t) (h : s.HeaderClean) : t.HeaderClean := by
  cases effect with
  | due hd => exact headerClean_of_due hd h
  | coldReset => exact State.headerClean_of_state (x := .boot) rfl
  | coldResetLow => exact State.headerClean_of_state (x := .boot) rfl
  | transferEnds answer => exact h.transferEnds answer
  | resetExpires d => exact h.resetExpires d
  | pfailRises => exact h.pfailRises
  | pfailFalls => exact h.pfailFalls
  | restartTaken run => exact h.enterRestarting run
  | _ => exact h.of_same

end

/-- Settles O8: each effect that enters RUN has found the header CLEAN or written it so, and RESTARTING is entered from RUN. -/
theorem headerCleanKept : Obligations.HeaderCleanKept := fun _ _ h he =>
  step_keeps_of_effects (fun _ _ => headerClean_of_effect) h he

end Sys2Proof.Machine
end

section
/-! A part held in reset, or without supply, is held at its values after cold reset, with its pins at the levels of R191 (R175;
log 5). -/

namespace Sys2Proof.Machine

/- One theorem after another: waiting ones would each hold a thread. -/
set_option Elab.async false

section
variable {s t : State}

/-! ### Whether the part runs (R175, R191) -/

theorem State.not_alive_of_unpowered (unpowered : s.pins.powered = false) : s.alive = false := by
  simp [State.alive, unpowered]

/-- A level of MADR does not stop the part or start it. -/
theorem State.LinesKept.alive (h : s.LinesKept t) : t.alive = s.alive := by
  unfold State.alive
  rw [h.levels]

/-- A part held in reset takes no command but those of its pins and its supplies. -/
theorem exec_of_not_alive {i : Instr} (pins : touchesPins i = false) (held : s.alive = false) : exec i s = .next s := by
  cases i with
  | pfailAssert => exact nomatch pins
  | pfailRelease => exact nomatch pins
  | resetAssert => exact nomatch pins
  | resetRelease madr => exact nomatch pins
  | powerUp pfail madr => exact nomatch pins
  | powerLoss => exact nomatch pins
  | _ => exact congrArg _ (State.event_of_not_alive held _)

/-! ### Where the law holds -/

/-- Nothing is asked of a part that runs. -/
theorem State.heldInReset_of_alive (runs : s.alive = true) : s.HeldInReset := fun held =>
  absurd (runs.symm.trans held) nofun

theorem State.heldInReset_of_coldReset {s u : State} (cold : coldResetOf s u) : u.HeldInReset := fun _ => cold.1

/-- Without supply the blocks have their values after cold reset, so that new levels of the lines alone are allowed. -/
theorem State.HeldInReset.setPins (h : s.HeldInReset) (unpowered : s.pins.powered = false) (x : Pins) :
    (s.setPins x).HeldInReset :=
  fun _ => h (State.not_alive_of_unpowered unpowered)

/-- An event that leaves the lines leaves a running part running, and a held part takes none. -/
theorem State.HeldInReset.event {f : State → State} (h : s.HeldInReset) (pins : (f s).pins = s.pins) :
    (s.event f).HeldInReset := by
  cases runs : s.alive with
  | true =>
    have still : (f s).alive = true := by rw [State.alive, pins]; exact runs
    rw [State.event_of_alive runs]
    exact State.heldInReset_of_alive ((f s).settle_alive.trans still)
  | false =>
    rw [State.event_of_not_alive runs]
    exact h

/-! ### Every command -/

theorem State.HeldInReset.exec_other {i : Instr} (h : s.HeldInReset) (pins : touchesPins i = false)
    (he : exec i s = .next t) : t.HeldInReset := by
  cases runs : s.alive with
  | true => exact State.heldInReset_of_alive ((exec_linesKept pins he).alive.trans runs)
  | false =>
    rw [exec_of_not_alive pins runs] at he
    cases he
    exact h

/-- The supplies and both ends of /RESET bring a cold reset, and no other command has a held part leave its values. -/
theorem State.HeldInReset.exec {i : Instr} (h : s.HeldInReset) (he : exec i s = .next t) : t.HeldInReset := by
  have line (level : Bool) : (s.pfailLine level).HeldInReset := h
  cases i with
  | pfailAssert =>
    injection he with he
    subst he
    split
    · exact h.event rfl
    · exact (line true).event (by simp)
  | pfailRelease =>
    injection he with he
    subst he
    split
    · exact (line false).event (by simp)
    · exact h.event rfl
  | resetAssert =>
    injection he with he
    subst he
    split
    · next unpowered => exact h.setPins (by simpa using unpowered) _
    · split
      · exact h
      · exact State.heldInReset_of_coldReset (State.coldReset_coldResetOf _)
  | resetRelease madr =>
    injection he with he
    subst he
    split
    · exact h.event rfl
    · split
      · next unpowered => exact h.setPins (by simpa using unpowered) _
      · next powered =>
        have runs : (s.resetReleased madr).alive = true := by
          simpa [State.alive, State.resetReleased] using powered
        exact State.heldInReset_of_alive ((State.settle_alive _).trans runs)
  | powerUp pfail madr =>
    injection he with he
    subst he
    exact (State.heldInReset_of_coldReset (State.coldReset_coldResetOf _).setFu_reset).event rfl
  | powerLoss =>
    injection he with he
    subst he
    split
    · exact State.heldInReset_of_coldReset (State.coldReset_coldResetOf _).setFu_reset
    · exact h
  | _ => exact h.exec_other rfl he

theorem State.HeldInReset.step (h : s.HeldInReset) (he : step s = .next t) : t.HeldInReset := by
  unfold Machine.step at he
  split at he
  · next rest _ =>
    have queued : (s.setPending rest).HeldInReset := h
    exact queued.exec he
  · injection he with he
    subst he
    exact h.event (by simp)

end

/-- Settles O15: a held part takes no event but those of its pins and its supplies, which leave its blocks as they are or bring a
cold reset, and the values after cold reset give the levels of R191. -/
theorem heldInResetKept : Obligations.HeldInResetKept :=
  ⟨fun _ _ h he => h.step he, fun _ h held => (h held).outputsHeld held⟩

end Sys2Proof.Machine
end

section
/-! Transactions of the management port: start, index, bytes read with their captures, and stop (R176, R177). -/

namespace Sys2Proof.Machine

/- One theorem after another: waiting ones would each hold a thread. -/
set_option Elab.async false

/-! ### An event of the port alone -/

/-- A change of the port makes nothing due, so that it is all that its event does. -/
theorem State.next_event_of_setMgp {s : State} (alive : s.alive = true) (settled : s.settled) {f : State → State}
    {m : ManagementPort} (gives : f s = s.setMgp m) :
    (.next (s.event f) : Host.Outcome State Fault Refusal) = .next (s.setMgp m) := by
  rw [State.event_of_alive alive, gives, State.settle_of_settled ((s.setMgp_settled m).2 settled)]

/-! ### Start and index (R176) -/

section
variable {m : ManagementPort} {b : Byte}

/-- The target address stands in bits 7-1 of the address byte. -/
theorem addressBits (b : Byte) : (b >>> 1).setWidth 7 = b.extractLsb' 1 7 := by
  ext i
  simp

theorem ManagementPort.start_of_own (own : b.extractLsb' 1 7 = m.target) : m.start b = { m with
    captures := [], readByte := none, acked := true, tx := if b.getLsbD 0 then .reading else .writeIndex } :=
  if_pos ((addressBits b).trans own)

theorem ManagementPort.start_of_other (other : b.extractLsb' 1 7 ≠ m.target) : m.start b = { m with
    captures := [], readByte := none, acked := false, tx := .idle } :=
  if_neg (addressBits b ▸ other)

theorem ManagementPort.setIndex_of_first (first : m.tx = .writeIndex) :
    m.setIndex b = { m with index := b, tx := .writing, acked := true } :=
  if_pos first

end

/-! ### The byte read and the captures (R177) -/

section
variable {s : State} {i first n : Nat} {l : List Capture}

theorem State.capturesAt_of_plain (plain : snapshotField i = none) : s.capturesAt i = s.mgp.captures := by
  simp only [State.capturesAt, plain]

theorem State.capturesAt_first (field : snapshotField i = some (i, n)) : s.capturesAt i =
    { first := i, bytes := s.snapshotBytes i } :: s.mgp.captures.filter (fun c => c.first ≠ i) := by
  simp only [State.capturesAt, field, if_pos]
  rfl

theorem State.capturesAt_later (field : snapshotField i = some (first, n)) (later : first < i) :
    s.capturesAt i = s.mgp.captures := by
  simp only [State.capturesAt, field, if_neg later.ne']

theorem State.byteFrom_of_plain (plain : snapshotField i = none) : s.byteFrom l i = s.plainByte i := by
  simp only [State.byteFrom, State.mapByte, plain]

theorem State.byteFrom_of_captured (field : snapshotField i = some (first, n)) {c : Capture}
    (held : l.find? (fun c => c.first = first) = some c) : s.byteFrom l i = (c.bytes[i - first]?).getD 0 := by
  simp only [State.byteFrom, field, held]

theorem State.byteFrom_of_uncaptured (field : snapshotField i = some (first, n))
    (none : l.find? (fun c => c.first = first) = none) :
    s.byteFrom l i = ((s.snapshotBytes first)[i - first]?).getD 0 := by
  simp only [State.byteFrom, State.mapByte, field, none]

/-- The first byte of a field comes from the capture that its read has just taken. -/
theorem State.byteFrom_first (field : snapshotField i = some (i, n)) :
    s.byteFrom (s.capturesAt i) i = ((s.snapshotBytes i)[0]?).getD 0 := by
  have held : (s.capturesAt i).find? (fun c => c.first = i) = some { first := i, bytes := s.snapshotBytes i } := by
    rw [State.capturesAt_first field]
    exact List.find?_cons_of_pos (decide_eq_true rfl)
  rw [State.byteFrom_of_captured field held, Nat.sub_self]

/-- The port once a byte has been driven, with the captures that then stand. -/
def ManagementPort.byteDriven (m : ManagementPort) (captures : List Capture) (b : Byte) (ack : Bool) : ManagementPort :=
  { m with
    captures := captures, readByte := some b, index := m.index + 1, tx := if ack then .reading else .ended }

theorem State.byteRead_of_reading (reading : s.mgp.tx = .reading) {b : Byte} (captures : s.capturesAt s.mgp.index.toNat = l)
    (byte : s.byteFrom l s.mgp.index.toNat = b) (ack : Bool) :
    s.byteRead ack = s.setMgp (s.mgp.byteDriven l b ack) := by
  subst captures byte
  exact if_pos reading

end

/-- Settles O59: a start by its address, the index by the transaction that waits for it, and a byte read by its field and by the
capture held of that field. -/
theorem transactions : Obligations.Transactions := by
  refine ⟨fun s b alive settled => ⟨fun own => ?own, fun other => ?other, fun first => ?index, ?stop⟩,
    fun s ack alive settled reading => ?read⟩
  case own => exact State.next_event_of_setMgp alive settled (congrArg s.setMgp (ManagementPort.start_of_own own))
  case other => exact State.next_event_of_setMgp alive settled (congrArg s.setMgp (ManagementPort.start_of_other other))
  case index => exact State.next_event_of_setMgp alive settled (congrArg s.setMgp (ManagementPort.setIndex_of_first first))
  case stop => exact State.next_event_of_setMgp alive settled rfl
  case read =>
    have reads {l : List Capture} {b : Byte} (captures : s.capturesAt s.mgp.index.toNat = l)
        (byte : s.byteFrom l s.mgp.index.toNat = b) :
        exec (.snapshotCapture ack) s = .next (s.setMgp (s.mgp.byteDriven l b ack)) :=
      State.next_event_of_setMgp alive settled (State.byteRead_of_reading reading captures byte ack)
    refine ⟨fun plain => ?plain, fun n field => ?first, fun first n field later => ⟨fun c held => ?held, fun none => ?none⟩⟩
    case plain => exact reads (State.capturesAt_of_plain plain) (State.byteFrom_of_plain plain)
    case first =>
      have captures := State.capturesAt_first (s := s) field
      exact reads captures (captures ▸ State.byteFrom_first field)
    case held => exact reads (State.capturesAt_later field later) (State.byteFrom_of_captured field held)
    case none => exact reads (State.capturesAt_later field later) (State.byteFrom_of_uncaptured field none)

end Sys2Proof.Machine
end

section
/-! What a byte of the map holds: the fields of several bytes, the bytes of one field, and the window tables in their layout (R177,
R184, R185, R189). -/

namespace Sys2Proof.Machine

/- One theorem after another: waiting ones would each hold a thread. -/
set_option Elab.async false

/-! ### Numbers as bytes (R189) -/

theorem le16_toNat (x : Half) : le16 x.toNat = [x.extractLsb' 0 8, x.extractLsb' 8 8] := by
  simp [le16, BitVec.extractLsb', Nat.shiftRight_eq_div_pow]

theorem le32_toNat (x : Word32) :
    le32 x.toNat = [x.extractLsb' 0 8, x.extractLsb' 8 8, x.extractLsb' 16 8, x.extractLsb' 24 8] := by
  simp [le32, le16, BitVec.extractLsb', Nat.shiftRight_eq_div_pow, Nat.div_div_eq_div_mul]

theorem WindowRecord.toBytes_eq (w : WindowRecord) : w.toBytes = [w.flags, w.device, w.hostBase.extractLsb' 0 8,
    w.hostBase.extractLsb' 8 8, w.size.extractLsb' 0 8, w.size.extractLsb' 8 8, w.memBase.extractLsb' 0 8,
    w.memBase.extractLsb' 8 8] := by
  simp [WindowRecord.toBytes, le16_toNat]

theorem Params.toBytes_eq (p : Params) : p.toBytes = [p.sealDelay.extractLsb' 0 8, p.sealDelay.extractLsb' 8 8, p.highWater,
    p.stallLimit, p.readAhead, p.suspendLimit] := by
  simp [Params.toBytes, le16_toNat]

/-! ### A table's bytes, window by window -/

theorem drop_flatMap_of_size {α : Type} {write : α → List Byte} {n : Nat} (size : ∀ x, (write x).length = n) {l : List α}
    {k : Nat} {x : α} (here : l[k]? = some x) (rest : List Byte) :
    ((l.flatMap write ++ rest).drop (n * k)).take n = write x := by
  induction l generalizing k with
  | nil => simp at here
  | cons y l ih =>
    rw [List.flatMap_cons, List.append_assoc]
    cases k with
    | zero =>
      obtain rfl : y = x := by simpa using here
      rw [Nat.mul_zero, List.drop_zero, List.take_left' (size y)]
    | succ k =>
      rw [Nat.mul_succ, Nat.add_comm, ← List.drop_drop, List.drop_left' (size y)]
      exact ih (by simpa using here)

theorem Table.toBytes_window {t : Table} {k : Nat} {w : WindowRecord} (here : t.windows[k]? = some w) :
    (t.toBytes.drop (8 * k)).take 8 = w.toBytes :=
  drop_flatMap_of_size (n := 8) (write := WindowRecord.toBytes) (fun _ => rfl) here t.params.toBytes

theorem Table.toBytes_params {t : Table} (eight : t.windows.length = 8) : t.toBytes.drop 64 = t.params.toBytes :=
  List.drop_left' (Table.windowBytes_length eight)

/-- Bytes read one by one are those that stand there. -/
theorem Table.map_byte {t : Table} {k n : Nat} (within : k + n ≤ t.toBytes.length) :
    (List.range n).map (fun j => t.byte (k + j)) = (t.toBytes.drop k).take n := by
  refine List.ext_getElem (by simp; omega) fun j inside _ => ?_
  have there : k + j < t.toBytes.length := by
    rw [List.length_map, List.length_range] at inside
    omega
  simp [Table.byte, List.getElem?_eq_getElem there]

/-! ### The fields of several bytes (R177) -/

theorem snapshotField_eq (i : Nat) : snapshotField i =
    if 0x10 ≤ i ∧ i < 0x16 then some (0x10, 6)
    else if 0x18 ≤ i ∧ i < 0x22 then some (0x18, 10)
    else if 0x24 ≤ i ∧ i < 0x29 then some (0x24, 5)
    else if 0x40 ≤ i ∧ i < 0x60 then some (i - i % 4, 4)
    else if 0xB0 ≤ i ∧ i < 0xF0 then some (i - i % 8, 8)
    else if 0xF0 ≤ i ∧ i < 0xF6 then some (0xF0, 6)
    else none := by
  have upTo (n : Nat) : i ≤ n ↔ i < n + 1 := Nat.lt_succ_iff.symm
  have four : i / 4 * 4 = i - i % 4 := by omega
  have eight : i / 8 * 8 = i - i % 8 := by omega
  simp only [snapshotField, upTo, Nat.reduceAdd, four, eight]

section
variable (s : State)

theorem State.snapshotBytes_counter {k : Nat} {x : Word32} (here : s.mgp.counters.list[k]? = some x) :
    s.snapshotBytes (0x40 + 4 * k) = le32 x.toNat := by
  have few : k < 8 := (List.getElem?_eq_some_iff.1 here).1
  have place : (0x40 + 4 * k - 0x40) / 4 = k := by omega
  unfold State.snapshotBytes
  rw [if_neg (by omega), if_neg (by omega), if_neg (by omega), if_pos (by omega), place, here]
  rfl

theorem State.snapshotBytes_window {k : Nat} (few : k < 8) :
    s.snapshotBytes (0xB0 + 8 * k) = (s.wd.live.toBytes.drop (8 * k)).take 8 := by
  unfold State.snapshotBytes
  rw [if_neg (by omega), if_neg (by omega), if_neg (by omega), if_neg (by omega), if_pos (by omega), Nat.add_sub_cancel_left]

theorem FaultRecord.toBytes_eq (r : FaultRecord) : r.toBytes = [r.kind.code,
    BitVec.ofNat 8 ((if r.dev.isSome then 1 else 0) + (if r.page.isSome then 2 else 0) + (if r.count.isSome then 4 else 0)),
    (r.dev.map devByte).getD 0, 0, BitVec.ofNat 8 (r.page.getD 0), BitVec.ofNat 8 (r.page.getD 0 / 256),
    BitVec.ofNat 8 (r.count.getD 0), BitVec.ofNat 8 (r.count.getD 0 / 256),
    r.number.extractLsb' 0 8, r.number.extractLsb' 8 8] := by
  have presence : ∀ dev page count : Bool,
      ((if dev then 1 else 0) ||| (if page then 2 else 0) ||| (if count then 4 else 0) : Byte) =
        BitVec.ofNat 8 ((if dev then 1 else 0) + (if page then 2 else 0) + (if count then 4 else 0)) := by decide
  simp only [FaultRecord.toBytes, presence, le16_toNat]
  rfl

/-- The address of the last host error, in three bytes (R113). -/
theorem hostAddress_bytes (a : BitVec 23) : le16 a.toNat ++ [BitVec.ofNat 8 (a.toNat / 65536)] =
    [(a.setWidth 24).extractLsb' 0 8, (a.setWidth 24).extractLsb' 8 8, (a.setWidth 24).extractLsb' 16 8] := by
  have fits : a.toNat % 16777216 = a.toNat := Nat.mod_eq_of_lt (by omega)
  simp [le16, BitVec.extractLsb', Nat.shiftRight_eq_div_pow, fits]

/-! ### The bytes of one field (R178, R187, R189) -/

theorem State.deviceStates_eq : s.deviceStates =
    BitVec.ofNat 8 ((s.dev .d0).state.code.toNat + 4 * (s.dev .d1).state.code.toNat) := by
  unfold State.deviceStates
  cases (s.dev .d0).state <;> cases (s.dev .d1).state <;> rfl

theorem State.statusByte_bits : s.statusByte.getLsbD 0 = s.mu.config.fault ∧ s.statusByte.getLsbD 1 = s.mu.remap.fault ∧
    s.statusByte.extractLsb' 2 2 = s.wd.persist.code.setWidth 2 ∧ s.statusByte.getLsbD 4 = s.mgp.fenceLoss ∧
    s.statusByte.getLsbD 5 = s.mgp.overflow ∧ s.statusByte.getLsbD 6 = s.sc.noDevice0 ∧ s.statusByte.getLsbD 7 = false := by
  unfold State.statusByte
  generalize s.mu.config.fault = config, s.mu.remap.fault = remap, s.mgp.fenceLoss = lost, s.mgp.overflow = full,
    s.sc.noDevice0 = gone
  cases s.wd.persist <;> revert config remap lost full gone <;> decide

theorem ManagementPort.eventFlags_bits (m : ManagementPort) : let events := m.eventFlags.setWidth 8
    events.getLsbD 0 = m.fenceDone ∧ events.getLsbD 1 = m.commitPersisted ∧ events.getLsbD 2 = m.restored ∧
      events.getLsbD 3 = m.faultPending ∧ events.extractLsb' 4 4 = (0 : BitVec 4) := by
  unfold ManagementPort.eventFlags
  generalize m.fenceDone = fence, m.commitPersisted = persisted, m.restored = restored, m.faultPending = pending
  revert fence persisted restored pending
  decide

theorem State.plainByte_of_ge {i : Nat} (past : 0x10 ≤ i) :
    s.plainByte i = if 0x60 ≤ i ∧ i ≤ 0xA5 then s.mgp.staged.byte (i - 0x60) else 0 := by
  unfold State.plainByte
  split
  case h_17 => rfl
  all_goals omega

theorem State.plainByte_of_none {i : Nat} (past : 0x10 ≤ i) (other : ¬(0x60 ≤ i ∧ i < 0xA6)) : s.plainByte i = 0 := by
  rw [s.plainByte_of_ge past]
  exact if_neg (by omega)

theorem State.plainByte_staged {k : Nat} (within : k < 70) : s.plainByte (0x60 + k) = s.mgp.staged.byte k := by
  rw [s.plainByte_of_ge (by omega), if_pos (by omega), Nat.add_sub_cancel_left]

/-- Staged bytes read one by one, within the table's 70. -/
theorem State.map_plainByte_staged (eight : s.mgp.staged.windows.length = 8) {k n : Nat} (within : k + n ≤ 70) :
    (List.range n).map (fun j => s.plainByte (0x60 + k + j)) = (s.mgp.staged.toBytes.drop k).take n := by
  rw [← Table.map_byte (by rwa [Table.toBytes_length eight])]
  refine List.map_congr_left fun j hj => ?_
  rw [Nat.add_assoc]
  exact s.plainByte_staged (by have := List.mem_range.1 hj; omega)

/-! ### The views (R113, R183, R184) -/

theorem State.snapshotBytes_remapView : s.snapshotBytes 0x10 = s.remapView := rfl

theorem State.snapshotBytes_faultView {r : FaultRecord} (view : s.mgp.view = some r) : s.snapshotBytes 0x18 = r.toBytes := by
  change s.faultView = _
  simp only [State.faultView, view]

theorem State.snapshotBytes_noFault (view : s.mgp.view = none) :
    s.snapshotBytes 0x18 = [0, 0, 0, 0, 0, 0, 0, 0, 0, 0] := by
  change s.faultView = _
  simp only [State.faultView, view]

theorem State.snapshotBytes_hostError {e : HostError} (last : s.hp.lastErr = some e) : s.snapshotBytes 0x24 =
    [e.cause.code, e.dir.code, (e.addr.setWidth 24).extractLsb' 0 8, (e.addr.setWidth 24).extractLsb' 8 8,
      (e.addr.setWidth 24).extractLsb' 16 8] := by
  change s.hostErrorView = _
  simp only [State.hostErrorView, last]
  rw [List.append_assoc, hostAddress_bytes]
  rfl

theorem State.snapshotBytes_noHostError (last : s.hp.lastErr = none) : s.snapshotBytes 0x24 = [0, 0, 0, 0, 0] := by
  change s.hostErrorView = _
  simp only [State.hostErrorView, last]

end

/-- Settles O60: the fields by their indices, a byte of one field by what its bits are put together from, a field of several bytes by
the view, counter or window it stands for, and the staged bytes by their place in the table. -/
theorem mapReads : Obligations.MapReads := by
  refine ⟨snapshotField_eq, fun s => ?plain, fun s => ?fields, fun s => ?tables⟩
  case plain =>
    obtain ⟨config, remap, persist, loss, overflow, gone, clear⟩ := s.statusByte_bits
    obtain ⟨fence, persisted, restored, pending, zeros⟩ := s.mgp.eventFlags_bits
    refine ⟨?state, ?devices, config, remap, persist.trans ?persist, loss, overflow, gone, clear, rfl, rfl, rfl, rfl, fence,
      persisted, restored, ?pending, zeros, rfl, rfl, ?low, ?high, rfl, ?result, rfl, rfl,
      fun i _ past other => s.plainByte_of_none past other⟩
    case state =>
      change s.sc.state.code = _
      cases s.sc.state <;> rfl
    case devices =>
      refine s.deviceStates_eq.trans ?_
      dsimp only
      cases (s.dev .d0).state <;> cases (s.dev .d1).state <;> rfl
    case persist => cases s.wd.persist <;> rfl
    case pending => exact (iff_of_eq (congrArg (· = true) pending)).trans (by simp [ManagementPort.faultPending])
    case low => exact BitVec.setWidth_eq_extractLsb' (by decide)
    case high =>
      change (s.mgp.arg2 >>> 8).setWidth 8 = _
      ext i
      simp
    case result =>
      change s.mgp.result.code = _
      cases s.mgp.result <;> rfl
  case fields =>
    refine ⟨?remap, s.snapshotBytes_noFault, fun r view => ?fault, s.snapshotBytes_noHostError, fun e last => ?error,
      fun k x here => (s.snapshotBytes_counter here).trans (le32_toNat x)⟩
    case remap =>
      rw [State.snapshotBytes_remapView, State.remapView]
      cases s.ru.table[s.mgp.remapIndex]? with
      | none => rfl
      | some e => cases e with
        | remap d | failed d | retiredSpare d => cases d <;> rfl
    case fault =>
      rw [s.snapshotBytes_faultView view, r.toBytes_eq]
      refine congrArg₂ List.cons ?kind (congrArg₂ List.cons rfl (congrArg₂ List.cons ?device rfl))
      case kind => cases r.kind <;> rfl
      case device => rcases r.dev with - | - | - <;> rfl
    case error =>
      rw [s.snapshotBytes_hostError last]
      refine congrArg₂ List.cons ?cause (congrArg₂ List.cons ?dir rfl)
      case cause => cases e.cause <;> rfl
      case dir => cases e.dir <;> rfl
  case tables =>
    refine ⟨fun eight => ⟨fun k w here => ?window, ?params⟩, fun eight => ⟨fun k w here => ?stagedWindow, ?stagedParams⟩⟩
    case window =>
      have few : k < 8 := eight ▸ (List.getElem?_eq_some_iff.1 here).1
      rw [s.snapshotBytes_window few, Table.toBytes_window here, w.toBytes_eq]
    case params => exact s.wd.live.params.toBytes_eq
    case stagedWindow =>
      have few : k < 8 := eight ▸ (List.getElem?_eq_some_iff.1 here).1
      rw [s.map_plainByte_staged eight (by omega), Table.toBytes_window here, w.toBytes_eq]
    case stagedParams =>
      refine (s.map_plainByte_staged eight (k := 64) (n := 6) (Nat.le_refl _)).trans ?_
      rw [Table.toBytes_params eight, Params.toBytes_eq]
      rfl

end Sys2Proof.Machine
end

section
/-! Bytes written to the map: where the transaction stands, the fields, the arguments, the requests and the staged table (R176, R179,
R180, R187, R189). -/

namespace Sys2Proof.Machine

/- One theorem after another: waiting ones would each hold a thread. -/
set_option Elab.async false

/-! ### Where the transaction stands (R176)

A request changes much of the part, but not the transaction that brought it nor its index. -/

/-- The transaction under way and its index. -/
def ManagementPort.position (m : ManagementPort) : Transaction × Byte := (m.tx, m.index)

section
variable (s : State)

@[simp] theorem State.setResult_position (r : ReqResult) : (s.setResult r).mgp.position = s.mgp.position := rfl

@[simp] theorem State.count_position (c : Counter) (n : Nat) : (s.count c n).mgp.position = s.mgp.position := rfl

@[simp] theorem State.postFault_position (kind : FaultKind) (dev : Option Dev) (page n : Option Nat) :
    (s.postFault kind dev page n).mgp.position = s.mgp.position := by
  rw [State.postFault_eq, State.setMgp_mgp, ManagementPort.faulted]
  split <;> rfl

@[simp] theorem State.complete_position (cause : Option Cause) (data : Half) :
    (s.complete cause data).mgp.position = s.mgp.position := by
  unfold State.complete
  (repeat' split) <;> rfl

@[simp] theorem State.refuseHeld_position : s.refuseHeld.mgp.position = s.mgp.position := by
  unfold State.refuseHeld
  split <;> simp

@[simp] theorem State.enterRestarting_position : s.enterRestarting.mgp.position = s.mgp.position := by
  simp [State.enterRestarting, State.leaveRun]

@[simp] theorem State.loseContext_position (d : Dev) (c : Ctx) (kind : FaultKind) :
    (s.loseContext d c kind).mgp.position = s.mgp.position := by
  simp [State.loseContext, State.declareLost]

@[simp] theorem State.enterAwait_position (d : Dev) (c : Ctx) : (s.enterAwait d c).mgp.position = s.mgp.position := by
  unfold State.enterAwait
  dsimp only
  (repeat' split) <;> simp

@[simp] theorem State.unremappable_position (d : Dev) (c : Ctx) (changed : Bool) :
    (s.unremappable d c changed).mgp.position = s.mgp.position := by
  unfold State.unremappable
  split <;> simp

/-- The context is new: it has no image yet, so that the flow reads the old page or finds no spare. -/
@[simp] theorem State.retireOnRequest_position (d : Dev) (page : Nat) :
    (s.retireOnRequest d page).mgp.position = s.mgp.position := by
  unfold State.retireOnRequest State.retireRead
  dsimp only
  split <;> simp [newCtx]

theorem State.swap_position {t : State} (h : s.swap = some t) : t.mgp.position = s.mgp.position := by
  unfold State.swap at h
  (repeat' split at h) <;> cases h <;> rfl

theorem State.takeCommit_position : s.takeCommit.mgp.position = s.mgp.position := by
  cases refusal : s.commitRefusal with
  | some r => rw [State.takeCommit_refused refusal, State.setResult_position]
  | none =>
    rw [State.takeCommit_accepted refusal]
    cases swapped : s.imageTaken.swap with
    | none => rfl
    | some t =>
      have kept := State.swap_position _ swapped
      exact kept

theorem State.takeFence_position : s.takeFence.mgp.position = s.mgp.position := by
  obtain ⟨tx, index⟩ := (s.setResult (if s.fenceDoneAtOnce then .done else .accepted)).fenceArrival_position
  exact Prod.ext tx index

theorem State.takeRestart_position : s.takeRestart.mgp.position = s.mgp.position := by
  unfold State.takeRestart
  split <;> simp

theorem State.takeRetirePage_position : s.takeRetirePage.mgp.position = s.mgp.position := by
  unfold State.takeRetirePage
  (repeat' split) <;> simp

theorem State.takeSelectRemap_position : s.takeSelectRemap.mgp.position = s.mgp.position := by
  unfold State.takeSelectRemap
  split <;> rfl

theorem State.takeClearStatus_position : s.takeClearStatus.mgp.position = s.mgp.position := by
  unfold State.takeClearStatus
  dsimp only
  split <;> rfl

theorem State.takeCode_position (code : Byte) : (s.takeCode code).mgp.position = s.mgp.position := by
  unfold State.takeCode
  split
  case h_1 => exact s.takeCommit_position
  case h_2 => exact s.takeFence_position
  case h_3 => exact s.takeRestart_position
  case h_4 => exact s.takeRetirePage_position
  case h_5 => rfl
  case h_6 => exact s.takeSelectRemap_position
  case h_7 => rfl
  case h_8 => exact s.takeClearStatus_position
  case h_9 => rfl

theorem State.requestEvent_position (code : Byte) : (s.requestEvent code).mgp.position = s.mgp.position := by
  unfold State.requestEvent State.request
  dsimp only
  split
  · rfl
  · exact State.takeCode_position _ code

end

theorem ManagementPort.writeRemapIndex_position (m : ManagementPort) (b : Byte) :
    (m.writeRemapIndex b).position = m.position := by
  unfold ManagementPort.writeRemapIndex
  split <;> rfl

/-! ### A byte at the index of a write transaction (R176) -/

section
variable {s t : State} {b : Byte}

theorem State.advanceAt_of_position {i : Byte} (at' : t.mgp.position = (.writing, i)) : t.advanceAt i = t.advance :=
  if_pos (Prod.ext_iff.1 at')

theorem State.byteWritten_of_writing (writing : s.mgp.tx = .writing) (b : Byte) :
    s.byteWritten b = (s.writeMap s.mgp.index.toNat b).advance :=
  if_pos writing

theorem State.event_congr {f g : State → State} (same : f s = g s) : s.event f = s.event g := by
  rw [State.event, State.event, same]

/-- A byte written where the transaction stands is the byte of the field there, written by name. -/
theorem State.exec_mapByteWrite (writing : s.mgp.tx = .writing) {i : Byte} (index : s.mgp.index = i)
    (write : State → State) (gives : s.writeMap i.toNat b = write s) (kept : (write s).mgp.position = s.mgp.position) :
    exec (.mapByteWrite b) s = .next (s.event fun s => (write s).advanceAt i) := by
  subst index
  have same : s.byteWritten b = (write s).advanceAt s.mgp.index := by
    have stands : s.mgp.position = (.writing, s.mgp.index) := Prod.ext writing rfl
    rw [State.byteWritten_of_writing writing, gives, State.advanceAt_of_position (kept.trans stands)]
  exact congrArg Host.Outcome.next (State.event_congr same)

/-- A byte whose whole effect is on the port: the index advances, and the byte is acknowledged. -/
theorem State.exec_mapByteWrite_port (alive : s.alive = true) (settled : s.settled) (writing : s.mgp.tx = .writing)
    {m : ManagementPort} (gives : s.writeMap s.mgp.index.toNat b = s.setMgp m) : exec (.mapByteWrite b) s =
      .next (s.setMgp { m with index := m.index + 1, acked := true }) := by
  refine State.next_event_of_setMgp alive settled ?_
  rw [State.byteWritten_of_writing writing, gives]
  rfl

/-- A field's byte written by name is taken as `State.byteTaken` says (log 17). -/
theorem State.next_event_field (alive : s.alive = true) (settled : s.settled) (i : Byte) (write : ManagementPort → ManagementPort) :
    (.next (s.event fun s => (s.setMgp (write s.mgp)).advanceAt i) : Host.Outcome State Fault Refusal) =
      .next (s.setMgp ((write s.mgp).byteTaken i)) :=
  State.next_event_of_setMgp alive settled (State.advanceAt_eq _ _)

theorem State.writeMap_staged {i : Nat} (low : 0x60 ≤ i) (high : i ≤ 0xA5) :
    s.writeMap i b = s.setMgp { s.mgp with staged := s.mgp.staged.setByte (i - 0x60) b } := by
  unfold State.writeMap
  split
  case h_8 => exact if_pos ⟨low, high⟩
  all_goals omega

/-- An index of no field, and one of a read-only field. -/
theorem State.writeMap_ignored {i : Nat} (ignores : i < 0x07 ∨ 0x0D ≤ i ∧ i ≠ 0x0F ∧ i < 0x60 ∨ 0xA5 < i) :
    s.writeMap i b = s := by
  unfold State.writeMap
  split
  case h_8 => exact if_neg (by omega)
  all_goals omega

end

/-! ### The second argument (R189) -/

section
variable (a : Half) (b : Byte)

theorem bytes_append : a.extractLsb' 8 8 ++ a.extractLsb' 0 8 = a :=
  (BitVec.extractLsb'_append_extractLsb'_eq_extractLsb' (w := 16) (start₁ := 0) (len₁ := 8) rfl).trans BitVec.extractLsb'_eq_self

theorem arg2_low : (a &&& 0xFF00) ||| b.setWidth 16 = a.extractLsb' 8 8 ++ b := by
  have mask : (0xFF00 : Half) = BitVec.allOnes 8 ++ 0#8 := rfl
  have byte : b.setWidth 16 = 0#8 ++ b := BitVec.setWidth_eq_append (by decide)
  calc (a &&& 0xFF00) ||| b.setWidth 16
      = ((a.extractLsb' 8 8 ++ a.extractLsb' 0 8) &&& (BitVec.allOnes 8 ++ 0#8)) ||| (0#8 ++ b) := by
        rw [bytes_append, mask, byte]
    _ = a.extractLsb' 8 8 ++ b := by
        simp only [BitVec.and_append, BitVec.or_append, BitVec.and_allOnes, BitVec.and_zero, BitVec.or_zero, BitVec.zero_or]

theorem arg2_high : (a &&& (0x00FF : Half)) ||| (b.setWidth 16 <<< 8) = b ++ a.extractLsb' 0 8 := by
  have mask : (0x00FF : Half) = 0#8 ++ BitVec.allOnes 8 := rfl
  have byte : b.setWidth 16 <<< 8 = b ++ 0#8 := by
    refine BitVec.eq_of_toNat_eq (Eq.trans ?_ (BitVec.toNat_append b 0#8).symm)
    simp only [BitVec.toNat_shiftLeft, BitVec.toNat_setWidth, BitVec.toNat_ofNat, Nat.shiftLeft_eq, Nat.zero_mod, Nat.or_zero]
    omega
  calc (a &&& (0x00FF : Half)) ||| (b.setWidth 16 <<< 8)
      = ((a.extractLsb' 8 8 ++ a.extractLsb' 0 8) &&& (0#8 ++ BitVec.allOnes 8)) ||| (b ++ 0#8) := by
        rw [bytes_append, mask, byte]
    _ = b ++ a.extractLsb' 0 8 := by
        simp only [BitVec.and_append, BitVec.or_append, BitVec.and_allOnes, BitVec.and_zero, BitVec.or_zero, BitVec.zero_or]

end

/-! ### A byte of the staged table (R179) -/

theorem le16_ofLe (x y : Byte) : le16 (BitVec.ofNat 16 (ofLe [x, y])).toNat = [x, y] := by
  have number : (BitVec.ofNat 16 (ofLe [x, y])).toNat = x.toNat + 256 * y.toNat := by
    simp only [ofLe, BitVec.toNat_ofNat]
    omega
  have low : BitVec.ofNat 8 (x.toNat + 256 * y.toNat) = x := BitVec.eq_of_toNat_eq (by simp; omega)
  have high : BitVec.ofNat 8 ((x.toNat + 256 * y.toNat) / 256) = y := BitVec.eq_of_toNat_eq (by simp; omega)
  rw [number, le16, low, high]

section
variable {bytes : List Byte}

theorem byte_field {k : Nat} (within : k + 1 ≤ bytes.length) :
    [BitVec.ofNat 8 (field bytes k 1)] = (bytes.drop k).take 1 := by
  obtain ⟨x, one⟩ : ∃ x, (bytes.drop k).take 1 = [x] := List.length_eq_one_iff.1 (by simp; omega)
  rw [field, one, ofLe_byte]

theorem half_field {k : Nat} (within : k + 2 ≤ bytes.length) :
    le16 (BitVec.ofNat 16 (field bytes k 2)).toNat = (bytes.drop k).take 2 := by
  obtain ⟨x, y, two⟩ : ∃ x y, (bytes.drop k).take 2 = [x, y] := List.length_eq_two.1 (by simp; omega)
  rw [field, two, le16_ofLe]

theorem WindowRecord.toBytes_ofBytes (enough : 8 ≤ bytes.length) :
    (WindowRecord.ofBytes bytes).toBytes = bytes.take 8 := by
  have fields : (WindowRecord.ofBytes bytes).toBytes = [BitVec.ofNat 8 (field bytes 0 1)] ++ [BitVec.ofNat 8 (field bytes 1 1)] ++
      le16 (BitVec.ofNat 16 (field bytes 2 2)).toNat ++ le16 (BitVec.ofNat 16 (field bytes 4 2)).toNat ++
      le16 (BitVec.ofNat 16 (field bytes 6 2)).toNat := rfl
  rw [fields, byte_field (by omega), byte_field (by omega), half_field (by omega), half_field (by omega), half_field (by omega)]
  simp only [List.drop_zero, ← List.take_add]

theorem Params.toBytes_ofBytes (size : bytes.length = 6) : (Params.ofBytes bytes).toBytes = bytes := by
  have fields : (Params.ofBytes bytes).toBytes = le16 (BitVec.ofNat 16 (field bytes 0 2)).toNat ++
      [BitVec.ofNat 8 (field bytes 2 1)] ++ [BitVec.ofNat 8 (field bytes 3 1)] ++ [BitVec.ofNat 8 (field bytes 4 1)] ++
      [BitVec.ofNat 8 (field bytes 5 1)] := rfl
  rw [fields, half_field (by omega), byte_field (by omega), byte_field (by omega), byte_field (by omega), byte_field (by omega)]
  simp only [List.drop_zero, ← List.take_add]
  exact List.take_of_length_le (by omega)

end

theorem flatMap_chunks (bytes : List Byte) (n k : Nat) :
    (List.range k).flatMap (fun i => (bytes.drop (n * i)).take n) = bytes.take (n * k) := by
  induction k with
  | zero => simp
  | succ k ih => rw [List.range_succ, List.flatMap_append, ih, List.flatMap_singleton, Nat.mul_succ, List.take_add]

theorem Table.toBytes_ofBytes {bytes : List Byte} (size : bytes.length = 70) : (Table.ofBytes bytes).toBytes = bytes := by
  have windows : (List.range 8).flatMap (fun i => (WindowRecord.ofBytes (bytes.drop (8 * i))).toBytes) = bytes.take 64 := by
    rw [← flatMap_chunks bytes 8 8]
    refine List.flatMap_congr fun i hi => WindowRecord.toBytes_ofBytes ?_
    have := List.mem_range.1 hi
    rw [List.length_drop]
    omega
  rw [Table.toBytes, Table.ofBytes, List.flatMap_map, windows, Params.toBytes_ofBytes (by simp [size]), List.take_append_drop]

theorem Table.toBytes_setByte {t : Table} (eight : t.windows.length = 8) (i : Nat) (b : Byte) :
    (t.setByte i b).toBytes = t.toBytes.set i b :=
  Table.toBytes_ofBytes (by rw [List.length_set, Table.toBytes_length eight])

/-- Settles O58: a field by its own row, a request code by the position that its request keeps, and the other bytes by what is written
at their index. -/
theorem mapWrites : Obligations.MapWrites := by
  refine ⟨fun s b alive settled => ?fields, fun s b writing => ⟨fun index => ?at7, fun index => ?at8, fun index => ?atF,
    fun index => ?code⟩, fun s b alive settled writing => ?bytes⟩
  case fields =>
    dsimp only
    simp only [State.byteTaken_eq_setMgp]
    refine ⟨State.next_event_field alive settled 0x07 (·.writeEventFlags b),
      State.next_event_field alive settled 0x08 (·.writeEnables b),
      (State.next_event_field alive settled 0x0F (·.writeRemapIndex b)).trans ?_⟩
    rw [ManagementPort.writeRemapIndex]
    split <;> rfl
  case at7 => exact State.exec_mapByteWrite writing index (fun s => s.setMgp (s.mgp.writeEventFlags b)) rfl rfl
  case at8 => exact State.exec_mapByteWrite writing index (fun s => s.setMgp (s.mgp.writeEnables b)) rfl rfl
  case atF =>
    exact State.exec_mapByteWrite writing index (fun s => s.setMgp (s.mgp.writeRemapIndex b)) rfl
      (s.mgp.writeRemapIndex_position b)
  case code =>
    refine (State.exec_mapByteWrite writing index (fun s => s.requestEvent b) rfl (s.requestEvent_position b)).trans ?_
    have written {n : Nat} (code : b.toNat = n) : b = BitVec.ofNat 8 n := by rw [← code, BitVec.ofNat_toNat, BitVec.setWidth_eq]
    split
    case h_9 => rfl
    all_goals next code =>
      obtain rfl := written code
      rfl
  case bytes =>
    have writes {m : ManagementPort} (gives : s.writeMap s.mgp.index.toNat b = s.setMgp m) :=
      State.exec_mapByteWrite_port alive settled writing gives
    refine ⟨fun index => ?arg1, fun index => ?low, fun index => ?high, fun first last eight => ?staged, fun ignores => ?ignored⟩
    case arg1 => exact writes (by rw [index]; rfl)
    case low =>
      rw [← arg2_low]
      exact writes (by rw [index]; rfl)
    case high =>
      rw [← arg2_high]
      exact writes (by rw [index]; rfl)
    case staged => exact ⟨s.mgp.staged.setByte _ b, writes (State.writeMap_staged first last), Table.toBytes_setByte eight _ b⟩
    case ignored => exact writes (State.writeMap_ignored (ignores.imp_right
      (Or.imp_left fun ⟨low, other, high⟩ => ⟨low, fun h => other (BitVec.eq_of_toNat_eq h), high⟩)))

end Sys2Proof.Machine
end

section
/-! One step, and what a command leaves of the queue of commands (log 2). -/

namespace Sys2Proof.Machine

/- One theorem after another: waiting ones would each hold a thread. -/
set_option Elab.async false

section
variable {s : State}

theorem step_of_pending_cons {c : Instr} {rest : List Instr} (waits : s.pending = c :: rest) :
    step s = exec c (s.setPending rest) := by
  simp [step, waits]

theorem step_of_pending_nil (empty : s.pending = []) : step s = .next (s.event State.tick) := by
  simp [step, empty, State.idle]

theorem State.event_pending {f : State → State} (kept : (f s).pending = s.pending) : (s.event f).pending = s.pending := by
  unfold State.event
  split
  · exact (f s).settle_pending.trans kept
  · rfl

theorem State.named_pending {f : State → Option State} (kept : ∀ t, f s = some t → t.pending = s.pending) :
    (s.named f).pending = s.pending := by
  refine State.event_pending ?_
  cases due : f s with
  | none => rfl
  | some t => exact kept t due

theorem State.request_pending (code : Byte) {take : State → State} (kept : ∀ u : State, (take u).pending = u.pending) :
    (s.request code take).pending = s.pending := by
  unfold State.request
  dsimp only
  split <;> simp [kept]

/-- No command is refused or faults. -/
theorem exec_answers (i : Instr) (s : State) : ∃ t, exec i s = .next t := by
  cases i <;> exact ⟨_, rfl⟩

/-- The queue belongs to `step` alone: a command is an event, a step that is due, a request, or a change of the lines, and none of
these reaches it. -/
theorem exec_pending {i : Instr} {t : State} (h : exec i s = .next t) : t.pending = s.pending := by
  have event {f : State → State} (kept : (f s).pending = s.pending := by simp) :
      (s.event f).pending = s.pending := State.event_pending kept
  have named {f : State → Option State} (kept : ∀ t, f s = some t → t.pending = s.pending) :
      (s.named f).pending = s.pending := State.named_pending kept
  have request {code : Byte} {take : State → State} (kept : ∀ u : State, (take u).pending = u.pending := by simp) :
      (s.event fun s => (s.request code take).advanceAt 0x0C).pending = s.pending :=
    State.event_pending (by simp [State.request_pending code kept])
  cases i <;> injection h with h <;> subst h
  case hostAccessArrival | hostStrobeRelease | stallLimitExpiry | sealDeadlineExpiry => exact event
  case fenceLineRisingEdge | pdonePulseStart | pdonePulseEnd => exact event
  case memoryTransferEnd | statusPollDue | suspendAckLimitExpiry | programTimeLimitExpiry | metadataProgramTimeExpiry |
      resetDeadlineExpiry => exact event
  case eventFlagsWrite | eventEnablesWrite | remapViewIndexWrite | mapByteWrite => exact event
  case indexSet | snapshotCapture | transactionStart | transactionEnd => exact event
  case commit | fence | restart | retirePage | popFault | selectRemap | clearCounters | clearStatus | unknownRequestCode =>
    exact request
  case pendingAllocationFill => exact named fun _ h => (State.fillPending_frame h).1
  case markerCompletion => exact named fun _ h => (State.completeHead_frame h).1
  case writeThroughCompletion => exact named fun _ h => (State.completeWait_frame h).1
  case arbiterGrant => exact named fun _ h => (State.grant_frame h).1
  case drainGather d => exact named fun _ h => (State.gather_frame d h).1
  case persistDoneContextEnd d => exact named fun _ h => (State.endContext_frame d h).1
  case persistStart => exact named fun _ h => (State.startPersist_frame h).1
  case writeRequestTaken => exact named fun _ h => (State.takeWrite_frame h).1
  case commitSwap => exact named fun _ h => (State.swap_frame h).1
  case holdupEnd => exact named fun _ h => (State.holdupEnd_frame h).1
  case stoppedQuietReset => exact named fun _ h => (State.stoppedReset_frame h).1
  case replayEnd => exact named fun _ h => (State.replayEnd_frame h).1
  case restartEnd => exact named fun _ h => (State.restartEnd_frame h).1
  case pfailAssert | pfailRelease => split <;> simp [State.event_pending]
  case resetAssert | powerLoss => (repeat' split) <;> simp
  case resetRelease =>
    (repeat' split)
    · exact event
    · rfl
    · simp
  case powerUp pfail madr =>
    have lost : (if s.pins.powered then s.supplyLost else s).pending = s.pending := by split <;> simp
    simp [State.event_pending, lost]

end

/-- Settles O1: a step by the queue's two forms, and a command by its answer and what it leaves of the queue. -/
theorem stepRunsFrontCommand : Obligations.StepRunsFrontCommand := by
  refine ⟨fun c rest s => step_of_pending_cons, fun s => step_of_pending_nil, fun i s => ?answers⟩
  obtain ⟨t, answer⟩ := exec_answers i s
  exact ⟨t, answer, exec_pending answer⟩

end Sys2Proof.Machine
end
